-- ==== Sys2Proof/Word.lean ====
section
/-!
DEFINITION. The word types of the Kotrel K46 and their plainest arithmetic
(spec/00_scope.md, Conventions).
-/

namespace Sys2Proof

/-- One byte of the link port or of the exchange memory. -/
abbrev Byte := BitVec 8

/-- A 16-bit field: a tag, a mark, a staging offset. -/
abbrev Half := BitVec 16

/-- A 32-bit field: a part time, a meter value, a sequence number, an account. -/
abbrev Word := BitVec 32

/-- The memory pointer of the link port (R6). -/
abbrev Pointer := BitVec 14

/-- "Ceil" of 00_scope: division rounded toward plus infinity. -/
def ceilDiv (a b : Nat) : Nat := (a + b - 1) / b

/-- The nearer end of the range `lo..hi` for a value outside it. -/
def clampNat (lo hi n : Nat) : Nat := if n < lo then lo else if hi < n then hi else n

/-- The nearer end of the range `lo..hi` for a signed value outside it. -/
def clampInt (lo hi n : Int) : Int := if n < lo then lo else if hi < n then hi else n

end Sys2Proof
end

