-- ==== Sys2Proof/Config.lean ====
section
/-!
DEFINITION. What the spec fixes for the part K46: the memory map (R1), the limits and the
fixed levels its rules name, and the one free value: what the spec says in two ways of the result
fields of a withdrawn standing order (`withdrawnShows`, log entry 11).
-/

namespace Sys2Proof.Config

/-- Size of the exchange memory (R1). -/
def memSize : Nat := 16384

/-- First byte of order slot 0 (R1). -/
def slotBase : Nat := 0x0040
/-- Bytes of one order slot (R1). -/
def slotSize : Nat := 64
/-- Live copy A (R1). -/
def copyA : Nat := 0x0440
/-- Live copy B (R1). -/
def copyB : Nat := 0x0540
/-- First byte of the staging area (R1). -/
def stagingFirst : Nat := 0x0640
/-- Last byte of the staging area (R1). -/
def stagingLast : Nat := 0x1FFF
/-- First byte of the billing journal (R1). -/
def journalBase : Nat := 0x2000
/-- Records the journal holds (R1). -/
def journalSlots : Nat := 128

/-- Header: journal write mark W (R2). -/
def hdrW : Nat := 0x0004
/-- Header: journal read mark Rd (R2). -/
def hdrRd : Nat := 0x0006
/-- Header: halt level (R2). -/
def hdrHalt : Nat := 0x0008
/-- Header: resume level (R2). -/
def hdrResume : Nat := 0x0009
/-- Header: fresh copy index (R2, R21). -/
def hdrFresh : Nat := 0x000A
/-- Header: held-record indicator (R2, R101). -/
def hdrHeld : Nat := 0x000B
/-- Header: flagged-unread indicator (R2, R97). -/
def hdrFlagged : Nat := 0x000C
/-- Header: grant renewal byte (R2, R12). -/
def hdrRenewal : Nat := 0x000D

/-- One Wh in mJ (R55). -/
def mJPerWh : Nat := 3600000
/-- The limit of the counted inlet energy of one frame, in mJ (R49). -/
def inletLimit : Nat := 7200000
/-- The largest raw frame energy the AFE delivers, in counts (R45). -/
def rawLimit : Int := 8388607
/-- The largest value of the reverse register (R51). -/
def reverseLimit : Nat := 4294967295

/-- The merge count stays at this value (R103). -/
def mergeLimit : Nat := 65535
/-- ABOVE_RANGE of an insulation resistance, as every field shows it (R157). -/
def aboveRange : Nat := 65535
/-- The age of the last valid result stops rising here, in tenths of a second (R162). -/
def ageLimit : Nat := 655350

/-- The close timer, 200 ms (R170), in tenths of a second, as the four below. -/
def closeLimit : Nat := 2
/-- The no-need timer, 10 s (R172). -/
def noNeedLimit : Nat := 100
/-- The timer of the current wait, 2 s (R174). -/
def currentWaitLimit : Nat := 20
/-- The timer of the release phase, 300 ms (R175). -/
def releaseLimit : Nat := 3
/-- The uncommanded-closure timer, 300 ms (R176). -/
def closureLimit : Nat := 3

/-- Whether a running standing order of a code that a WITHDRAW ends shows the result fields of its
chapter (R127, R146) or 00h (R38). The spec says both and settles neither, so the value is free
(DESIGN CHOICE, log entry 11). -/
opaque withdrawnShows : Byte → Bool

end Sys2Proof.Config
end

