-- ==== Sys2Proof/Syntax.lean ====
section
/-!
DEFINITION. The commands of the K46: one constructor per row of spec/opcode_table.json.
The table gives its rows no bits and no fields, so each operand is read from the row's rules.
-/

namespace Sys2Proof

/-- Levels of the four input pins (11_formats, pin list): INFB shows closed, PKON, PMRDY and
PMFLT asserted. -/
structure Pins where
  infb : Bool
  pkon : Bool
  pmrdy : Bool
  pmflt : Bool
  deriving DecidableEq, Repr

/-- One channel of a metering frame as the AFE measured it (R45). -/
structure RawChannel where
  energy : Int
  overrange : Bool
  deriving DecidableEq, Repr

/-- One AC inlet phase over a frame: RMS voltage in dV and RMS current in dA (R46). -/
structure Phase where
  voltage : Nat
  current : Nat
  deriving DecidableEq, Repr

/-- A completed metering frame: four raw channels and the measured readings (R44 to R46). -/
structure Frame where
  inlet : RawChannel
  pack : RawChannel
  heater : RawChannel
  aux : RawChannel
  phases : List Phase
  packVoltage : Int
  packCurrent : Int
  deriving DecidableEq, Repr

/-- A completed temperature scan: pack channels 0 to 7 and the plate, in 0.1 °C; a value
outside −400..1250 is an out-of-range verdict (R130). -/
structure Scan where
  pack : Vector Int 8
  plate : Int
  deriving DecidableEq, Repr

/-- Number of an order slot (R23). -/
abbrev SlotNo := Fin 16

/-- An order as copied at its post: its code with the parameters its layout defines
(R25, the order table of 11_formats). Signed parameters stand as their 16 bits. -/
inductive Order where
  | withdraw (target : Byte)
  | clearTrip
  | setClock (newTime : Word)
  | loadTariff (offset : Half) (count : Byte)
  | openSession (id battery heating aux : Word)
  | closeSession (id : Word)
  | calibrateMeter (channel : Byte) (gain : Word) (offset : Half)
  | setJournalLevels (halt resume : Byte)
  | setGrant (grant fallback : Half) (period : Byte)
  | charge (maxCurrent vLim endCurrent : Half)
  | setPowerStage (eta stageMax : Half) (sUp : Byte) (rH heaterMax : Half)
  | heat (target band hysteresis pMax : Half) (source policy mode : Byte)
  | loadAcceptance (offset : Half) (count : Byte)
  | setSensors (mask : Byte) (packCap plateLimit : Half)
  | checkInsulation
  | setInsulation (rM uInj warn fault : Half) (k window : Byte)
  | unknown (code : Byte)
  deriving DecidableEq, Repr

/-- The commands: one constructor per row of spec/opcode_table.json, in the table's order. The
operands are read from the rules a row names (DEDUCED, log entry 24). -/
inductive Instr where
  /-- POWER_ON_RESET (R20); the input levels as the reset ends. -/
  | powerOnReset (levels : Pins)
  /-- START_BYTE_REJECTED (R4); the start byte received. -/
  | startByteRejected (start : Byte)
  /-- POINTER_WRITE (R6); the whole data bytes received. -/
  | pointerWrite (data : List Byte)
  /-- POINTER_READ (R7); the number of whole bytes clocked. -/
  | pointerRead (clocked : Nat)
  /-- WINDOW_WRITE (R8); one data byte, aimed at the pointer's address. -/
  | windowWrite (value : Byte)
  /-- WINDOW_READ (R9); the number of whole bytes clocked. -/
  | windowRead (clocked : Nat)
  /-- SLOT_STATE_WRITE (R10); one WINDOW data byte. -/
  | slotStateWrite (value : Byte)
  /-- READ_MARK_HIGH_BYTE_WRITE (R11); one WINDOW data byte. -/
  | readMarkHighByteWrite (value : Byte)
  /-- READ_MARK_LOW_BYTE_WRITE (R95); one WINDOW data byte. -/
  | readMarkLowByteWrite (value : Byte)
  /-- GRANT_RENEWAL (R107); one WINDOW data byte. -/
  | grantRenewal (value : Byte)
  /-- CAUSE_READ (R16); the number of whole bytes clocked. -/
  | causeRead (clocked : Nat)
  /-- CAUSE_ACKNOWLEDGE (R17); one cause code. -/
  | causeAcknowledge (code : Byte)
  /-- CONTROL_READ (R18); the number of whole bytes clocked. -/
  | controlRead (clocked : Nat)
  /-- MASK_WRITE (R18); the first data byte of a CONTROL write. -/
  | maskWrite (mask : Byte)
  /-- LINK_RESET_REQUEST (R18); the mode byte of a CONTROL write. -/
  | linkResetRequest (mode : Byte)
  /-- TRANSACTION_END (R3). -/
  | transactionEnd
  /-- LINK_RESET (R19). -/
  | linkReset
  /-- SLOT_STATE_NOTICE (R24): the oldest notice handed over. -/
  | slotStateNotice
  /-- WITHDRAW (R38). -/
  | withdraw (slot : SlotNo) (tag : Half) (target : Byte)
  /-- CLEAR_TRIP (R40). -/
  | clearTrip (slot : SlotNo) (tag : Half)
  /-- SET_CLOCK (R65). -/
  | setClock (slot : SlotNo) (tag : Half) (newTime : Word)
  /-- LOAD_TARIFF (R68). -/
  | loadTariff (slot : SlotNo) (tag : Half) (offset : Half) (count : Byte)
  /-- OPEN_SESSION (R81). -/
  | openSession (slot : SlotNo) (tag : Half) (id battery heating aux : Word)
  /-- CLOSE_SESSION (R86). -/
  | closeSession (slot : SlotNo) (tag : Half) (id : Word)
  /-- CLOSE_SESSION_END_CLOSE (R87). -/
  | closeSessionEndClose
  /-- CLOSE_SESSION_COMPLETE (R88). -/
  | closeSessionComplete
  /-- CALIBRATE_METER (R61); the offset as its 16 bits. -/
  | calibrateMeter (slot : SlotNo) (tag : Half) (channel : Byte) (gain : Word) (offset : Half)
  /-- SET_JOURNAL_LEVELS (R100). -/
  | setJournalLevels (slot : SlotNo) (tag : Half) (halt resume : Byte)
  /-- SET_GRANT (R105). -/
  | setGrant (slot : SlotNo) (tag : Half) (grant fallback : Half) (period : Byte)
  /-- CHARGE (R122). -/
  | charge (slot : SlotNo) (tag : Half) (maxCurrent vLim endCurrent : Half)
  /-- SET_POWER_STAGE (R121). -/
  | setPowerStage (slot : SlotNo) (tag : Half) (eta stageMax : Half) (sUp : Byte) (rH heaterMax : Half)
  /-- HEAT (R140). -/
  | heat (slot : SlotNo) (tag : Half) (target band hysteresis pMax : Half) (source policy mode : Byte)
  /-- LOAD_ACCEPTANCE (R137). -/
  | loadAcceptance (slot : SlotNo) (tag : Half) (offset : Half) (count : Byte)
  /-- SET_SENSORS (R133). -/
  | setSensors (slot : SlotNo) (tag : Half) (mask : Byte) (packCap plateLimit : Half)
  /-- CHECK_INSULATION (R164). -/
  | checkInsulation (slot : SlotNo) (tag : Half)
  /-- SET_INSULATION (R167). -/
  | setInsulation (slot : SlotNo) (tag : Half) (rM uInj warn fault : Half) (k window : Byte)
  /-- METERING_FRAME (R44). -/
  | meteringFrame (frame : Frame)
  /-- FRAME_REPORT (R83): the oldest frame report handed over. -/
  | frameReport
  /-- PART_TIME_TICK (R63). -/
  | partTimeTick
  /-- CONTROL_PERIOD (R113). -/
  | controlPeriod
  /-- KEEPALIVE_HALF_PERIOD (R106). -/
  | keepaliveHalfPeriod
  /-- KEEPALIVE_EXPIRY (R106). -/
  | keepaliveExpiry
  /-- TEMPERATURE_SCAN (R130). -/
  | temperatureScan (scan : Scan)
  /-- PKON_ASSERTED (R150). -/
  | pkonAsserted
  /-- PKON_NEGATED (R149). -/
  | pkonNegated
  /-- HALF_PERIOD_END (R152); the node voltage U in mV the AFE samples. -/
  | halfPeriodEnd (u : Int)
  /-- FRESHNESS_EXPIRY (R162). -/
  | freshnessExpiry
  /-- CHECK_INSULATION_TIMEOUT (R165). -/
  | checkInsulationTimeout
  /-- STATUS_PERIOD (R21). -/
  | statusPeriod
  /-- PMFLT_ASSERTED (R181). -/
  | pmfltAsserted
  /-- PMRDY_NEGATED (R128). -/
  | pmrdyNegated
  /-- PMRDY_ASSERTED (R128). -/
  | pmrdyAsserted
  /-- INFB_SHOWS_CLOSED (R171). -/
  | infbShowsClosed
  /-- INFB_SHOWS_OPEN (R175). -/
  | infbShowsOpen
  /-- CLOSE_TIMER_EXPIRY (R171). -/
  | closeTimerExpiry
  /-- NO_NEED_TIMER_EXPIRY (R172). -/
  | noNeedTimerExpiry
  /-- CURRENT_WAIT_TIMEOUT (R174). -/
  | currentWaitTimeout
  /-- RELEASE_TIMER_EXPIRY (R175). -/
  | releaseTimerExpiry
  /-- UNCOMMANDED_CLOSURE_EXPIRY (R176). -/
  | uncommandedClosureExpiry
  /-- TRANSACTION_START (R3). -/
  | transactionStart
  /-- PMFLT_NEGATED (R181). -/
  | pmfltNegated
  deriving DecidableEq, Repr

end Sys2Proof
end

