-- ==== Sys2Proof/WellFormed.lean ====
section
/-!
DEFINITION. Which commands the outside can send: the ranges the spec gives to what the AFE
delivers, and the one pattern a rejected start byte cannot have. Every other operand is held
in exactly the bits the spec gives it.
-/

namespace Sys2Proof

/-- The pattern 10110 in bits 7 to 3 that an accepted start byte carries (R4). -/
def startPattern (b : Byte) : Bool := b.extractLsb' 3 5 == 0b10110#5

/-- A raw frame energy lies in −8 388 607..+8 388 607 (R45). -/
def RawChannel.wf (c : RawChannel) : Bool :=
  decide (-Config.rawLimit ≤ c.energy) && decide (c.energy ≤ Config.rawLimit)

/-- The readings of a frame lie in their ranges (R46). -/
def Frame.wf (f : Frame) : Bool :=
  f.inlet.wf && f.pack.wf && f.heater.wf && f.aux.wf
    && f.phases.all (fun p => decide (p.voltage ≤ 3000) && decide (p.current ≤ 800))
    && decide (0 ≤ f.packVoltage) && decide (f.packVoltage ≤ 9000)
    && decide (-10000 ≤ f.packCurrent) && decide (f.packCurrent ≤ 10000)

/-- A command the outside can send. -/
def Instr.wf : Instr → Bool
  | .startByteRejected b => !startPattern b
  | .meteringFrame f => f.wf
  | .halfPeriodEnd u => decide (-20000 ≤ u) && decide (u ≤ 20000)
  | _ => true

end Sys2Proof
end

