-- ==== Sys2Proof/Decode.lean ====
section
/-!
DEFINITION. The decoders of the K46 and the byte-order helpers they use: multi-byte fields
(R185), the start byte of a transaction (R4), the order a slot's bytes 1 to 31 spell (order
code table of 02_orders, layouts of 11_formats), and the two staging tables (11_formats).
No row of spec/opcode_table.json is given bits, so no word spells a command.
-/

namespace Sys2Proof

/-- The `k` low bytes of `n`, most significant first: `n` modulo 2 to the power of the field's
width (R185). -/
def beBytes : Nat → Nat → List Byte
  | 0, _ => []
  | k + 1, n => BitVec.ofNat 8 (n / 256 ^ k) :: beBytes k n

/-- A signed value as two's complement of `k` bytes, most significant first (R185). -/
def beInt (k : Nat) (i : Int) : List Byte := beBytes k (i % (256 : Int) ^ k).toNat

/-- A byte list padded with 00h, or cut, to exactly `n` bytes (R35, R185). -/
def padTo : Nat → List Byte → List Byte
  | 0, _ => []
  | n + 1, [] => 0 :: padTo n []
  | n + 1, b :: bs => b :: padTo n bs

/-- Two bytes as an unsigned 16-bit field, upper byte first (R185). -/
def half (hi lo : Byte) : Half := hi ++ lo

/-- Four bytes as an unsigned 32-bit field, most significant first (R185). -/
def word (b3 b2 b1 b0 : Byte) : Word := b3 ++ b2 ++ b1 ++ b0

/-- Direction of a transaction (R4, bit 2 of the start byte). -/
inductive Dir where
  | write
  | read
  deriving DecidableEq, Repr

/-- The four link targets (R4, bits 1 and 0 of the start byte). -/
inductive Target where
  | pointer
  | window
  | cause
  | control
  deriving DecidableEq, Repr

/-- The target code in bits 1 and 0 of a start byte (R4). -/
def decodeTarget (b : Byte) : Target :=
  if b.getLsbD 1 then (if b.getLsbD 0 then .control else .cause)
  else (if b.getLsbD 0 then .window else .pointer)

/-- A start byte: none when bits 7 to 3 are not 10110 (R4). -/
def decodeStart (b : Byte) : Option (Dir × Target) :=
  if startPattern b then some (if b.getLsbD 2 then .read else .write, decodeTarget b) else none

/-- Parameter byte `i` of a slot, from the copied bytes 4 to 31 (R25). -/
def param (ps : List Byte) (i : Nat) : Byte := ps.getD (i - 4) 0

/-- Parameter bytes `i` and `i + 1` as a 16-bit field (R185). -/
def param16 (ps : List Byte) (i : Nat) : Half := half (param ps i) (param ps (i + 1))

/-- Parameter bytes `i` to `i + 3` as a 32-bit field (R185). -/
def param32 (ps : List Byte) (i : Nat) : Word :=
  word (param ps i) (param ps (i + 1)) (param ps (i + 2)) (param ps (i + 3))

/-- The order that an order code and the parameter bytes 4 to 31 spell: the order code table
of 02_orders with the parameter layouts of 11_formats. Bytes an order does not define are
ignored (R37). -/
def decodeOrder (code : Byte) (ps : List Byte) : Order :=
  match code.toNat with
  | 0x01 => .withdraw (param ps 4)
  | 0x02 => .clearTrip
  | 0x10 => .setClock (param32 ps 4)
  | 0x11 => .loadTariff (param16 ps 4) (param ps 6)
  | 0x12 => .openSession (param32 ps 4) (param32 ps 8) (param32 ps 12) (param32 ps 16)
  | 0x13 => .closeSession (param32 ps 4)
  | 0x14 => .calibrateMeter (param ps 4) (param32 ps 5) (param16 ps 9)
  | 0x15 => .setJournalLevels (param ps 4) (param ps 5)
  | 0x20 => .setGrant (param16 ps 4) (param16 ps 6) (param ps 8)
  | 0x21 => .charge (param16 ps 4) (param16 ps 6) (param16 ps 8)
  | 0x22 => .setPowerStage (param16 ps 4) (param16 ps 6) (param ps 8) (param16 ps 9) (param16 ps 11)
  | 0x30 => .heat (param16 ps 4) (param16 ps 6) (param16 ps 8) (param16 ps 10)
      (param ps 12) (param ps 13) (param ps 14)
  | 0x31 => .loadAcceptance (param16 ps 4) (param ps 6)
  | 0x32 => .setSensors (param ps 4) (param16 ps 5) (param16 ps 7)
  | 0x40 => .checkInsulation
  | 0x41 => .setInsulation (param16 ps 4) (param16 ps 6) (param16 ps 8) (param16 ps 10)
      (param ps 12) (param ps 13)
  | _ => .unknown code

/-- The order code of an order (order code table of 02_orders). -/
def orderCode : Order → Byte
  | .withdraw _ => 0x01
  | .clearTrip => 0x02
  | .setClock _ => 0x10
  | .loadTariff _ _ => 0x11
  | .openSession _ _ _ _ => 0x12
  | .closeSession _ => 0x13
  | .calibrateMeter _ _ _ => 0x14
  | .setJournalLevels _ _ => 0x15
  | .setGrant _ _ _ => 0x20
  | .charge _ _ _ => 0x21
  | .setPowerStage _ _ _ _ _ => 0x22
  | .heat _ _ _ _ _ _ _ => 0x30
  | .loadAcceptance _ _ => 0x31
  | .setSensors _ _ _ => 0x32
  | .checkInsulation => 0x40
  | .setInsulation _ _ _ _ _ _ => 0x41
  | .unknown code => code

/-- The parameter bytes, from slot byte 4 on, that an order's layout defines (11_formats). -/
def orderParams : Order → List Byte
  | .withdraw target => [target]
  | .clearTrip => []
  | .setClock t => beBytes 4 t.toNat
  | .loadTariff offset count => beBytes 2 offset.toNat ++ [count]
  | .openSession id b h a =>
      beBytes 4 id.toNat ++ beBytes 4 b.toNat ++ beBytes 4 h.toNat ++ beBytes 4 a.toNat
  | .closeSession id => beBytes 4 id.toNat
  | .calibrateMeter channel gain offset =>
      [channel] ++ beBytes 4 gain.toNat ++ beBytes 2 offset.toNat
  | .setJournalLevels halt resume => [halt, resume]
  | .setGrant grant fallback period =>
      beBytes 2 grant.toNat ++ beBytes 2 fallback.toNat ++ [period]
  | .charge m v e => beBytes 2 m.toNat ++ beBytes 2 v.toNat ++ beBytes 2 e.toNat
  | .setPowerStage eta stageMax sUp rH heaterMax =>
      beBytes 2 eta.toNat ++ beBytes 2 stageMax.toNat ++ [sUp] ++ beBytes 2 rH.toNat
        ++ beBytes 2 heaterMax.toNat
  | .heat t b h p source policy mode =>
      beBytes 2 t.toNat ++ beBytes 2 b.toNat ++ beBytes 2 h.toNat ++ beBytes 2 p.toNat
        ++ [source, policy, mode]
  | .loadAcceptance offset count => beBytes 2 offset.toNat ++ [count]
  | .setSensors mask packCap plateLimit =>
      [mask] ++ beBytes 2 packCap.toNat ++ beBytes 2 plateLimit.toNat
  | .checkInsulation => []
  | .setInsulation rM uInj warn fault k window =>
      beBytes 2 rM.toNat ++ beBytes 2 uInj.toNat ++ beBytes 2 warn.toNat ++ beBytes 2 fault.toNat
        ++ [k, window]
  | .unknown _ => []

/-- The command a word spells. The table gives no row any bits, so no word spells one. -/
def decodeTableWord (_nbits _w : Nat) : Option Instr := none

end Sys2Proof
end

