-- ==== Sys2Proof/Machine/State.lean ====
section
/-!
DEFINITION. The state of the K46: every register, buffer, queue, counter, mode and pin the
spec gives its ten blocks, as plain data, the queue of waiting commands, and the state right
after a power-on reset (INVENTORY.md lists each field with its rule and its reset value).
-/

namespace Sys2Proof.Machine

/-- Reasons a step could stop the machine. The spec gives the part no fault: nothing stops
it, and no meaning raises one. -/
inductive Fault where
  /-- Raised by nobody: the spec names no event that stops the part (INVENTORY.md, Faults).
  Safe, because no step answers with it. -/
  | none
  deriving DecidableEq, Repr

/-- Reasons a command could have no meaning. -/
inductive Refusal where
  /-- A command that is not modelled yet, by its row's mnemonic. Raised by exec's refused arms
  only, of which there is none. Safe: the machine stops. -/
  | notModelled (mnemonic : String)
  deriving DecidableEq, Repr

/-- What a command answers. -/
abbrev Result (σ : Type) := Host.Outcome σ Fault Refusal

/-! ## Exchange memory -/

/-- The exchange memory (R1): address and byte pairs, addresses strictly rising, no byte 00h.
An unlisted address reads 00h, its content after a power-on reset. -/
abbrev Memory := List Host.Cell

/-- The memory right after a power-on reset: the header defaults of R2 and the START record
in journal slot 0 (R94, R186). -/
def resetMemory : Memory :=
  [(0x0000, 0x4B), (0x0001, 0x34), (0x0002, 0x36), (0x0003, 0x01), (0x0005, 0x01),
   (0x0008, 120), (0x0009, 96),
   (0x2004, 0x10), (0x201B, 0x4B), (0x201C, 0x34), (0x201D, 0x36), (0x201E, 0x01)]

/-! ## Link port -/

/-- Where the link port is in a transaction (R3, R4). -/
inductive LinkPhase where
  /-- KSEL is negated. -/
  | idle
  /-- KSEL is asserted and the next byte is the start byte. -/
  | opened
  /-- A start byte was rejected: the rest of the transaction is ignored (R4). -/
  | ignored
  /-- A start byte was accepted; `count` whole bytes have followed it. -/
  | transfer (dir : Dir) (target : Target) (count : Nat)
  deriving DecidableEq, Repr

/-- State of the link port (01). -/
structure Link where
  /-- Where the transaction stands (R3, R4). -/
  phase : LinkPhase
  /-- The memory pointer (R6). -/
  pointer : Pointer
  /-- The upper byte of a POINTER write, held until the second byte (R6). -/
  heldByte : Option Byte
  /-- The read-mark high-byte latch (R11). -/
  latch : Byte
  /-- The per-transaction refused flag (R3, R8). -/
  refused : Bool
  /-- The slot-state bytes written in this transaction, ascending slot order (R10). -/
  slotWrites : List (SlotNo × Byte)
  /-- A link reset was requested in this transaction (R18). -/
  resetRequested : Bool
  /-- A requested link reset is to be performed: its transaction has ended (R3, R19). -/
  resetDue : Bool
  /-- The read latch: the data bytes loaded and not yet delivered (R5). -/
  readLatch : List Byte
  /-- The model's own: the bytes delivered on KSDO in this transaction, first to last (DESIGN
  CHOICE, log entry 9). -/
  delivered : List Byte
  deriving DecidableEq, Repr

/-! ## Attention unit -/

/-- The eight causes, in the order of their codes 1 to 8 (R14). -/
inductive Cause where
  | trip
  | journalHalt
  | insulationWarn
  | grantDue
  | orderDone
  | journalNew
  | planEvent
  | writeRefused
  deriving DecidableEq, Repr

/-- State of the attention unit: the pending set, one field a cause, and the mask (R14, R15). -/
structure Attention where
  trip : Bool
  journalHalt : Bool
  insulationWarn : Bool
  grantDue : Bool
  orderDone : Bool
  journalNew : Bool
  planEvent : Bool
  writeRefused : Bool
  mask : Byte
  deriving DecidableEq, Repr

/-! ## Order engine -/

/-- The five slot states (R23). -/
inductive SlotState where
  | free
  | posted
  | waiting
  | running
  | done
  deriving DecidableEq, Repr

/-- The order engine's copy of a posted order (R25). -/
structure Posted where
  tag : Half
  order : Order
  deriving DecidableEq, Repr

/-- The order engine's record of one slot (R23). -/
structure Slot where
  state : SlotState
  posted : Option Posted
  deriving DecidableEq, Repr

/-- The five blocks that own orders (R28). -/
inductive Block where
  | general
  | billing
  | power
  | heating
  | insulation
  deriving DecidableEq, Repr

/-- One post queue for each block (R23). -/
structure Queues where
  general : List SlotNo
  billing : List SlotNo
  power : List SlotNo
  heating : List SlotNo
  insulation : List SlotNo
  deriving DecidableEq, Repr

/-- State of the order engine (02). -/
structure Orders where
  slots : Vector Slot 16
  queues : Queues
  /-- Slot-state notices handed over and not yet taken, oldest first (R10, R24). -/
  notices : List (SlotNo × Byte)
  deriving DecidableEq, Repr

/-! ## Metering unit -/

/-- One value for each billing category. -/
structure PerCat (α : Type) where
  battery : α
  heating : α
  aux : α
  deriving DecidableEq, Repr

/-- The calibration record of one channel (R47). -/
structure Channel where
  gain : Nat
  offset : Int
  residue : Nat
  uncalibrated : Bool
  deriving DecidableEq, Repr

/-- The readings of the most recent published frame, and the inlet power (R46). -/
structure Readings where
  inletVoltage : Nat
  inletCurrent : Nat
  packVoltage : Nat
  packCurrent : Int
  inletPower : Nat
  deriving DecidableEq, Repr

/-- One frame report, from the metering unit to the billing unit (R57). -/
structure FrameReport where
  counted : Bool
  eIn : Nat
  carries : PerCat Nat
  meterCarries : Nat
  mWh : Word
  reverse : Bool
  overrange : Bool
  uncalibrated : Bool
  deriving DecidableEq, Repr

/-- State of the metering unit (03). -/
structure Metering where
  inlet : Channel
  pack : Channel
  heater : Channel
  auxc : Channel
  /-- The category accumulators m_B, m_H, m_A in mJ (R55). -/
  acc : PerCat Nat
  /-- The meter accumulator m_M in mJ (R56). -/
  accM : Nat
  /-- The lifetime registers Wh_B, Wh_H, Wh_A (R55). -/
  wh : PerCat Word
  /-- The lifetime meter register M_Wh (R56). -/
  mWh : Word
  /-- The reverse register in mJ (R51). -/
  reverse : Nat
  readings : Readings
  /-- INFB showed closed at some time in the frame in progress (R50). -/
  closedSeen : Bool
  /-- Frame reports handed over and not yet taken, oldest first (R57). -/
  reports : List FrameReport
  deriving DecidableEq, Repr

/-! ## Billing unit -/

/-- One band of a tariff table (R67). -/
structure Band where
  start : Nat
  price : Nat
  deriving DecidableEq, Repr

/-- A tariff table: interval length L in minutes and its bands (R67). -/
structure Tariff where
  length : Nat
  bands : List Band
  deriving DecidableEq, Repr

/-- The flags of an interval and of a record (R75, R91). -/
structure RecFlags where
  clockUnset : Bool
  uncalibrated : Bool
  overrange : Bool
  reverse : Bool
  merged : Bool
  spansBands : Bool
  tariffDefault : Bool
  deriving DecidableEq, Repr

/-- An open interval (R75, R103). Its counts are whole numbers, stored modulo the width of a
record's field (DEDUCED, log entry 22). -/
structure Interval where
  start : Word
  bandStart : Nat
  meterStart : Word
  wh : PerCat Nat
  cost : PerCat Nat
  flags : RecFlags
  merges : Nat
  deriving DecidableEq, Repr

/-- The open orphan interval with its own carries (R84). -/
structure Orphan where
  interval : Interval
  carries : PerCat Int
  deriving DecidableEq, Repr

/-- The session context (R79), with the band in force at the open (R90) and the number of
INTERVAL records written (R87), which R79 does not list (DEDUCED, log entry 23). -/
structure Session where
  id : Word
  number : Nat
  battery : Word
  heating : Word
  aux : Word
  openTime : Word
  openBand : Nat
  intervalNo : Nat
  written : Nat
  wh : PerCat Nat
  cost : PerCat Nat
  carries : PerCat Int
  flags : RecFlags
  closing : Bool
  deriving DecidableEq, Repr

/-- What the result of a CLOSE SESSION reports (R88), fixed when SESSION_CLOSE is composed. -/
structure CloseSummary where
  number : Nat
  written : Nat
  wh : PerCat Nat
  cost : PerCat Nat
  carries : PerCat Int
  seq : Word
  deriving DecidableEq, Repr

/-- Where a running CLOSE SESSION waits (R86 to R88). -/
inductive ClosePhase where
  /-- Step 2: for the relay to reach OPEN or WELD to latch. -/
  | awaitRelay
  /-- Step 2 passed: for the held record to be empty. -/
  | awaitHeld
  /-- Step 5: for the records to enter the journal. -/
  | awaitJournal (summary : CloseSummary)
  deriving DecidableEq, Repr

/-- A running CLOSE SESSION: its slot, or none once a link reset has detached it (R42). -/
structure Closing where
  slot : Option SlotNo
  phase : ClosePhase
  deriving DecidableEq, Repr

/-- Causes for which an interval closes (R75). -/
inductive CloseCause where
  | none
  | boundary
  | band
  | tariff
  | clock
  | trip
  | hold
  | sessionEnd
  | relay
  deriving DecidableEq, Repr

/-- What a journal record holds beyond the common fields, by kind (R90, R186). -/
inductive RecordBody where
  | sessionOpen (id battery heating aux : Word)
  | interval (wh cost : PerCat Nat) (merges : Nat)
  | sessionClose (wh cost : PerCat Nat) (id : Word) (carries : PerCat Int)
  | orphan (wh cost : PerCat Nat) (carries : PerCat Int) (merges : Nat)
  | calibration (channel : Nat) (oldGain newGain : Nat) (oldOffset newOffset : Int)
      (wasUncalibrated : Bool) (reverse : Nat)
  | clock (oldTime newTime : Word) (wasSet : Bool)
  deriving DecidableEq, Repr

/-- A composed journal record (R90 to R92). START is part of the reset memory (R94). -/
structure Record where
  seq : Word
  cause : CloseCause
  flags : RecFlags
  sessionNo : Nat
  intervalNo : Nat
  start : Word
  stop : Word
  bandStart : Nat
  bandEnd : Nat
  meterStart : Word
  meterEnd : Word
  body : RecordBody
  deriving DecidableEq, Repr

/-- State of the billing unit (04, 05). -/
structure Billing where
  partTime : Word
  clockSet : Bool
  /-- Tenths of a second since part time last advanced or was set (R63). -/
  secondPhase : Nat
  table : Tariff
  pendingTable : Option Tariff
  defaultTable : Bool
  session : Option Session
  interval : Option Interval
  orphan : Option Orphan
  close : Option Closing
  sessionCounter : Nat
  /-- The write mark W (R93). -/
  w : Half
  /-- The read mark Rd (R95). -/
  rd : Half
  nextSeq : Word
  journalMeter : Word
  /-- M_Wh as the billing unit last took it from a report (R83). -/
  meter : Word
  halt : Nat
  resume : Nat
  hold : Bool
  held : Option Record
  waiting : Option Record
  flaggedMark : Option Half
  deriving DecidableEq, Repr

/-! ## Power manager -/

/-- The keepalive (R106): ALIVE keeps its count in tenths of a second and whether the
half-period has been reported. -/
inductive Keepalive where
  | stopped
  | alive (count : Nat) (halfReported : Bool)
  | expired
  deriving DecidableEq, Repr

/-- The five stage settings (R121). -/
structure Stage where
  eta : Nat
  stageMax : Nat
  sUp : Nat
  rH : Nat
  heaterMax : Nat
  deriving DecidableEq, Repr

/-- The values of the last control period, for the live status copy (R113). -/
structure PeriodValues where
  grant : Nat
  heaterIn : Nat
  chargeIn : Nat
  iTgt : Nat
  iDem : Nat
  duty : Nat
  heaterPower : Nat
  deriving DecidableEq, Repr

/-- States of a running CHARGE (R123). -/
inductive ChargeState where
  | gated
  | ramping
  | steady
  | tapering
  deriving DecidableEq, Repr

/-- A running CHARGE (R122 to R126). -/
structure Charge where
  slot : SlotNo
  maxCurrent : Nat
  vLim : Nat
  endCurrent : Nat
  clamped : Bool
  cvCap : Nat
  ovCount : Nat
  /-- The state as it stands; a gate failure sets GATED at once (R123). -/
  state : ChargeState
  /-- The state of its last control period, for the result (R127). -/
  lastState : ChargeState
  seconds : Nat
  /-- Tenths of the second in progress of the running time. -/
  tenths : Nat
  deriving DecidableEq, Repr

/-- State of the power manager (06). -/
structure Power where
  grant : Nat
  fallback : Nat
  period : Nat
  keepalive : Keepalive
  stage : Stage
  lowCount : Nat
  supplyLow : Bool
  /-- The relay need (R116). -/
  need : Bool
  iDem : Nat
  duty : Nat
  /-- The two parts of the heater power (R119). -/
  supplyFed : Nat
  packFed : Nat
  /-- The pack voltage of the last control period (R112). -/
  lastV : Nat
  last : PeriodValues
  charge : Option Charge
  /-- The voltage limit of the last CHARGE (R122). -/
  lastVLim : Nat
  deriving DecidableEq, Repr

/-! ## Heating controller -/

/-- State and reading of one temperature channel (R130). -/
inductive Sensor where
  | valid (t : Int)
  | short
  | opened
  deriving DecidableEq, Repr

/-- One point of the acceptance table (R136). -/
structure Point where
  temp : Int
  current : Nat
  deriving DecidableEq, Repr

/-- Where a HEAT plan takes its power from (R139). -/
inductive Source where
  | supply
  | supplyThenPack
  | pack
  deriving DecidableEq, Repr

/-- Which load the power manager serves first (R139). -/
inductive Policy where
  | heatFirst
  | chargeFirst
  deriving DecidableEq, Repr

/-- Whether a plan ends at its target (R139). -/
inductive Mode where
  | once
  | keep
  deriving DecidableEq, Repr

/-- Phases of a HEAT plan (R141). -/
inductive PlanPhase where
  | warming
  | holding
  deriving DecidableEq, Repr

/-- Plan states as shown and reported (R143). -/
inductive PlanState where
  | warming
  | holding
  | guarded
  | blocked
  deriving DecidableEq, Repr

/-- The context of a running HEAT plan (R140). -/
structure Plan where
  slot : SlotNo
  target : Int
  band : Nat
  hysteresis : Nat
  pMax : Nat
  source : Source
  policy : Policy
  mode : Mode
  clamped : Bool
  phase : PlanPhase
  demand : Nat
  reachedHolding : Bool
  blockedCount : Nat
  /-- The plan state in the last evaluation (R146). -/
  lastState : PlanState
  seconds : Nat
  /-- Tenths of the second in progress of the running time. -/
  tenths : Nat
  deriving DecidableEq, Repr

/-- State of the heating controller (07). -/
structure Heating where
  mask : Byte
  packCap : Int
  plateLimit : Int
  pack : Vector Sensor 8
  plate : Sensor
  sensorLoss : Bool
  packGuard : Bool
  plateGuard : Bool
  plateSensorGuard : Bool
  packCount : Nat
  plateCount : Nat
  /-- The acceptance table, or none while none is loaded (R136). -/
  table : Option (List Point)
  acceptance : Nat
  plan : Option Plan
  deriving DecidableEq, Repr

/-! ## Insulation monitor -/

/-- States of the insulation monitor (R148). -/
inductive MonitorState where
  | idle
  | warmup
  | measuring
  deriving DecidableEq, Repr

/-- The insulation condition (R159). -/
inductive Condition where
  | unknown
  | ok
  | warning
  | fault
  deriving DecidableEq, Repr

/-- The verdict of a valid result (R159). -/
inductive Verdict where
  | clear
  | belowWarn
  | belowFault
  deriving DecidableEq, Repr

/-- The six insulation settings (R166). -/
structure InsSettings where
  rM : Nat
  uInj : Nat
  warn : Nat
  fault : Nat
  k : Nat
  window : Nat
  deriving DecidableEq, Repr

/-- The half-period in progress (R151, R152). -/
structure HalfPeriod where
  positive : Bool
  stretch : Nat
  /-- The injection voltage fixed when it began (R151). -/
  uInj : Nat
  elapsed : Nat
  dutyLow : Nat
  dutyHigh : Nat
  demLow : Nat
  demHigh : Nat
  infbChanged : Bool
  deriving DecidableEq, Repr

/-- The last valid result: R_iso, its age in tenths of a second, and the thresholds it was
judged against (R162, R165). -/
structure LastResult where
  rIso : Nat
  age : Nat
  warnAt : Nat
  faultAt : Nat
  deriving DecidableEq, Repr

/-- One entry of the history ring (R163). -/
structure HistoryEntry where
  time : Word
  rIso : Nat
  stretch : Nat
  voltage : Nat
  verdict : Verdict
  deriving DecidableEq, Repr

/-- A running CHECK INSULATION (R164). -/
structure Check where
  slot : SlotNo
  timer : Nat
  deriving DecidableEq, Repr

/-- State of the insulation monitor (08). -/
structure Insulation where
  state : MonitorState
  settings : InsSettings
  half : Option HalfPeriod
  stretch : Nat
  samplePos : Option Int
  sampleNeg : Option Int
  prevDelta : Option Int
  unsettled : Nat
  settled : Nat
  invalid : Nat
  quiet : Bool
  condition : Condition
  streak : Nat
  last : Option LastResult
  fresh : Bool
  /-- The history ring, newest first (R163). -/
  history : List HistoryEntry
  check : Option Check
  deriving DecidableEq, Repr

/-! ## Trip unit and relay sequencer -/

/-- The sequencer's states, OPENING split into its two phases (R169). -/
inductive RelayState where
  | opened
  | closing
  | closed
  | currentWait
  | release
  | stuck
  deriving DecidableEq, Repr

/-- State of the relay sequencer (R169). -/
structure Relay where
  state : RelayState
  /-- Tenths of a second the running timer has counted, or none when none runs. -/
  timer : Option Nat
  /-- The present opening skips the current wait. -/
  skips : Bool
  deriving DecidableEq, Repr

/-- The seven trip kinds (R177). -/
inductive TripKind where
  | insulation
  | contact
  | weld
  | packOvertemp
  | heaterOvertemp
  | packOvervoltage
  | module
  deriving DecidableEq, Repr

/-- The trip set, one field a kind (R177). -/
structure TripSet where
  insulation : Bool
  contact : Bool
  weld : Bool
  packOvertemp : Bool
  heaterOvertemp : Bool
  packOvervoltage : Bool
  module : Bool
  deriving DecidableEq, Repr

/-- The first-trip record (R177). -/
structure FirstTrip where
  kind : TripKind
  time : Word
  deriving DecidableEq, Repr

/-- State of the trip unit's set and record (R177). -/
structure Trips where
  set : TripSet
  first : Option FirstTrip
  deriving DecidableEq, Repr

/-! ## The whole part -/

/-- The K46: its memory, its input pins, its blocks, and the commands that wait. -/
structure State where
  mem : Memory
  pins : Pins
  link : Link
  attn : Attention
  orders : Orders
  metering : Metering
  billing : Billing
  power : Power
  heating : Heating
  insulation : Insulation
  relay : Relay
  trips : Trips
  /-- The sequence number of the last completed live copy, 0 before the first (R22). -/
  statusSeq : Word
  /-- The commands that wait, first in, first out (DESIGN CHOICE, log entry 1). -/
  pending : List Instr
  deriving DecidableEq, Repr

/-! ## Updates of one block -/

def State.withMem (s : State) (x : Memory) : State := { s with mem := x }
def State.withPins (s : State) (x : Pins) : State := { s with pins := x }
def State.withLink (s : State) (x : Link) : State := { s with link := x }
def State.withAttn (s : State) (x : Attention) : State := { s with attn := x }
def State.withOrders (s : State) (x : Orders) : State := { s with orders := x }
def State.withMetering (s : State) (x : Metering) : State := { s with metering := x }
def State.withBilling (s : State) (x : Billing) : State := { s with billing := x }
def State.withPower (s : State) (x : Power) : State := { s with power := x }
def State.withHeating (s : State) (x : Heating) : State := { s with heating := x }
def State.withInsulation (s : State) (x : Insulation) : State := { s with insulation := x }
def State.withRelay (s : State) (x : Relay) : State := { s with relay := x }
def State.withTrips (s : State) (x : Trips) : State := { s with trips := x }
def State.withStatusSeq (s : State) (x : Word) : State := { s with statusSeq := x }
def State.withPending (s : State) (x : List Instr) : State := { s with pending := x }

/-! ## After a power-on reset -/

/-- The same value for each category. -/
def PerCat.same {α : Type} (x : α) : PerCat α := ⟨x, x, x⟩

/-- No flag. -/
def RecFlags.clear : RecFlags := ⟨false, false, false, false, false, false, false⟩

/-- The link port after a power-on reset (R20). -/
def Link.reset : Link where
  phase := .idle
  pointer := 0
  heldByte := none
  latch := 0
  refused := false
  slotWrites := []
  resetRequested := false
  resetDue := false
  readLatch := []
  delivered := []

/-- The attention unit after a power-on reset (R20). -/
def Attention.reset : Attention where
  trip := false
  journalHalt := false
  insulationWarn := false
  grantDue := false
  orderDone := false
  journalNew := false
  planEvent := false
  writeRefused := false
  mask := 0xFF

/-- A FREE slot with no order. -/
def Slot.reset : Slot := ⟨.free, none⟩

/-- Empty post queues. -/
def Queues.reset : Queues := ⟨[], [], [], [], []⟩

/-- The order engine after a power-on reset (R23, R43). -/
def Orders.reset : Orders where
  slots := Vector.replicate 16 Slot.reset
  queues := Queues.reset
  notices := []

/-- A channel after a power-on reset (R47). -/
def Channel.reset : Channel := ⟨65536, 0, 0, true⟩

/-- The metering unit after a power-on reset (R62). -/
def Metering.reset : Metering where
  inlet := Channel.reset
  pack := Channel.reset
  heater := Channel.reset
  auxc := Channel.reset
  acc := PerCat.same 0
  accM := 0
  wh := PerCat.same 0
  mWh := 0
  reverse := 0
  readings := ⟨0, 0, 0, 0, 0⟩
  closedSeen := false
  reports := []

/-- The default tariff table (R67). -/
def Tariff.default : Tariff := ⟨15, [⟨0, 0⟩]⟩

/-- The billing unit after a power-on reset (R63, R67, R104). -/
def Billing.reset : Billing where
  partTime := 0
  clockSet := false
  secondPhase := 0
  table := Tariff.default
  pendingTable := none
  defaultTable := true
  session := none
  interval := none
  orphan := none
  close := none
  sessionCounter := 0
  w := 1
  rd := 0
  nextSeq := 1
  journalMeter := 0
  meter := 0
  halt := 120
  resume := 96
  hold := false
  held := none
  waiting := none
  flaggedMark := none

/-- The power manager after a power-on reset (R129). -/
def Power.reset : Power where
  grant := 0
  fallback := 0
  period := 10
  keepalive := .stopped
  stage := ⟨930, 400, 10, 480, 3000⟩
  lowCount := 0
  supplyLow := false
  need := false
  iDem := 0
  duty := 0
  supplyFed := 0
  packFed := 0
  lastV := 0
  last := ⟨0, 0, 0, 0, 0, 0, 0⟩
  charge := none
  lastVLim := 5000

/-- The heating controller after a power-on reset (R147). -/
def Heating.reset : Heating where
  mask := 0
  packCap := 450
  plateLimit := 800
  pack := Vector.replicate 8 .opened
  plate := .opened
  sensorLoss := true
  packGuard := false
  plateGuard := false
  plateSensorGuard := true
  packCount := 0
  plateCount := 0
  table := none
  acceptance := 0
  plan := none

/-- The insulation monitor after a power-on reset with PKON negated (R168). -/
def Insulation.reset : Insulation where
  state := .idle
  settings := ⟨470, 12000, 500, 100, 3, 30⟩
  half := none
  stretch := 0
  samplePos := none
  sampleNeg := none
  prevDelta := none
  unsettled := 0
  settled := 0
  invalid := 0
  quiet := false
  condition := .unknown
  streak := 0
  last := none
  fresh := false
  history := []
  check := none

/-- The relay sequencer after a power-on reset (R169). -/
def Relay.reset : Relay := ⟨.opened, none, false⟩

/-- The empty trip set (R177). -/
def TripSet.empty : TripSet := ⟨false, false, false, false, false, false, false⟩

/-- The trip unit after a power-on reset (R177). -/
def Trips.reset : Trips := ⟨TripSet.empty, none⟩

/-- All four input pins negated. -/
def Pins.low : Pins := ⟨false, false, false, false⟩

/-- The K46 right after a power-on reset with its four input pins negated.
DESIGN CHOICE (log entry 3), unsafe: the spec leaves the levels to the equipment; the
POWER_ON_RESET command carries them. -/
def State.reset : State where
  mem := resetMemory
  pins := Pins.low
  link := Link.reset
  attn := Attention.reset
  orders := Orders.reset
  metering := Metering.reset
  billing := Billing.reset
  power := Power.reset
  heating := Heating.reset
  insulation := Insulation.reset
  relay := Relay.reset
  trips := Trips.reset
  statusSeq := 0
  pending := []

end Sys2Proof.Machine
end

