-- ==== Sys2Proof/Machine/Operands.lean ====
section
/-!
DEFINITION. The codes of the enumerated fields (R185 and the tables of 02_orders), the
categories' arithmetic, the layout of journal records (R186), and the reading of the two
staging tables (11_formats).
-/

namespace Sys2Proof.Machine

/-! ## Categories -/

/-- Apply a function to each category. -/
def PerCat.map {α β : Type} (f : α → β) (x : PerCat α) : PerCat β :=
  ⟨f x.battery, f x.heating, f x.aux⟩

/-- Combine two triples category by category. -/
def PerCat.zip {α β γ : Type} (f : α → β → γ) (x : PerCat α) (y : PerCat β) : PerCat γ :=
  ⟨f x.battery y.battery, f x.heating y.heating, f x.aux y.aux⟩

/-- The three values in the order BATTERY, HEATING, AUX. -/
def PerCat.toList {α : Type} (x : PerCat α) : List α := [x.battery, x.heating, x.aux]

/-- The sum over the categories. -/
def PerCat.total (x : PerCat Nat) : Nat := x.battery + x.heating + x.aux

/-! ## Orders -/

/-- The byte 0 value of a slot state (R23). -/
def SlotState.code : SlotState → Byte
  | .free => 0x00
  | .posted => 0x01
  | .waiting => 0x02
  | .running => 0x03
  | .done => 0x04

/-- The block an order belongs to; none for an unknown code (R28). -/
def orderBlock : Order → Option Block
  | .withdraw _ | .clearTrip => some .general
  | .setClock _ | .loadTariff _ _ | .openSession _ _ _ _ | .closeSession _
  | .calibrateMeter _ _ _ | .setJournalLevels _ _ => some .billing
  | .setGrant _ _ _ | .charge _ _ _ | .setPowerStage _ _ _ _ _ => some .power
  | .heat _ _ _ _ _ _ _ | .loadAcceptance _ _ | .setSensors _ _ _ => some .heating
  | .checkInsulation | .setInsulation _ _ _ _ _ _ => some .insulation
  | .unknown _ => none

/-- The outcomes of an order (outcome table of 02_orders). -/
inductive OrderOutcome where
  | ok
  | unknownOrder
  | badParameter
  | badTable
  | notNow
  | alreadyStanding
  | withdrawn
  | notWithdrawable
  | tripped
  | timedOut
  | ended
  deriving DecidableEq, Repr

/-- The outcome byte (R35). -/
def OrderOutcome.code : OrderOutcome → Byte
  | .ok => 0x00
  | .unknownOrder => 0x01
  | .badParameter => 0x02
  | .badTable => 0x03
  | .notNow => 0x04
  | .alreadyStanding => 0x05
  | .withdrawn => 0x06
  | .notWithdrawable => 0x07
  | .tripped => 0x08
  | .timedOut => 0x09
  | .ended => 0x0A

/-- Byte 33 notes (R36). -/
def noteNone : Byte := 0x00
def noteClamped : Byte := 0x01
def noteReplacedPending : Byte := 0x02

/-- Byte 33 end causes (R36). -/
def endFull : Byte := 0x10
def endSessionClosed : Byte := 0x11
def endReached : Byte := 0x12
def endSensors : Byte := 0x13
def endHvDown : Byte := 0x14

/-- The CLAMPED note where any parameter was clamped (R36). -/
def clampedNote (clamped : Bool) : Byte := if clamped then noteClamped else noteNone

/-- What an order's end hands the order engine: outcome, byte 33 and the result fields from
byte 36 on (R30). -/
structure Ending where
  outcome : OrderOutcome
  note : Byte
  fields : List Byte
  deriving DecidableEq, Repr

/-- A refusal: its outcome, byte 33 00h, and no result field (R30, R36).
DEDUCED (log entry 12): the result bytes of a refused order read 00h. -/
def refusal (o : OrderOutcome) : Ending := ⟨o, noteNone, []⟩

/-- A yes-or-no field (R185). -/
def flagByte (b : Bool) : Byte := if b then 0x01 else 0x00

/-! ## Enumerated fields of the formats chapter (R185) -/

def CloseCause.code : CloseCause → Nat
  | .none => 0
  | .boundary => 1
  | .band => 2
  | .tariff => 3
  | .clock => 4
  | .trip => 5
  | .hold => 6
  | .sessionEnd => 7
  | .relay => 8

/-- Record kind code (R185). -/
def RecordBody.kindCode : RecordBody → Nat
  | .sessionOpen _ _ _ _ => 2
  | .interval _ _ _ => 3
  | .sessionClose _ _ _ _ => 4
  | .orphan _ _ _ _ => 5
  | .calibration _ _ _ _ _ _ _ => 6
  | .clock _ _ _ => 7

def TripKind.code : TripKind → Nat
  | .insulation => 1
  | .contact => 2
  | .weld => 3
  | .packOvertemp => 4
  | .heaterOvertemp => 5
  | .packOvervoltage => 6
  | .module => 7

def RelayState.code : RelayState → Nat
  | .opened => 0
  | .closing => 1
  | .closed => 2
  | .currentWait => 3
  | .release => 4
  | .stuck => 5

def ChargeState.code : ChargeState → Nat
  | .gated => 1
  | .ramping => 2
  | .steady => 3
  | .tapering => 4

def PlanState.code : PlanState → Nat
  | .warming => 1
  | .holding => 2
  | .guarded => 3
  | .blocked => 4

def Sensor.code : Sensor → Nat
  | .valid _ => 0
  | .short => 1
  | .opened => 2

def Condition.code : Condition → Nat
  | .unknown => 0
  | .ok => 1
  | .warning => 2
  | .fault => 3

def MonitorState.code : MonitorState → Nat
  | .idle => 0
  | .warmup => 1
  | .measuring => 2

def Verdict.code : Verdict → Nat
  | .clear => 1
  | .belowWarn => 2
  | .belowFault => 3

def Keepalive.code : Keepalive → Nat
  | .stopped => 0
  | .alive _ _ => 1
  | .expired => 2

def Source.code : Source → Byte
  | .supply => 0
  | .supplyThenPack => 1
  | .pack => 2

def Policy.code : Policy → Byte
  | .heatFirst => 0
  | .chargeFirst => 1

def Mode.code : Mode → Byte
  | .once => 0
  | .keep => 1

/-- A source byte (R139). -/
def decodeSource (b : Byte) : Option Source :=
  match b.toNat with
  | 0 => some .supply
  | 1 => some .supplyThenPack
  | 2 => some .pack
  | _ => none

/-- A policy byte (R139). -/
def decodePolicy (b : Byte) : Option Policy :=
  match b.toNat with
  | 0 => some .heatFirst
  | 1 => some .chargeFirst
  | _ => none

/-- A mode byte (R139). -/
def decodeMode (b : Byte) : Option Mode :=
  match b.toNat with
  | 0 => some .once
  | 1 => some .keep
  | _ => none

/-- A temperature field: 8000h where there is none (R185). -/
def tempBytes : Option Int → List Byte
  | some t => beInt 2 t
  | none => [0x80, 0x00]

/-! ## Journal records (R186) -/

/-- A triple of unsigned fields of `k` bytes each, in the order B, H, A. -/
def catBytes (k : Nat) (x : PerCat Nat) : List Byte :=
  beBytes k x.battery ++ beBytes k x.heating ++ beBytes k x.aux

/-- A triple of signed 2-byte fields, in the order B, H, A. -/
def carryBytes (x : PerCat Int) : List Byte :=
  beInt 2 x.battery ++ beInt 2 x.heating ++ beInt 2 x.aux

/-- The account a category is billed to: the BATTERY account where its own is absent (R90). -/
def billedAccount (own battery : Word) : Word := if own = 0 then battery else own

/-- Bytes 27 onward of a record, by kind (R186). -/
def RecordBody.bytes : RecordBody → List Byte
  | .sessionOpen id b h a =>
      beBytes 4 id.toNat ++ beBytes 4 b.toNat ++ beBytes 4 h.toNat ++ beBytes 4 a.toNat
        ++ beBytes 4 (billedAccount h b).toNat ++ beBytes 4 (billedAccount a b).toNat
  | .interval wh cost merges => catBytes 4 wh ++ catBytes 5 cost ++ beBytes 2 merges
  | .sessionClose wh cost id carries =>
      catBytes 4 wh ++ catBytes 5 cost ++ beBytes 4 id.toNat ++ carryBytes carries
  | .orphan wh cost carries merges =>
      catBytes 4 wh ++ catBytes 5 cost ++ carryBytes carries ++ beBytes 2 merges
  | .calibration channel oldG newG oldQ newQ uncal reverse =>
      beBytes 1 channel ++ beBytes 4 oldG ++ beBytes 4 newG ++ beInt 2 oldQ ++ beInt 2 newQ
        ++ [flagByte uncal] ++ beBytes 4 reverse
  | .clock old new wasSet => beBytes 4 old.toNat ++ beBytes 4 new.toNat ++ [flagByte wasSet]

/-! ## Staging tables -/

/-- The bands of a tariff table at bytes `bs`: a 2-byte start and a 2-byte price each. -/
def tariffBands : Nat → List Byte → List Band
  | n + 1, s1 :: s0 :: p1 :: p0 :: rest =>
      ⟨(half s1 s0).toNat, (half p1 p0).toNat⟩ :: tariffBands n rest
  | _, _ => []

/-- A tariff table of `n` bands: L in one byte and then the bands (11_formats). -/
def stagedTariff (n : Nat) : List Byte → Tariff
  | l :: rest => ⟨l.toNat, tariffBands n rest⟩
  | [] => ⟨0, []⟩

/-- The points of an acceptance table: a signed 2-byte temperature and a 2-byte current each
(11_formats). -/
def stagedPoints : Nat → List Byte → List Point
  | n + 1, t1 :: t0 :: c1 :: c0 :: rest =>
      ⟨(half t1 t0).toInt, (half c1 c0).toNat⟩ :: stagedPoints n rest
  | _, _ => []

end Sys2Proof.Machine
end

