-- ==== Sys2Proof/Machine/Flags.lean ====
section
/-!
DEFINITION. The packed flag bytes of the K46: the pending bitmap (R14, R16), the record flags,
the trip set and the gate states (R185), and the packed final carries of a CLOSE SESSION
result (11_formats).
-/

namespace Sys2Proof.Machine

/-- Bit `n` as a number when it is set. -/
def bitIf (b : Bool) (n : Nat) : Nat := if b then 2 ^ n else 0

/-! ## Pending set (R14) -/

/-- The code of a cause, 1 to 8 (R14). -/
def Cause.code : Cause → Nat
  | .trip => 1
  | .journalHalt => 2
  | .insulationWarn => 3
  | .grantDue => 4
  | .orderDone => 5
  | .journalNew => 6
  | .planEvent => 7
  | .writeRefused => 8

/-- The cause a code names (R14). -/
def causeOfCode : Nat → Option Cause
  | 1 => some .trip
  | 2 => some .journalHalt
  | 3 => some .insulationWarn
  | 4 => some .grantDue
  | 5 => some .orderDone
  | 6 => some .journalNew
  | 7 => some .planEvent
  | 8 => some .writeRefused
  | _ => none

/-- Level causes are pending exactly while their owner's condition holds (R14). -/
def Cause.isLevel : Cause → Bool
  | .trip | .journalHalt | .insulationWarn => true
  | .grantDue | .orderDone | .journalNew | .planEvent | .writeRefused => false

/-- Whether a cause is pending. -/
def Attention.has (a : Attention) : Cause → Bool
  | .trip => a.trip
  | .journalHalt => a.journalHalt
  | .insulationWarn => a.insulationWarn
  | .grantDue => a.grantDue
  | .orderDone => a.orderDone
  | .journalNew => a.journalNew
  | .planEvent => a.planEvent
  | .writeRefused => a.writeRefused

/-- The pending set with a cause entered or left. -/
def Attention.put (a : Attention) (c : Cause) (b : Bool) : Attention :=
  match c with
  | .trip => { a with trip := b }
  | .journalHalt => { a with journalHalt := b }
  | .insulationWarn => { a with insulationWarn := b }
  | .grantDue => { a with grantDue := b }
  | .orderDone => { a with orderDone := b }
  | .journalNew => { a with journalNew := b }
  | .planEvent => { a with planEvent := b }
  | .writeRefused => { a with writeRefused := b }

/-- The pending bitmap: bit n − 1 for cause n (R16). -/
def Attention.bitmap (a : Attention) : Byte :=
  BitVec.ofNat 8 (bitIf a.trip 0 + bitIf a.journalHalt 1 + bitIf a.insulationWarn 2
    + bitIf a.grantDue 3 + bitIf a.orderDone 4 + bitIf a.journalNew 5
    + bitIf a.planEvent 6 + bitIf a.writeRefused 7)

/-- The top cause: the lowest code pending, or 0 (R16). -/
def Attention.top (a : Attention) : Byte :=
  if a.trip then 1 else if a.journalHalt then 2 else if a.insulationWarn then 3
  else if a.grantDue then 4 else if a.orderDone then 5 else if a.journalNew then 6
  else if a.planEvent then 7 else if a.writeRefused then 8 else 0

/-- ATTN is asserted while a pending cause is not masked (R15). -/
def Attention.attn (a : Attention) : Bool := a.bitmap &&& ~~~a.mask != 0

/-! ## Record flags (R91, R185) -/

def RecFlags.byte (f : RecFlags) : Byte :=
  BitVec.ofNat 8 (bitIf f.clockUnset 0 + bitIf f.uncalibrated 1 + bitIf f.overrange 2
    + bitIf f.reverse 3 + bitIf f.merged 4 + bitIf f.spansBands 5 + bitIf f.tariffDefault 6)

/-- The union of two sets of flags. -/
def RecFlags.union (f g : RecFlags) : RecFlags :=
  ⟨f.clockUnset || g.clockUnset, f.uncalibrated || g.uncalibrated, f.overrange || g.overrange,
   f.reverse || g.reverse, f.merged || g.merged, f.spansBands || g.spansBands,
   f.tariffDefault || g.tariffDefault⟩

/-- No flag is set. -/
def RecFlags.none (f : RecFlags) : Bool := f == RecFlags.clear

/-- A record is flagged by these five flags; SPANS_BANDS and TARIFF_DEFAULT do not count (R91). -/
def RecFlags.flagged (f : RecFlags) : Bool :=
  f.clockUnset || f.uncalibrated || f.overrange || f.reverse || f.merged

/-! ## Trip set (R177, R185) -/

def TripSet.has (t : TripSet) : TripKind → Bool
  | .insulation => t.insulation
  | .contact => t.contact
  | .weld => t.weld
  | .packOvertemp => t.packOvertemp
  | .heaterOvertemp => t.heaterOvertemp
  | .packOvervoltage => t.packOvervoltage
  | .module => t.module

def TripSet.add (t : TripSet) : TripKind → TripSet
  | .insulation => { t with insulation := true }
  | .contact => { t with contact := true }
  | .weld => { t with weld := true }
  | .packOvertemp => { t with packOvertemp := true }
  | .heaterOvertemp => { t with heaterOvertemp := true }
  | .packOvervoltage => { t with packOvervoltage := true }
  | .module => { t with module := true }

/-- The trip set is empty (R180). -/
def TripSet.isEmpty (t : TripSet) : Bool := t == TripSet.empty

def TripSet.byte (t : TripSet) : Byte :=
  BitVec.ofNat 8 (bitIf t.insulation 0 + bitIf t.contact 1 + bitIf t.weld 2
    + bitIf t.packOvertemp 3 + bitIf t.heaterOvertemp 4 + bitIf t.packOvervoltage 5
    + bitIf t.module 6)

/-! ## Packed final carries of a CLOSE SESSION result -/

/-- A carry as 10 bits of two's complement. -/
def carry10 (c : Int) : Nat := (c % 1024).toNat

/-- BATTERY in bits 29–20, HEATING in 19–10, AUX in 9–0 (11_formats). -/
def packedCarries (x : PerCat Int) : List Byte :=
  beBytes 4 (carry10 x.battery * 2 ^ 20 + carry10 x.heating * 2 ^ 10 + carry10 x.aux)

/-! ## A record's 64 bytes (R186) -/

/-- The 64 bytes of a record: the common part and the kind's bytes, the rest 00h. -/
def Record.bytes (r : Record) : List Byte :=
  padTo 64 (beBytes 4 r.seq.toNat
    ++ beBytes 1 (r.body.kindCode * 16 + r.cause.code)
    ++ [r.flags.byte]
    ++ beBytes 2 r.sessionNo ++ beBytes 2 r.intervalNo
    ++ beBytes 4 r.start.toNat ++ beBytes 4 r.stop.toNat
    ++ beBytes 1 (r.bandStart * 16 + r.bandEnd)
    ++ beBytes 4 r.meterStart.toNat ++ beBytes 4 r.meterEnd.toNat
    ++ r.body.bytes)

end Sys2Proof.Machine
end

