-- ==== Sys2Proof/Machine/Ops.lean ====
section
/-!
DEFINITION. The named operations every block shares: reading and writing the exchange memory
(R1), raising and clearing causes (R14), and the order engine's writing of slot states,
post queues and results (R23, R35).
-/

namespace Sys2Proof.Machine

/-! ## Exchange memory (R1) -/

/-- The byte at address `a`; an unlisted address reads 00h (R1). -/
def Memory.read : Memory → Nat → Byte
  | [], _ => 0
  | (b, v) :: rest, a => if b = a then v else Memory.read rest a

/-- A cell put into a rising list: replacing its address's entry, and no entry for 00h. -/
def Memory.insert : Memory → Nat → Byte → Memory
  | [], a, v => if v = 0 then [] else [(a, v)]
  | (b, w) :: rest, a, v =>
      if a < b then (if v = 0 then (b, w) :: rest else (a, v) :: (b, w) :: rest)
      else if a = b then (if v = 0 then rest else (a, v) :: rest)
      else (b, w) :: Memory.insert rest a v

/-- A part write of one byte: the memory has no address above 3FFFh, and a part write inside it
is never refused (R1). -/
def Memory.write (m : Memory) (a : Nat) (v : Byte) : Memory :=
  if a < Config.memSize then m.insert a v else m

/-- Consecutive bytes written from address `a` on, the first lowest. -/
def Memory.writeAll : Memory → Nat → List Byte → Memory
  | m, _, [] => m
  | m, a, v :: vs => Memory.writeAll (m.write a v) (a + 1) vs

/-- `n` bytes read from address `a` on. -/
def Memory.readAll (m : Memory) : Nat → Nat → List Byte
  | _, 0 => []
  | a, n + 1 => m.read a :: Memory.readAll m (a + 1) n

/-- The canonical form from address `lo` on: rising, inside the memory, no 00h. -/
def Memory.wfFrom : Nat → Memory → Bool
  | _, [] => true
  | lo, (a, v) :: rest =>
      decide (lo ≤ a) && decide (a < Config.memSize) && v != 0 && Memory.wfFrom (a + 1) rest

/-- The canonical form: addresses strictly rising and below 4000h, no entry 00h. -/
def Memory.wf (m : Memory) : Bool := Memory.wfFrom 0 m

/-- The host-writable bytes of R1. -/
def hostWritable (a : Nat) : Bool :=
  a == Config.hdrRd || a == Config.hdrRd + 1 || a == Config.hdrRenewal
    || (decide (Config.slotBase ≤ a) && decide (a < Config.copyA)
        && decide ((a - Config.slotBase) % Config.slotSize < 32))
    || (decide (Config.stagingFirst ≤ a) && decide (a ≤ Config.stagingLast))

/-- A part write of one byte. -/
def State.poke (s : State) (a : Nat) (v : Byte) : State := s.withMem (s.mem.write a v)

/-- A part write of consecutive bytes. -/
def State.pokeAll (s : State) (a : Nat) (vs : List Byte) : State := s.withMem (s.mem.writeAll a vs)

/-! ## Attention unit (R14) -/

/-- A cause enters the pending set. -/
def State.raise (s : State) (c : Cause) : State := s.withAttn (s.attn.put c true)

/-- A cause leaves the pending set. -/
def State.clear (s : State) (c : Cause) : State := s.withAttn (s.attn.put c false)

/-! ## Slots and queues (R23) -/

/-- Address of byte 0 of a slot (R1). -/
def slotAddr (n : SlotNo) : Nat := Config.slotBase + Config.slotSize * n.val

/-- The order engine's record of a slot. -/
def State.slot (s : State) (n : SlotNo) : Slot := s.orders.slots[n]

/-- Replace the engine's record of a slot. -/
def State.setSlot (s : State) (n : SlotNo) (r : Slot) : State :=
  s.withOrders { s.orders with slots := s.orders.slots.set n r }

/-- Change a slot's state: the record and byte 0 together (R23). -/
def State.setSlotState (s : State) (n : SlotNo) (st : SlotState) : State :=
  (s.setSlot n { s.slot n with state := st }).poke (slotAddr n) st.code

/-- The post queue of a block. -/
def Queues.get (q : Queues) : Block → List SlotNo
  | .general => q.general
  | .billing => q.billing
  | .power => q.power
  | .heating => q.heating
  | .insulation => q.insulation

/-- Replace the post queue of a block. -/
def Queues.put (q : Queues) (b : Block) (l : List SlotNo) : Queues :=
  match b with
  | .general => { q with general := l }
  | .billing => { q with billing := l }
  | .power => { q with power := l }
  | .heating => { q with heating := l }
  | .insulation => { q with insulation := l }

/-- The post queue of a block. -/
def State.queue (s : State) (b : Block) : List SlotNo := s.orders.queues.get b

/-- Replace the post queue of a block. -/
def State.setQueue (s : State) (b : Block) (l : List SlotNo) : State :=
  s.withOrders { s.orders with queues := s.orders.queues.put b l }

/-- The tag copied at the post, 0 where the slot holds no order. -/
def Slot.tag (r : Slot) : Half := match r.posted with
  | some p => p.tag
  | none => 0

/-- The 32 result bytes 32 to 63: outcome, byte 33, tag, and the result fields with 00h in
every byte the order does not define (R35). -/
def resultBytes (tag : Half) (e : Ending) : List Byte :=
  [e.outcome.code, e.note] ++ beBytes 2 tag.toNat ++ padTo 28 e.fields

/-- The end of an order, in R35's sequence: bytes 32 to 63, then DONE, then ORDER_DONE. -/
def State.finish (s : State) (n : SlotNo) (e : Ending) : State :=
  ((s.pokeAll (slotAddr n + 32) (resultBytes (s.slot n).tag e)).setSlotState n .done).raise .orderDone

end Sys2Proof.Machine
end

