-- ==== Sys2Proof/Machine/Drive.lean ====
section
/-!
DEFINITION. The supply gates (R111), the drive outputs the power manager sets (I_dem, duty),
the relay sequencer's transitions (R169 to R176) and what a gate failure does at once (R112).
The power manager and the sequencer call each other here, so they stand together.
-/

namespace Sys2Proof.Machine

/-! ## Gates (R109, R111) -/

/-- The effective grant (R109). -/
def Power.effGrant (p : Power) : Nat :=
  if p.supplyLow then 0
  else match p.keepalive with
    | .expired => p.fallback
    | .stopped => p.grant
    | .alive _ _ => p.grant

/-- A session is open and not closing (R111). -/
def Billing.sessionGate (b : Billing) : Bool :=
  match b.session with
  | some ses => !ses.closing
  | none => false

/-- The eight gate states (R111). -/
structure Gates where
  session : Bool
  trip : Bool
  journal : Bool
  supply : Bool
  grant : Bool
  module : Bool
  pack : Bool
  insulation : Bool
  deriving DecidableEq, Repr

/-- The gate states as they stand (R111). -/
def State.gates (s : State) : Gates where
  session := s.billing.sessionGate
  trip := s.trips.set.isEmpty
  journal := !s.billing.hold
  supply := !s.power.supplyLow
  grant := decide (0 < s.power.effGrant)
  module := s.pins.pmrdy
  pack := s.pins.pkon
  insulation := s.insulation.fresh

/-- Every supply gate holds (R111). -/
def Gates.all (g : Gates) : Bool :=
  g.session && g.trip && g.journal && g.supply && g.grant && g.module && g.pack && g.insulation

/-- The gate states as one byte, 1 where a gate holds (R185). -/
def Gates.byte (g : Gates) : Byte :=
  BitVec.ofNat 8 (bitIf g.session 0 + bitIf g.trip 1 + bitIf g.journal 2 + bitIf g.supply 3
    + bitIf g.grant 4 + bitIf g.module 5 + bitIf g.pack 6 + bitIf g.insulation 7)

/-- A heating guard stands: at least one of the three (R134). -/
def Heating.guarded (h : Heating) : Bool := h.packGuard || h.plateGuard || h.plateSensorGuard

/-! ## I_dem and the heater duty -/

/-- The half-period in progress sees I_dem and the duty as they now stand (R152). -/
def HalfPeriod.watch (h : HalfPeriod) (duty iDem : Nat) : HalfPeriod :=
  { h with
    dutyLow := min h.dutyLow duty
    dutyHigh := max h.dutyHigh duty
    demLow := min h.demLow iDem
    demHigh := max h.demHigh iDem }

/-- The monitor watches the drives of a half-period in progress (R152). -/
def State.watchDrives (s : State) : State :=
  s.withInsulation { s.insulation with
    half := s.insulation.half.map fun h => h.watch s.power.duty s.power.iDem }

/-- Set I_dem; PMEN and DMD follow it (R117, R128, R187). -/
def State.setDemand (s : State) (d : Nat) : State :=
  (s.withPower { s.power with iDem := d }).watchDrives

/-- Set the heater duty (R120). -/
def State.setDuty (s : State) (d : Nat) : State :=
  (s.withPower { s.power with duty := d }).watchDrives

/-! ## Relay sequencer (R169 to R176) -/

/-- INRLY (R169). -/
def RelayState.inrly : RelayState → Bool
  | .closing | .closed | .currentWait => true
  | .opened | .release | .stuck => false

/-- Enter a state or phase with its timer. -/
def State.setRelay (s : State) (st : RelayState) (timer : Option Nat) (skips : Bool) : State :=
  s.withRelay ⟨st, timer, skips⟩

/-- Step 2 of a waiting CLOSE SESSION is passed (R86). -/
def State.passStep2 (s : State) : State :=
  match s.billing.close with
  | some ⟨slot, .awaitRelay⟩ => s.withBilling { s.billing with close := some ⟨slot, .awaitHeld⟩ }
  | _ => s

/-- Enter CLOSED; the no-need timer starts when no need stands (R171, R172). -/
def State.enterClosed (s : State) : State :=
  s.setRelay .closed (if s.power.need then none else some 0) false

/-- Enter CLOSING; an INFB that already shows closed confirms at once (R170, R171). -/
def State.enterClosing (s : State) : State :=
  if s.pins.infb then s.enterClosed else s.setRelay .closing (some 0) false

/-- Enter OPEN: OPEN is reported to the billing unit, and a standing need closes the relay again
in the same event (R170, R175). An INFB that shows closed starts the uncommanded-closure
timer (R176). -/
def State.enterOpen (s : State) : State :=
  let s1 := (s.setRelay .opened (if s.pins.infb then some 0 else none) false).passStep2
  if s1.power.need then s1.enterClosing else s1

/-- The release phase ends at once where INFB shows open (R175). -/
def State.endReleaseIfOpen (s : State) : State :=
  if s.relay.state = .release ∧ s.pins.infb = false then s.enterOpen else s

/-- Enter OPENING at the release phase (R175). -/
def State.enterRelease (s : State) (skips : Bool) : State :=
  (s.setRelay .release (some 0) skips).endReleaseIfOpen

/-- Leaving CLOSED: the power manager is told first, makes I_dem 0 and negates PMEN (R172, R112). -/
def State.leaveClosed (s : State) : State := s.setDemand 0

/-- An open request, from a latched trip or from CLOSE SESSION (R173). -/
def State.openRequest (s : State) (skip : Bool) : State :=
  match s.relay.state with
  | .opened => s.passStep2
  | .closing => s.enterRelease true
  | .closed =>
      if skip then s.leaveClosed.enterRelease true
      else s.leaveClosed.setRelay .currentWait (some 0) false
  | .currentWait => if skip then s.enterRelease true else s
  | .release => s
  | .stuck => s

/-- The relay need is set (R170, R172). -/
def State.setNeed (s : State) : State :=
  let s1 := s.withPower { s.power with need := true }
  match s.relay.state with
  | .opened => s1.enterClosing
  | .closed => s1.setRelay .closed none s.relay.skips
  | .closing | .currentWait | .release | .stuck => s1

/-- The relay need is withdrawn; in CLOSED the no-need timer starts (R170, R172). -/
def State.withdrawNeed (s : State) : State :=
  if s.power.need then
    let s1 := s.withPower { s.power with need := false }
    if s.relay.state = .closed then s1.setRelay .closed (some 0) s.relay.skips else s1
  else s

/-! ## Gate failure (R112) -/

/-- The heater duty a heater power asks for at pack voltage `v` (R120, R112): 0 below 1 000 dV or
without power. -/
def dutyFor (rH v p : Nat) : Nat :=
  if v < 1000 ∨ p = 0 then 0 else min 1000 (p * rH * 10000 / (v * v))

/-- A gate failure sets a running CHARGE GATED at once (R123). -/
def Power.gateCharge (p : Power) : Power :=
  { p with charge := p.charge.map fun c => { c with state := .gated } }

/-- What the power manager does at once when a gate fails, in R112's order; a running CHARGE
reads GATED (R123). -/
def State.failGate (s : State) : State :=
  let s1 := (s.setDemand 0).withdrawNeed
  let s2 := s1.withPower { s1.power.gateCharge with supplyFed := 0 }
  s2.setDuty (min s2.power.duty (dutyFor s2.power.stage.rH s2.power.lastV s2.power.packFed))

/-- A gate that held before and does not hold now has failed. -/
def State.failGateIf (s : State) (held now : Bool) : State :=
  if held && !now then s.failGate else s

/-- A trip takes the demand and the duty to 0 and stops pack-fed heating (R179, step 1). -/
def State.tripDrives (s : State) : State :=
  let s1 := (s.setDemand 0).setDuty 0
  s1.withPower { s1.power with supplyFed := 0, packFed := 0 }

/-- A heating guard or SENSOR_LOSS beginning takes the duty to 0 at once (R120). -/
def State.dutyOff (s : State) : State := s.setDuty 0

/-! ## Keepalive (R106 to R108) -/

/-- Change the keepalive; the effective grant is re-formed at once, and the grant gate fails where
it falls to 0 (R109, R111, R112). -/
def State.setKeepalive (s : State) (k : Keepalive) : State :=
  let s1 := s.withPower { s.power with keepalive := k }
  s1.failGateIf (decide (0 < s.power.effGrant)) (decide (0 < s1.power.effGrant))

/-- The keepalive is started from zero (R108). -/
def State.startKeepalive (s : State) : State := s.setKeepalive (.alive 0 false)

/-- The keepalive becomes STOPPED and its count is discarded (R108). -/
def State.stopKeepalive (s : State) : State := s.setKeepalive .stopped

end Sys2Proof.Machine
end

