-- ==== Sys2Proof/Machine/Journal.lean ====
section
/-!
DEFINITION. Part time and bands (R64, R71), intervals and their closes (R73 to R77, R82,
R84, R85, R103), journal records and flow control (R90 to R102).
-/

namespace Sys2Proof.Machine

/-! ## Time and bands -/

/-- The minute of day of a part time (R64). -/
def minuteOfDay (t : Word) : Nat := t.toNat / 60 % 1440

/-- The number of the last band whose start is at or below minute `m` (R71), from band `i` on. -/
def lastBand (m : Nat) : List Band → Nat → Nat → Nat
  | [], _, found => found
  | b :: bs, i, found => lastBand m bs (i + 1) (if b.start ≤ m then i else found)

/-- The band of a table at a minute of day (R71). -/
def Tariff.bandAt (t : Tariff) (m : Nat) : Nat := lastBand m t.bands 0 0

/-- The price of a band, by its number (R67). -/
def Tariff.price (t : Tariff) (n : Nat) : Nat :=
  match t.bands[n]? with
  | some b => b.price
  | none => 0

/-- A minute of day is the start minute of a band (R76). -/
def Tariff.startsBand (t : Tariff) (m : Nat) : Bool := t.bands.any fun b => b.start == m

/-- The band in force at a part time: band 0 while the clock is unset (R71). -/
def Billing.bandAtTime (b : Billing) (t : Word) : Nat :=
  if b.clockSet then b.table.bandAt (minuteOfDay t) else 0

/-- The band in force now (R71). -/
def Billing.band (b : Billing) : Nat := b.bandAtTime b.partTime

/-- The price in force now (R72). -/
def Billing.priceNow (b : Billing) : Nat := b.table.price b.band

/-! ## Intervals -/

/-- The flags an interval takes when it begins (R67, R71). -/
def Billing.startFlags (b : Billing) : RecFlags :=
  { RecFlags.clear with clockUnset := !b.clockSet, tariffDefault := b.defaultTable }

/-- A new interval from a start time and a meter (R75, R84). -/
def Billing.newInterval (b : Billing) (start meter : Word) : Interval where
  start := start
  bandStart := b.band
  meterStart := meter
  wh := PerCat.same 0
  cost := PerCat.same 0
  flags := b.startFlags
  merges := 0

/-- An interval is empty: no Wh, no cost, no flag (R77). -/
def Interval.isEmpty (i : Interval) : Bool :=
  i.wh == PerCat.same 0 && i.cost == PerCat.same 0 && i.flags.none

/-- Closes that do not write an empty interval (R75, R77). -/
def CloseCause.dropsEmpty : CloseCause → Bool
  | .boundary | .band | .tariff | .sessionEnd | .relay => true
  | .clock | .trip | .hold | .none => false

/-- A due close that could not be made: the interval continues merged (R103). -/
def Interval.merge (i : Interval) (bandNow : Nat) (adopted : Bool) : Interval :=
  { i with
    flags := { i.flags with
      merged := true
      spansBands := i.flags.spansBands || adopted || bandNow != i.bandStart }
    merges := min Config.mergeLimit (i.merges + 1) }

/-- The cost reported for an accumulator and a carry: rounding half up (R73). -/
def reportedCost (acc : Nat) (carry : Int) : Nat := (((acc : Int) + carry + 500) / 1000).toNat

/-- The carry left after the reported cost (R73). -/
def nextCarry (acc : Nat) (carry : Int) : Int :=
  (acc : Int) + carry - 1000 * (reportedCost acc carry : Int)

/-- A count from 1 to 65 535 advanced by one, from 65 535 to 1 (R81, R82). -/
def nextCount (n : Nat) : Nat := if 65535 ≤ n then 1 else n + 1

/-! ## Records -/

/-- The journal fill (R93). -/
def Billing.fill (b : Billing) : Nat := (b.w - b.rd).toNat

/-- The most recent flagged record is unread (R97). -/
def Billing.flaggedUnread (b : Billing) : Bool :=
  match b.flaggedMark with
  | some m => decide ((m - b.rd).toNat < b.fill)
  | none => false

/-- Rewrite the flagged-unread indicator at 000Ch (R97). -/
def State.showFlagged (s : State) : State :=
  s.poke Config.hdrFlagged (flagByte s.billing.flaggedUnread)

/-- Compose a record: it receives the next sequence number, and the journal meter becomes its
meter at end (R92). -/
def State.compose (s : State) (r : Record) : Record × State :=
  ({ r with seq := s.billing.nextSeq },
   s.withBilling { s.billing with
     nextSeq := s.billing.nextSeq + 1
     journalMeter := r.meterEnd })

/-- Steps 1 to 4 of writing a record into the journal at W (R93), and the indicator (R97). -/
def State.journalWrite (s : State) (r : Record) : State :=
  let b := s.billing
  let at_ := Config.journalBase + 64 * (b.w.toNat % Config.journalSlots)
  let s1 := (s.pokeAll at_ r.bytes).withBilling { b with
    w := b.w + 1
    flaggedMark := if r.flags.flagged then some b.w else b.flaggedMark }
  ((s1.pokeAll Config.hdrW (beBytes 2 (b.w + 1).toNat)).raise .journalNew).showFlagged

/-- A composed record goes into the journal while the fill is below 128, else into the empty
held record, else it becomes the waiting record (R93, R101, R102). -/
def State.placeRecord (s : State) (r : Record) : State :=
  if s.billing.fill < Config.journalSlots then s.journalWrite r
  else match s.billing.held with
    | none => (s.withBilling { s.billing with held := some r }).poke Config.hdrHeld 1
    | some _ => s.withBilling { s.billing with waiting := some r }

/-! ## Closing the session interval -/

/-- The session context after a written close (R82). -/
def Session.afterWritten (ses : Session) (i : Interval) : Session :=
  { ses with
    carries := PerCat.zip nextCarry i.cost ses.carries
    wh := PerCat.zip (· + ·) ses.wh i.wh
    cost := PerCat.zip (· + ·) ses.cost (PerCat.zip reportedCost i.cost ses.carries)
    flags := ses.flags.union i.flags
    intervalNo := nextCount ses.intervalNo
    written := ses.written + 1 }

/-- The INTERVAL record of a close, its sequence number still to come (R82, R90). -/
def intervalRecord (b : Billing) (ses : Session) (i : Interval) (cause : CloseCause)
    (bandEnd : Nat) : Record where
  seq := 0
  cause := cause
  flags := i.flags
  sessionNo := ses.number
  intervalNo := ses.intervalNo
  start := i.start
  stop := b.partTime
  bandStart := i.bandStart
  bandEnd := bandEnd
  meterStart := i.meterStart
  meterEnd := b.meter
  body := .interval i.wh (PerCat.zip reportedCost i.cost ses.carries) i.merges

/-- The written close of the open session interval: the record composed, the context updated,
no interval open (R82). -/
def State.cutInterval (s : State) (ses : Session) (i : Interval) (cause : CloseCause)
    (bandEnd : Nat) : Record × State :=
  let (r, s1) := s.compose (intervalRecord s.billing ses i cause bandEnd)
  (r, s1.withBilling { s1.billing with
    session := some (ses.afterWritten i)
    interval := none })

/-- Begin the next interval of the session at the part time as it stands (R75). -/
def State.beginInterval (s : State) (meter : Word) : State :=
  s.withBilling { s.billing with
    interval := some (s.billing.newInterval s.billing.partTime meter) }

/-- A close of the open session interval for a cause other than END and CLOCK: merged while the
held record is occupied (R103), dropped with its start inherited when empty and the cause
does not write it (R77), else written, the next interval beginning at once (R75, R82).
`place` puts the record where it goes; `adopted` says a table is adopted at this close. -/
def State.closeIntervalBy (place : State → Record → State) (s : State) (cause : CloseCause)
    (bandEnd : Nat) (adopted : Bool) : State :=
  match s.billing.session, s.billing.interval with
  | some ses, some i =>
      if s.billing.held.isSome then
        s.withBilling { s.billing with interval := some (i.merge s.billing.band adopted) }
      else if i.isEmpty && cause.dropsEmpty then
        s.withBilling { s.billing with
          interval := some (s.billing.newInterval i.start i.meterStart) }
      else
        let (r, s1) := s.cutInterval ses i cause bandEnd
        place (s1.beginInterval r.meterEnd) r
  | _, _ => s

/-! ## Journal hold (R98, R99) -/

/-- The journal hold begins (R98). Its own HOLD record does not begin it again. -/
def State.beginHold (s : State) : State :=
  let s1 := ((s.withBilling { s.billing with hold := true }).raise .journalHalt).failGate
  s1.closeIntervalBy State.placeRecord .hold s1.billing.band false

/-- The journal hold ends (R99). -/
def State.endHold (s : State) : State :=
  (s.withBilling { s.billing with hold := false }).clear .journalHalt

/-- A composed record is written: placed, and the hold test applied to a journal write (R93). -/
def State.enterRecord (s : State) (r : Record) : State :=
  let s1 := s.placeRecord r
  if s.billing.fill < Config.journalSlots ∧ s1.billing.hold = false ∧
      s1.billing.halt ≤ s1.billing.fill then s1.beginHold else s1

/-- A close of the open session interval (R75). -/
def State.closeInterval (s : State) (cause : CloseCause) (bandEnd : Nat) (adopted : Bool) : State :=
  s.closeIntervalBy State.enterRecord cause bandEnd adopted

/-! ## The orphan interval (R84, R85) -/

/-- The ORPHAN record of a close (R85, R90). -/
def orphanRecord (b : Billing) (o : Orphan) (cause : CloseCause) (bandEnd : Nat) : Record where
  seq := 0
  cause := cause
  flags := o.interval.flags
  sessionNo := 0
  intervalNo := 0
  start := o.interval.start
  stop := b.partTime
  bandStart := o.interval.bandStart
  bandEnd := bandEnd
  meterStart := b.journalMeter
  meterEnd := b.meter
  body := .orphan o.interval.wh (PerCat.zip reportedCost o.interval.cost o.carries)
    (PerCat.zip nextCarry o.interval.cost o.carries) o.interval.merges

/-- A close of the orphan interval: merged while the held record is occupied (R103), dropped
when empty at a RELAY close, else written (R85). -/
def State.closeOrphan (s : State) (cause : CloseCause) (bandEnd : Nat) : State :=
  match s.billing.orphan with
  | some o =>
      if s.billing.held.isSome then
        s.withBilling { s.billing with
          orphan := some { o with interval := o.interval.merge s.billing.band false } }
      else if o.interval.isEmpty && cause.dropsEmpty then
        s.withBilling { s.billing with orphan := none }
      else
        let (r, s1) := s.compose (orphanRecord s.billing o cause bandEnd)
        (s1.withBilling { s1.billing with orphan := none }).enterRecord r
  | none => s

/-- Open the orphan interval (R84). -/
def Billing.newOrphan (b : Billing) : Orphan :=
  ⟨b.newInterval b.partTime b.journalMeter, PerCat.same 0⟩

/-! ## Pricing (R72) -/

/-- A counted frame report priced into an interval, with the flags it raises (R72, R83). -/
def Interval.take (i : Interval) (price : Nat) (r : FrameReport) : Interval :=
  { i with
    wh := PerCat.zip (· + ·) i.wh r.carries
    cost := PerCat.zip (· + ·) i.cost (r.carries.map (· * price))
    flags := { i.flags with
      reverse := i.flags.reverse || r.reverse
      overrange := i.flags.overrange || r.overrange
      uncalibrated := i.flags.uncalibrated || r.uncalibrated } }

/-! ## Non-energy records -/

/-- A non-energy record: meter at start the journal meter, meter at end M_Wh as it stands (R92). -/
def plainRecord (b : Billing) (flags : RecFlags) (sessionNo intervalNo : Nat) (start stop : Word)
    (bandStart bandEnd : Nat) (body : RecordBody) : Record where
  seq := 0
  cause := .none
  flags := flags
  sessionNo := sessionNo
  intervalNo := intervalNo
  start := start
  stop := stop
  bandStart := bandStart
  bandEnd := bandEnd
  meterStart := b.journalMeter
  meterEnd := b.meter
  body := body

/-- Compose a record and write it. -/
def State.record (s : State) (r : Record) : State :=
  let (r1, s1) := s.compose r
  s1.enterRecord r1

/-- A pending tariff table becomes the active table (R70). -/
def State.adoptPending (s : State) : State :=
  match s.billing.pendingTable with
  | some t => s.withBilling { s.billing with
      table := t, pendingTable := none, defaultTable := false }
  | none => s

end Sys2Proof.Machine
end

