-- ==== Sys2Proof/Machine/Clock.lean ====
section
/-!
DEFINITION. Clock and tariffs (04_clock_tariffs_and_cost): SET CLOCK, LOAD TARIFF, the
advance of part time and the minute start.
-/

namespace Sys2Proof.Machine

/-- A CLOSE SESSION runs detached from its slot (R42). -/
def Billing.detachedClose (b : Billing) : Bool :=
  match b.close with
  | some ⟨none, _⟩ => true
  | _ => false

/-- The session number a CLOCK record bears (R90). -/
def Billing.sessionNo (b : Billing) : Nat :=
  match b.session with
  | some ses => ses.number
  | none => 0

/-! ## SET CLOCK (R65, R66) -/

/-- Part time takes a new value, the flag is set, the timebase restarts (R65 step 2). -/
def State.setPartTime (s : State) (t : Word) : State :=
  s.withBilling { s.billing with partTime := t, clockSet := true, secondPhase := 0 }

/-- The CLOCK record (R65, R90): band in force before and after, no flags. -/
def clockRecord (before after : Billing) : Record :=
  plainRecord after RecFlags.clear after.sessionNo 0 before.partTime after.partTime
    before.band after.band (.clock before.partTime after.partTime before.clockSet)

/-- Step 1 of SET CLOCK: the CLOCK close of the open interval or of the orphan interval, written
even if empty (R65, R66). No session interval is open until `State.clockReopen`
(DEDUCED, log entry 16). -/
def State.clockClose (s : State) : State :=
  match s.billing.session, s.billing.interval with
  | some ses, some i =>
      let (r, s1) := s.cutInterval ses i .clock s.billing.band
      s1.enterRecord r
  | _, _ => s.closeOrphan .clock s.billing.band

/-- Step 4 of SET CLOCK with a session open: a new interval at the new part time (R66). -/
def State.clockReopen (s : State) : State :=
  match s.billing.session with
  | some _ => s.beginInterval s.billing.meter
  | none => s

/-- The effect of an accepted SET CLOCK (R65, R66). -/
def State.applySetClock (s : State) (t : Word) : State :=
  let s1 := s.clockClose.setPartTime t
  (s1.record (clockRecord s.billing s1.billing)).clockReopen

/-- SET CLOCK at its take (R65). -/
def State.takeSetClock (s : State) (t : Word) : Ending × State :=
  if t = 0 then (refusal .badParameter, s)
  else if s.billing.held.isSome || s.billing.detachedClose then (refusal .notNow, s)
  else
    (⟨.ok, noteNone,
      beBytes 4 s.billing.partTime.toNat ++ [flagByte s.billing.clockSet] ++ beBytes 4 t.toNat⟩,
     s.applySetClock t)

/-! ## LOAD TARIFF (R68, R69) -/

/-- The starts of the bands after the first rise strictly and lie below 1440 (R68). -/
def bandsRise : Nat → List Band → Bool
  | _, [] => true
  | before, b :: bs => decide (before < b.start) && decide (b.start < 1440) && bandsRise b.start bs

/-- A table's checks (R68). -/
def Tariff.valid (t : Tariff) : Bool :=
  [5, 10, 15, 20, 30, 60].contains t.length
    && match t.bands with
      | [] => false
      | b :: bs => b.start == 0 && bandsRise 0 bs

/-- The parameters of LOAD TARIFF lie in their ranges (R68). -/
def tariffParamsOk (offset count : Nat) : Bool :=
  decide (1 ≤ count) && decide (count ≤ 12) && decide (Config.stagingFirst ≤ offset)
    && decide (offset + 4 * count ≤ Config.stagingLast)

/-- The minute of day of the next L boundary of the active table (R69): the next multiple of L
ahead, or minute 0 where the day ends first, or where part time returns to 0 before that minute
starts (R63, R64). -/
def Billing.nextBoundary (b : Billing) : Nat :=
  let m := minuteOfDay b.partTime
  let next := min ((m / b.table.length + 1) * b.table.length) 1440
  if 60 * (b.partTime.toNat / 60 + (next - m)) < 2 ^ 32 then next % 1440 else 0

/-- The orphan interval, if open, takes SPANS_BANDS (R69). -/
def Billing.orphanSpans (b : Billing) : Billing :=
  { b with orphan := b.orphan.map fun o =>
      { o with interval := { o.interval with flags := { o.interval.flags with spansBands := true } } } }

/-- The result fields of an accepted LOAD TARIFF (R69): disposition, L, band count, the band in
force under the active table, and the adoption minute. -/
def tariffFields (pendingNow : Bool) (t : Tariff) (band minute : Nat) : List Byte :=
  [flagByte pendingNow] ++ beBytes 1 t.length ++ beBytes 1 t.bands.length ++ beBytes 1 band
    ++ beBytes 2 minute

/-- An accepted LOAD TARIFF (R69). -/
def State.disposeTariff (s : State) (t : Tariff) : Ending × State :=
  match s.billing.session with
  | none =>
      let b := { s.billing with table := t, defaultTable := false }.orphanSpans
      (⟨.ok, noteNone, tariffFields false t b.band 0xFFFF⟩, s.withBilling b)
  | some _ =>
      (⟨.ok, if s.billing.pendingTable.isSome then noteReplacedPending else noteNone,
        tariffFields true t s.billing.band s.billing.nextBoundary⟩,
       s.withBilling { s.billing with pendingTable := some t })

/-- LOAD TARIFF at its take (R68). -/
def State.takeLoadTariff (s : State) (offset : Half) (count : Byte) : Ending × State :=
  let t := stagedTariff count.toNat (s.mem.readAll offset.toNat (1 + 4 * count.toNat))
  if !tariffParamsOk offset.toNat count.toNat then (refusal .badParameter, s)
  else if !t.valid then (refusal .badTable, s)
  else s.disposeTariff t

/-! ## Part time (R63) and the minute start (R64, R76) -/

/-- The close a minute start makes of the open session interval, if any (R76). -/
def Billing.minuteCause (b : Billing) (m : Nat) : Option CloseCause :=
  if b.pendingTable.isSome ∧ m % b.table.length = 0 then some .tariff
  else if b.clockSet = true ∧ b.table.startsBand m = true then some .band
  else if m % b.table.length = 0 then some .boundary
  else none

/-- What a minute start does to the orphan interval (R76): a RELAY close at a multiple of L, and
SPANS_BANDS at a band start that is not one. -/
def State.orphanMinute (s : State) (m bandBefore : Nat) : State :=
  if m % s.billing.table.length = 0 then s.closeOrphan .relay bandBefore
  else if s.billing.clockSet && s.billing.table.startsBand m then
    s.withBilling s.billing.orphanSpans
  else s

/-- A minute start, with the band in force just before it (R70, R71, R76). -/
def State.minuteStart (s : State) (bandBefore : Nat) : State :=
  let m := minuteOfDay s.billing.partTime
  match s.billing.interval with
  | some _ =>
      match s.billing.minuteCause m with
      | some .tariff => s.adoptPending.closeInterval .tariff bandBefore true
      | some cause => s.closeInterval cause bandBefore false
      | none => s
  | none => s.orphanMinute m bandBefore

/-- Part time advances by one second (R63). -/
def State.advanceTime (s : State) : State :=
  s.withBilling { s.billing with partTime := s.billing.partTime + 1, secondPhase := 0 }

/-- PART_TIME_TICK (R63): part time advances, and a multiple of 60 is a minute start (R64). -/
def execPartTimeTick (s : State) : Result State :=
  let s1 := s.advanceTime
  .next (if s1.billing.partTime.toNat % 60 = 0 then s1.minuteStart s.billing.band else s1)

end Sys2Proof.Machine
end

