-- ==== Sys2Proof/Machine/Session.lean ====
section
/-!
DEFINITION. Sessions and the billing journal (05_sessions_and_the_billing_journal): OPEN
SESSION, CLOSE SESSION and its continuation, CALIBRATE METER's billing side, SET JOURNAL
LEVELS, frame reports and the read mark.
-/

namespace Sys2Proof.Machine

/-! ## Ends of the standing orders, as other blocks bring them about -/

/-- The result fields of a CHARGE that ends with a result (R127). -/
def Charge.fields (c : Charge) (iDem : Nat) : List Byte :=
  beBytes 2 c.maxCurrent ++ beBytes 2 c.vLim ++ beBytes 2 c.endCurrent ++ beBytes 1 c.lastState.code
    ++ beBytes 2 c.cvCap ++ beBytes 2 iDem ++ beBytes 4 c.seconds

/-- The running CHARGE is discarded (R127). -/
def State.dropCharge (s : State) : State := s.withPower { s.power with charge := none }

/-- A running CHARGE ends on its own: ENDED with its end cause (R34, R127). -/
def State.endCharge (s : State) (cause : Byte) : State :=
  match s.power.charge with
  | some c => s.dropCharge.finish c.slot ⟨.ended, cause, c.fields s.power.iDem⟩
  | none => s

/-- A running CHARGE ends with TRIPPED (R34, R127). -/
def State.tripCharge (s : State) : State :=
  match s.power.charge with
  | some c => s.dropCharge.finish c.slot ⟨.tripped, clampedNote c.clamped, c.fields s.power.iDem⟩
  | none => s

/-! ## OPEN SESSION (R80, R81) -/

/-- The session context an OPEN SESSION sets (R81 step 2). -/
def Billing.newSession (b : Billing) (id battery heating aux : Word) : Session where
  id := id
  number := nextCount b.sessionCounter
  battery := battery
  heating := heating
  aux := aux
  openTime := b.partTime
  openBand := b.band
  intervalNo := 1
  written := 0
  wh := PerCat.same 0
  cost := PerCat.same 0
  carries := PerCat.same 0
  flags := RecFlags.clear
  closing := false

/-- The SESSION_OPEN record (R90, R91). -/
def sessionOpenRecord (b : Billing) (ses : Session) : Record :=
  plainRecord b b.startFlags ses.number 0 b.partTime b.partTime b.band b.band
    (.sessionOpen ses.id ses.battery ses.heating ses.aux)

/-- The effect of an accepted OPEN SESSION (R81). -/
def State.applyOpenSession (s : State) (id battery heating aux : Word) : State :=
  let s1 := s.closeOrphan .relay s.billing.band
  let ses := s1.billing.newSession id battery heating aux
  let s2 := s1.withBilling { s1.billing with sessionCounter := ses.number, session := some ses }
  let s3 := s2.record (sessionOpenRecord s2.billing ses)
  (s3.beginInterval s3.billing.journalMeter).startKeepalive

/-- OPEN SESSION at its take (R80, R81). -/
def State.takeOpenSession (s : State) (id battery heating aux : Word) : Ending × State :=
  if id = 0 ∨ battery = 0 then (refusal .badParameter, s)
  else if s.billing.session.isSome ∨ s.billing.detachedClose = true ∨ s.billing.held.isSome
      ∨ s.billing.fill = Config.journalSlots then (refusal .notNow, s)
  else
    let s1 := s.applyOpenSession id battery heating aux
    (⟨.ok, noteNone,
      beBytes 2 s1.billing.sessionNo ++ beBytes 4 s.billing.partTime.toNat
        ++ [flagByte s.billing.clockSet] ++ beBytes 1 s.billing.band
        ++ beBytes 4 s.billing.meter.toNat ++ beBytes 4 (s1.billing.nextSeq - 1).toNat⟩, s1)

/-! ## CLOSE SESSION (R86 to R88) -/

/-- The result fields of a completed CLOSE SESSION (R88, 11_formats). -/
def CloseSummary.fields (c : CloseSummary) : List Byte :=
  beBytes 2 c.number ++ beBytes 2 c.written ++ beBytes 2 c.seq.toNat ++ packedCarries c.carries
    ++ catBytes 3 c.wh ++ catBytes 3 c.cost

/-- The SESSION_CLOSE record (R90, R91). -/
def sessionCloseRecord (b : Billing) (ses : Session) : Record :=
  plainRecord b { ses.flags with clockUnset := ses.flags.clockUnset || !b.clockSet }
    ses.number ses.written ses.openTime b.partTime ses.openBand b.band
    (.sessionClose ses.wh ses.cost ses.id ses.carries)

/-- Step 3 of the close: the END close of the open interval, written unless empty (R87, R77). -/
def State.endClose (s : State) : State :=
  match s.billing.session, s.billing.interval with
  | some ses, some i =>
      if i.isEmpty then s.withBilling { s.billing with interval := none }
      else
        let (r, s1) := s.cutInterval ses i .sessionEnd s.billing.band
        s1.enterRecord r
  | _, _ => s

/-- Step 4 of the close: SESSION_CLOSE is composed, the context discarded, the keepalive stopped,
and the record written (R87, R108). -/
def State.composeClose (s : State) (slot : Option SlotNo) (ses : Session) : State :=
  let (r, s1) := s.compose (sessionCloseRecord s.billing ses)
  let summary : CloseSummary := ⟨ses.number, ses.written, ses.wh, ses.cost, ses.carries, r.seq⟩
  ((s1.withBilling { s1.billing with
      session := none
      interval := none
      close := some ⟨slot, .awaitJournal summary⟩ }).stopKeepalive).enterRecord r

/-- A record is still outside the journal: it is held or it waits. -/
def Billing.outside (b : Billing) (seq : Word) : Bool :=
  (match b.held with
    | some r => r.seq == seq
    | none => false)
  || (match b.waiting with
    | some r => r.seq == seq
    | none => false)

/-- Step 5 of the close: once both records are in the journal the close ends OK; a detached
close writes no result (R88, R42). -/
def State.completeClose (s : State) : State :=
  match s.billing.close with
  | some ⟨slot, .awaitJournal summary⟩ =>
      if s.billing.outside summary.seq then s
      else
        let s1 := s.withBilling { s.billing with close := none }
        match slot with
        | some n => s1.finish n ⟨.ok, noteNone, summary.fields⟩
        | none => s1
  | _ => s

/-- Steps 3 and 4 as one event, when step 2 has been passed and the held record is empty; step 5
is passed at once when the records are already in the journal (R87, R88). -/
def State.continueClose (s : State) : State :=
  match s.billing.close with
  | some ⟨slot, .awaitHeld⟩ =>
      if s.billing.held.isSome then s
      else
        let s1 := s.endClose.adoptPending
        match s1.billing.session with
        | some ses => (s1.composeClose slot ses).completeClose
        | none => s
  | _ => s

/-- Step 1 of the close (R86): closing is set, the running CHARGE ends SESSION_CLOSED, the
session gate fails and the relay is asked to open. -/
def State.beginClose (s : State) (slot : SlotNo) (ses : Session) : State :=
  let s1 := s.withBilling { s.billing with
    session := some { ses with closing := true }
    close := some ⟨some slot, .awaitRelay⟩ }
  let s2 := (s1.endCharge endSessionClosed).failGate
  let s3 := s2.openRequest false
  if s3.trips.set.weld then s3.passStep2 else s3

/-- CLOSE SESSION at its take (R86): refused, or RUNNING with its first step carried out. Step 2
is passed at once when the relay is OPEN or WELD is latched, and steps 3 to 5 then follow in
the same event where nothing holds them (R86 to R88). A close that waits is carried on by its
own rows (DEDUCED, log entry 20). -/
def State.takeCloseSession (s : State) (slot : SlotNo) (id : Word) : State :=
  match s.billing.session with
  | some ses =>
      if ses.id ≠ id ∨ s.billing.close.isSome then s.finish slot (refusal .notNow)
      else ((s.setSlotState slot .running).beginClose slot ses).continueClose
  | none => s.finish slot (refusal .notNow)

/-! ## CALIBRATE METER (R60, R61) -/

/-- A channel by its number (R60). -/
def Metering.channel (m : Metering) : Nat → Option Channel
  | 0 => some m.inlet
  | 1 => some m.pack
  | 2 => some m.heater
  | 3 => some m.auxc
  | _ => none

/-- Replace a channel by its number (R60). -/
def Metering.setChannel (m : Metering) (n : Nat) (c : Channel) : Metering :=
  match n with
  | 0 => { m with inlet := c }
  | 1 => { m with pack := c }
  | 2 => { m with heater := c }
  | 3 => { m with auxc := c }
  | _ => m

/-- The CALIBRATION record (R61, R90). -/
def calibrationRecord (b : Billing) (n : Nat) (old : Channel) (gain : Nat) (offset : Int)
    (reverse : Nat) : Record :=
  plainRecord b RecFlags.clear 0 0 b.partTime b.partTime b.band b.band
    (.calibration n old.gain gain old.offset offset old.uncalibrated reverse)

/-- The effect of an accepted CALIBRATE METER (R61). -/
def State.applyCalibrate (s : State) (n : Nat) (old : Channel) (gain : Nat) (offset : Int) : State :=
  let s1 := s.withMetering (s.metering.setChannel n ⟨gain, offset, 0, false⟩)
  s1.record (calibrationRecord s1.billing n old gain offset s1.metering.reverse)

/-- CALIBRATE METER at its take (R60, R61). -/
def State.takeCalibrate (s : State) (channel : Byte) (gain : Word) (offset : Half) : Ending × State :=
  match s.metering.channel channel.toNat with
  | none => (refusal .badParameter, s)
  | some old =>
      let g := clampNat 0 131071 gain.toNat
      let q := clampInt (-2048) 2047 offset.toInt
      if s.billing.session.isSome ∨ s.billing.detachedClose = true ∨ s.billing.orphan.isSome
          ∨ s.billing.held.isSome then
        (refusal .notNow, s)
      else
        (⟨.ok, clampedNote (decide (g ≠ gain.toNat) || decide (q ≠ offset.toInt)),
          [channel] ++ beBytes 4 old.gain ++ beInt 2 old.offset ++ beBytes 4 g ++ beInt 2 q
            ++ [flagByte old.uncalibrated] ++ beBytes 4 s.metering.reverse
            ++ beBytes 4 s.billing.meter.toNat⟩,
         s.applyCalibrate channel.toNat old g q)

/-! ## SET JOURNAL LEVELS (R100) -/

/-- The hold re-evaluated against the levels (R98, R99, R100). -/
def State.retestHold (s : State) : State :=
  if s.billing.hold = false ∧ s.billing.halt ≤ s.billing.fill then s.beginHold
  else if s.billing.hold = true ∧ s.billing.fill ≤ s.billing.resume then s.endHold
  else s

/-- Both levels in force and in the header, and the hold re-evaluated (R100). -/
def State.applyLevels (s : State) (halt resume : Nat) : State :=
  (((s.withBilling { s.billing with halt := halt, resume := resume }).poke Config.hdrHalt
    (BitVec.ofNat 8 halt)).poke Config.hdrResume (BitVec.ofNat 8 resume)).retestHold

/-- SET JOURNAL LEVELS at its take (R100). -/
def State.takeJournalLevels (s : State) (halt resume : Byte) : Ending × State :=
  let h := clampNat 8 124 halt.toNat
  if h - 8 < resume.toNat then (refusal .badParameter, s)
  else
    let s1 := s.applyLevels h resume.toNat
    (⟨.ok, clampedNote (decide (h ≠ halt.toNat)),
      beBytes 1 h ++ [resume] ++ beBytes 1 s1.billing.fill ++ [flagByte s1.billing.hold]⟩, s1)

/-! ## Read mark (R95, R96) -/

/-- A read-mark value lies between the old Rd and W, both included (R95). -/
def Billing.acceptsMark (b : Billing) (m : Half) : Bool :=
  decide ((b.w - m).toNat ≤ (b.w - b.rd).toNat)

/-- Step 2 of an applied read mark: the held record enters the journal (R96). -/
def State.releaseHeld (s : State) : State :=
  match s.billing.held with
  | some r =>
      if s.billing.fill < Config.journalSlots then
        ((s.withBilling { s.billing with held := none }).poke Config.hdrHeld 0).enterRecord r
      else s
  | none => s

/-- Step 3 of an applied read mark: the waiting record follows the held one into the journal or
takes its place (R96). -/
def State.releaseWaiting (s : State) : State :=
  match s.billing.waiting, s.billing.held with
  | some r, none => (s.withBilling { s.billing with waiting := none }).enterRecord r
  | _, _ => s

/-- Step 5 of an applied read mark: the hold ends at or below the resume level (R96, R99). -/
def State.retestResume (s : State) : State :=
  if s.billing.hold = true ∧ s.billing.fill ≤ s.billing.resume then s.endHold else s

/-- An applied read mark (R96). -/
def State.applyMark (s : State) (m : Half) : State :=
  let s1 := (s.withBilling { s.billing with rd := m }).pokeAll Config.hdrRd (beBytes 2 m.toNat)
  s1.releaseHeld.releaseWaiting.showFlagged.retestResume

/-- A read-mark value from the watch: applied, or refused with WRITE_REFUSED (R95). -/
def State.takeMark (s : State) (m : Half) : State :=
  if s.billing.acceptsMark m then s.applyMark m else s.raise .writeRefused

/-! ## Frame reports (R83) -/

/-- A counted report is priced into the open session interval, or into the orphan interval,
which opens first where it is not open (R83, R84). -/
def Billing.takeCounted (b : Billing) (r : FrameReport) : Billing :=
  match b.interval with
  | some i => { b with interval := some (i.take b.priceNow r) }
  | none =>
      let o := b.orphan.getD b.newOrphan
      { b with orphan := some { o with interval := o.interval.take b.priceNow r } }

/-- The billing unit takes one frame report whole (R83). Its M_Wh is the meter as it stands until
the next report (DEDUCED, log entry 19). -/
def State.takeReport (s : State) (r : FrameReport) : State :=
  let s1 := s.withBilling { s.billing with meter := r.mWh }
  if r.counted then s1.withBilling (s1.billing.takeCounted r)
  else s1.closeOrphan .relay s1.billing.band

/-- FRAME_REPORT (R83): the oldest report handed over is taken; without one nothing happens. -/
def execFrameReport (s : State) : Result State :=
  match s.metering.reports with
  | r :: rest => .next ((s.withMetering { s.metering with reports := rest }).takeReport r)
  | [] => .next s

end Sys2Proof.Machine
end

