-- ==== Sys2Proof/Machine/Heating.lean ====
section
/-!
DEFINITION. The heating controller (07_pack_temperatures_and_heating): the sensor table,
SENSOR_LOSS, guards, the acceptance current, the HEAT plan's ends, and the orders HEAT,
LOAD ACCEPTANCE and SET SENSORS. The scan itself is in Machine/Scan.lean.
-/

namespace Sys2Proof.Machine

/-! ## Sensor table (R130, R131) -/

/-- The state a channel takes from a scan's result (R130). -/
def sensorOf (t : Int) : Sensor :=
  if t < -400 then .short else if 1250 < t then .opened else .valid t

/-- A channel's reading: none unless it is VALID (R130). -/
def Sensor.reading : Sensor → Option Int
  | .valid t => some t
  | .short => none
  | .opened => none

/-- Readings of the included pack channels that are VALID (R131). -/
def Heating.included (h : Heating) : List Int :=
  (List.finRange 8).filterMap fun k => if h.mask.getLsbD k.val then none else h.pack[k].reading

/-- The included count (R131). -/
def Heating.count (h : Heating) : Nat := h.included.length

/-- T_min, absent when the included count is 0 (R131). -/
def Heating.tMin (h : Heating) : Option Int := h.included.min?

/-- T_max, absent when the included count is 0 (R131). -/
def Heating.tMax (h : Heating) : Option Int := h.included.max?

/-! ## Acceptance current (R138) -/

/-- The table's current at a temperature (R138). -/
def acceptAt (t : Int) : List Point → Nat
  | [] => 0
  | [p] => p.current
  | p :: q :: rest =>
      if t ≤ p.temp then p.current
      else if t < q.temp then
        ((p.current : Int)
          + (((q.current : Int) - p.current) * (t - p.temp)).tdiv (q.temp - p.temp)).toNat
      else acceptAt t (q :: rest)

/-- I_1 of a table (R138). -/
def firstCurrent : List Point → Nat
  | [] => 0
  | p :: _ => p.current

/-- The acceptance current the controller forms (R138). -/
def Heating.formAcceptance (h : Heating) : Nat :=
  match h.table with
  | none => 0
  | some pts =>
      if h.sensorLoss then firstCurrent pts
      else match h.tMin with
        | some t => acceptAt t pts
        | none => firstCurrent pts

/-- The acceptance current is formed and handed to the power manager (R138). -/
def State.reformAcceptance (s : State) : State :=
  s.withHeating { s.heating with acceptance := s.heating.formAcceptance }

/-! ## Guards (R134) -/

/-- The pack guard after a test (R134). -/
def Heating.testPackGuard (h : Heating) : Bool :=
  match h.tMax with
  | some t => if h.packCap ≤ t then true else if t ≤ h.packCap - 30 then false else h.packGuard
  | none => h.packGuard

/-- The plate guard after a test (R134). -/
def Heating.testPlateGuard (h : Heating) : Bool :=
  match h.plate with
  | .valid t =>
      if h.plateLimit ≤ t then true else if t ≤ h.plateLimit - 50 then false else h.plateGuard
  | .short => h.plateGuard
  | .opened => h.plateGuard

/-- The plate sensor guard after a test (R134). -/
def Heating.testPlateSensor (h : Heating) : Bool :=
  match h.plate with
  | .valid _ => false
  | .short => true
  | .opened => true

/-- The three guards tested; the first to begin takes the duty to 0 at once (R134, R120). -/
def State.testGuards (s : State) : State :=
  let h := { s.heating with
    packGuard := s.heating.testPackGuard
    plateGuard := s.heating.testPlateGuard
    plateSensorGuard := s.heating.testPlateSensor }
  let s1 := s.withHeating h
  if h.guarded && !s.heating.guarded then s1.dutyOff else s1

/-! ## The HEAT plan's state and ends (R143, R146) -/

/-- The plan state shown and reported (R143). Between its take and its first scan it follows R143
too (DESIGN CHOICE, log entry 26). -/
def Heating.planState (h : Heating) (p : Plan) : PlanState :=
  if h.guarded then .guarded
  else if p.blockedCount = 10 then .blocked
  else match p.phase with
    | .warming => .warming
    | .holding => .holding

/-- The result fields of a HEAT that ends with a result (R146). -/
def Plan.fields (p : Plan) (tMin : Option Int) : List Byte :=
  beInt 2 p.target ++ beBytes 2 p.band ++ beBytes 2 p.hysteresis ++ beBytes 2 p.pMax
    ++ [p.source.code, p.policy.code, p.mode.code] ++ beBytes 1 p.lastState.code ++ tempBytes tMin
    ++ [flagByte p.reachedHolding] ++ beBytes 4 p.seconds

/-- The plan context is discarded, with its demand, source and policy (R146). -/
def State.dropPlan (s : State) : State := s.withHeating { s.heating with plan := none }

/-- A running HEAT ends on its own: ENDED with its end cause, then PLAN_EVENT (R34, R145, R146). -/
def State.endPlan (s : State) (cause : Byte) : State :=
  match s.heating.plan with
  | some p =>
      (s.dropPlan.finish p.slot ⟨.ended, cause, p.fields s.heating.tMin⟩).raise .planEvent
  | none => s

/-- A running HEAT ends with TRIPPED, then PLAN_EVENT (R34, R145, R146). -/
def State.tripPlan (s : State) : State :=
  match s.heating.plan with
  | some p =>
      (s.dropPlan.finish p.slot
        ⟨.tripped, clampedNote p.clamped, p.fields s.heating.tMin⟩).raise .planEvent
  | none => s

/-! ## SENSOR_LOSS (R132) -/

/-- SENSOR_LOSS tested on the table as it stands: beginning takes the duty to 0 and ends a running
plan with SENSORS (R132). -/
def State.testSensorLoss (s : State) : State :=
  let loss := decide (s.heating.count < 3)
  let s1 := s.withHeating { s.heating with sensorLoss := loss }
  if loss && !s.heating.sensorLoss then s1.dutyOff.endPlan endSensors else s1

/-! ## HEAT (R139, R140) -/

/-- The plan context an accepted HEAT sets up (R140). Its ranged parameters are clamped (R139). -/
def newPlan (slot : SlotNo) (heaterMax : Nat) (target band hysteresis pMax : Half)
    (source : Source) (policy : Policy) (mode : Mode) : Plan :=
  let t := clampInt (-200) 400 target.toInt
  let b := clampNat 10 200 band.toNat
  let h := clampNat 5 50 hysteresis.toNat
  let p := clampNat 0 heaterMax pMax.toNat
  { slot := slot
    target := t
    band := b
    hysteresis := h
    pMax := p
    source := source
    policy := policy
    mode := mode
    clamped := decide (t ≠ target.toInt) || decide (b ≠ band.toNat)
      || decide (h ≠ hysteresis.toNat) || decide (p ≠ pMax.toNat)
    phase := .warming
    demand := 0
    reachedHolding := false
    blockedCount := 0
    lastState := .warming
    seconds := 0
    tenths := 0 }

/-- HEAT at its take: the standing check, the codes, the clamping, SENSOR_LOSS (R33, R139, R140). -/
def State.takeHeat (s : State) (slot : SlotNo) (target band hysteresis pMax : Half)
    (source policy mode : Byte) : State :=
  if s.heating.plan.isSome then s.finish slot (refusal .alreadyStanding)
  else
    match decodeSource source, decodePolicy policy, decodeMode mode with
    | some src, some pol, some md =>
        if s.heating.sensorLoss then s.finish slot (refusal .notNow)
        else
          (s.setSlotState slot .running).withHeating { s.heating with
            plan := some
              (newPlan slot s.power.stage.heaterMax target band hysteresis pMax src pol md) }
    | _, _, _ => s.finish slot (refusal .badParameter)

/-! ## LOAD ACCEPTANCE (R136, R137) -/

/-- The parameters of LOAD ACCEPTANCE lie in their ranges (R136). -/
def acceptanceParamsOk (offset count : Nat) : Bool :=
  decide (2 ≤ count) && decide (count ≤ 10) && decide (Config.stagingFirst ≤ offset)
    && decide (offset + 4 * count - 1 ≤ Config.stagingLast)

/-- Each temperature lies above the one before it (R136). -/
def temperaturesRise : List Point → Bool
  | [] => true
  | [_] => true
  | p :: q :: rest => decide (p.temp < q.temp) && temperaturesRise (q :: rest)

/-- An acceptance table's checks (R136). -/
def pointsValid (pts : List Point) : Bool :=
  pts.all (fun p => decide (-400 ≤ p.temp) && decide (p.temp ≤ 1250) && decide (p.current ≤ 600))
    && temperaturesRise pts

/-- LOAD ACCEPTANCE at its take (R136, R137). -/
def State.takeLoadAcceptance (s : State) (offset : Half) (count : Byte) : Ending × State :=
  let pts := stagedPoints count.toNat (s.mem.readAll offset.toNat (4 * count.toNat))
  if !acceptanceParamsOk offset.toNat count.toNat then (refusal .badParameter, s)
  else if !pointsValid pts then (refusal .badTable, s)
  else
    let s1 := (s.withHeating { s.heating with table := some pts }).reformAcceptance
    (⟨.ok, noteNone,
      [count, flagByte s.heating.table.isSome] ++ beBytes 2 s1.heating.acceptance
        ++ tempBytes s1.heating.tMin⟩, s1)

/-! ## SET SENSORS (R133) -/

/-- SET SENSORS at its take (R133): the sensor table is re-formed under the new mask, then
SENSOR_LOSS, the guards and the acceptance current; the plan and the counts do not move. -/
def State.takeSetSensors (s : State) (mask : Byte) (packCap plateLimit : Half) : Ending × State :=
  let cap := clampInt 300 500 packCap.toInt
  let limit := clampInt 600 900 plateLimit.toInt
  let s1 := s.withHeating { s.heating with mask := mask, packCap := cap, plateLimit := limit }
  let s2 := s1.testSensorLoss.testGuards.reformAcceptance
  (⟨.ok, clampedNote (decide (cap ≠ packCap.toInt) || decide (limit ≠ plateLimit.toInt)),
    [mask] ++ beInt 2 cap ++ beInt 2 limit ++ beBytes 1 s2.heating.count
      ++ [flagByte s2.heating.sensorLoss]⟩, s2)

end Sys2Proof.Machine
end

