-- ==== Sys2Proof/Machine/Trip.lean ====
section
/-!
DEFINITION. The trip unit (09_inlet_relay_and_trips): trip reports and their effects (R178,
R179), clearing (R182, R183), the PMFLT input (R181), and the relay sequencer's timer and
INFB events (R171 to R176).
-/

namespace Sys2Proof.Machine

/-! ## Trip reports (R178, R179) -/

/-- A trip kind skips the current wait (R173). -/
def TripKind.skips : TripKind → Bool
  | .insulation | .module => true
  | .contact | .weld | .packOvertemp | .heaterOvertemp | .packOvervoltage => false

/-- The effects of a kind that enters the set, in R179's order. -/
def State.tripEffects (s : State) (k : TripKind) : State :=
  let s1 := (s.tripDrives.openRequest k.skips).tripCharge.tripPlan
  s1.closeInterval .trip s1.billing.band false

/-- The kind enters the set; into an empty set it becomes the first trip, TRIP is reported begun,
and the trip gate fails (R178). -/
def State.latchTrip (s : State) (k : TripKind) : State :=
  let s1 := s.withTrips { s.trips with set := s.trips.set.add k }
  if s.trips.set.isEmpty then
    ((s1.withTrips { s1.trips with first := some ⟨k, s.billing.partTime⟩ }).raise .trip).failGate
  else s1

/-- A latched WELD passes step 2 of a waiting CLOSE SESSION (R86). -/
def State.weldPasses (s : State) (k : TripKind) : State :=
  if k = .weld then s.passStep2 else s

/-- The trip unit takes one trip report (R178): a kind already in the set changes nothing. -/
def State.tripReport (s : State) (k : TripKind) : State :=
  if s.trips.set.has k then s
  else ((s.latchTrip k).tripEffects k).weldPasses k

/-! ## Clearing (R182, R183) -/

/-- The condition of a kind is gone (R182); what cannot be read keeps the kind. -/
def State.conditionGone (s : State) : TripKind → Bool
  | .insulation => s.insulation.condition != .fault
  | .contact => true
  | .weld => !s.pins.infb
  | .packOvertemp =>
      match s.heating.tMax with
      | some t => decide (t < 550)
      | none => false
  | .heaterOvertemp =>
      match s.heating.plate with
      | .valid t => decide (t < 850)
      | .short => false
      | .opened => false
  | .packOvervoltage => decide (s.metering.readings.packVoltage < s.power.lastVLim)
  | .module => !s.pins.pmflt

/-- The set that remains after a clearing request (R182). -/
def State.clearedSet (s : State) : TripSet where
  insulation := s.trips.set.insulation && !s.conditionGone .insulation
  contact := s.trips.set.contact && !s.conditionGone .contact
  weld := s.trips.set.weld && !s.conditionGone .weld
  packOvertemp := s.trips.set.packOvertemp && !s.conditionGone .packOvertemp
  heaterOvertemp := s.trips.set.heaterOvertemp && !s.conditionGone .heaterOvertemp
  packOvervoltage := s.trips.set.packOvervoltage && !s.conditionGone .packOvervoltage
  module := s.trips.set.module && !s.conditionGone .module

/-- The clearing request (R182); a set left empty by it discards the first-trip record and ends
TRIP (R183). -/
def State.clearTrips (s : State) : State :=
  let after := s.clearedSet
  if after.isEmpty && !s.trips.set.isEmpty then
    (s.withTrips ⟨after, none⟩).clear .trip
  else s.withTrips { s.trips with set := after }

/-- CLEAR TRIP at its take (R40). -/
def State.takeClearTrip (s : State) : Ending × State :=
  let s1 := s.clearTrips
  (⟨.ok, noteNone, [s.trips.set.byte, s1.trips.set.byte]⟩, s1)

/-! ## PMFLT (R181) -/

/-- PMFLT_ASSERTED (R181): an assertion reports MODULE; a level that stays asserted does not. -/
def execPmfltAsserted (s : State) : Result State :=
  .next (if s.pins.pmflt then s
    else (s.withPins { s.pins with pmflt := true }).tripReport .module)

/-- PMFLT_NEGATED (R181): nothing leaves the set; MODULE becomes clearable. -/
def execPmfltNegated (s : State) : Result State :=
  .next (s.withPins { s.pins with pmflt := false })

/-! ## INFB and the relay timers (R171 to R176) -/

/-- The timer of a state or phase runs and has reached its limit in tenths of a second (R169); a
timer that was cancelled, or stands lower, does not expire (DESIGN CHOICE, log entry 2). -/
def Relay.expired (r : Relay) (st : RelayState) (limit : Nat) : Bool :=
  r.state == st && r.timer.any fun t => decide (limit ≤ t)

/-- The half-period in progress sees an INFB change (R152). -/
def State.watchInfb (s : State) : State :=
  s.withInsulation { s.insulation with
    half := s.insulation.half.map fun h => { h with infbChanged := true } }

/-- The new level of INFB, seen by the metering unit's gate (R50) and the monitor (R152). -/
def State.setInfb (s : State) (closed : Bool) : State :=
  ((s.withPins { s.pins with infb := closed }).withMetering { s.metering with
    closedSeen := s.metering.closedSeen || closed }).watchInfb

/-- What INFB showing closed does to the sequencer (R171, R176). -/
def State.infbClosed (s : State) : State :=
  match s.relay.state with
  | .closing => s.enterClosed
  | .opened => s.setRelay .opened (some 0) false
  | .closed | .currentWait | .release | .stuck => s

/-- INFB_SHOWS_CLOSED (R171, R176); a level that already shows closed is no edge (DEDUCED, log
entry 7). -/
def execInfbShowsClosed (s : State) : Result State :=
  .next (if s.pins.infb then s else (s.setInfb true).infbClosed)

/-- A contact that drops out while it is driven: CONTACT, with the release phase entered, which
ends at once as INFB shows open (R172, R174, R175). -/
def State.contactLost (s : State) : State :=
  ((s.setRelay .release (some 0) false).tripReport .contact).endReleaseIfOpen

/-- What INFB showing open does to the sequencer (R172, R174 to R176). -/
def State.infbOpen (s : State) : State :=
  match s.relay.state with
  | .closed => s.leaveClosed.contactLost
  | .currentWait => s.contactLost
  | .release => s.enterOpen
  | .stuck => s.enterOpen
  | .opened => s.setRelay .opened none false
  | .closing => s

/-- INFB_SHOWS_OPEN (R175); a level that already shows open is no edge. -/
def execInfbShowsOpen (s : State) : Result State :=
  .next (if s.pins.infb then (s.setInfb false).infbOpen else s)

/-- The close timer's expiry in CLOSING reports CONTACT; the drive is removed and the sequencer
enters OPEN (R171). The trip's own open request already abandons the close. -/
def State.closeTimedOut (s : State) : State :=
  let s1 := s.tripReport .contact
  if s1.relay.state = .closing then s1.enterOpen else s1

/-- CLOSE_TIMER_EXPIRY (R171), at 200 ms. -/
def execCloseTimerExpiry (s : State) : Result State :=
  .next (if s.relay.expired .closing Config.closeLimit then s.closeTimedOut else s)

/-- NO_NEED_TIMER_EXPIRY (R172), at 10 s: the power manager is told, and an opening with a current
wait begins. -/
def execNoNeedTimerExpiry (s : State) : Result State :=
  .next (if s.relay.expired .closed Config.noNeedLimit then
    s.leaveClosed.setRelay .currentWait (some 0) false else s)

/-- CURRENT_WAIT_TIMEOUT (R174), at 2 s: the wait ends with the current as it is. -/
def execCurrentWaitTimeout (s : State) : Result State :=
  .next (if s.relay.expired .currentWait Config.currentWaitLimit then
    s.enterRelease s.relay.skips else s)

/-- The contact is welded or held: STUCK is entered and WELD reported (R175, R176). -/
def State.weld (s : State) : State := (s.setRelay .stuck none false).tripReport .weld

/-- The end of the release phase's 300 ms: WELD and STUCK with INFB still closed; a contact that
shows open has released (R175). -/
def State.releaseTimedOut (s : State) : State := if s.pins.infb then s.weld else s.enterOpen

/-- RELEASE_TIMER_EXPIRY (R175), at 300 ms. -/
def execReleaseTimerExpiry (s : State) : Result State :=
  .next (if s.relay.expired .release Config.releaseLimit then s.releaseTimedOut else s)

/-- UNCOMMANDED_CLOSURE_EXPIRY (R176): INFB closed for 300 ms while OPEN, WELD and STUCK. -/
def execUncommandedClosureExpiry (s : State) : Result State :=
  .next (if s.relay.expired .opened Config.closureLimit then s.weld else s)

end Sys2Proof.Machine
end

