-- ==== Sys2Proof/Machine/Scan.lean ====
section
/-!
DEFINITION. The temperature scan (R130): the sensor table, SENSOR_LOSS, the guards, the
overtemperature counts (R135), the acceptance current, and the HEAT plan's evaluation
(R141 to R145).
-/

namespace Sys2Proof.Machine

/-- The sensor table of a scan (R130, R131). -/
def State.takeTable (s : State) (scan : Scan) : State :=
  s.withHeating { s.heating with pack := scan.pack.map sensorOf, plate := sensorOf scan.plate }

/-- A pack temperature at the trip level: T_max present and at or above 60.0 °C (R135). -/
def Heating.packHot (h : Heating) : Bool :=
  match h.tMax with
  | some t => decide (600 ≤ t)
  | none => false

/-- A plate reading at the trip level: VALID and at or above 95.0 °C (R135). -/
def Heating.plateHot (h : Heating) : Bool :=
  match h.plate with
  | .valid t => decide (950 ≤ t)
  | .short => false
  | .opened => false

/-- An overtemperature count after a scan (R135). -/
def overCount (n : Nat) (hot : Bool) : Nat := if hot then min 2 (n + 1) else 0

/-- A trip reported on a condition. -/
def State.tripIf (s : State) (c : Bool) (k : TripKind) : State := if c then s.tripReport k else s

/-- The overtemperature counts stepped; a count that reaches 2 reports its trip (R135). Where both
reach 2 in one scan, R178 lets either report be taken first: PACK_OVERTEMP is, and becomes the
first trip of an empty set (DESIGN CHOICE, log entry 28). -/
def State.stepCounts (s : State) : State :=
  let h := s.heating
  let pc := overCount h.packCount h.packHot
  let pl := overCount h.plateCount h.plateHot
  let s1 := s.withHeating { h with packCount := pc, plateCount := pl }
  (s1.tripIf (pc == 2 && h.packCount != 2) .packOvertemp).tripIf
    (pl == 2 && h.plateCount != 2) .heaterOvertemp

/-- The proportional demand of a WARMING plan: the whole of P_max at or above the band, else the
floor of its share (R141). -/
def warmDemand (p : Plan) (e : Int) : Nat :=
  if (p.band : Int) ≤ e then p.pMax else p.pMax * e.toNat / p.band

/-- What an evaluation finds (R141, R142). -/
inductive Evaluation where
  /-- The plan goes on in a phase with a demand. -/
  | goOn (phase : PlanPhase) (demand : Nat)
  /-- Mode ONCE has reached the target. -/
  | reached
  deriving DecidableEq, Repr

/-- The evaluation table of R141, with mode ONCE's end (R142). -/
def evaluate (p : Plan) (e : Int) : Evaluation :=
  match p.phase with
  | .warming =>
      if e ≤ 0 then
        match p.mode with
        | .once => .reached
        | .keep => .goOn .holding 0
      else .goOn .warming (warmDemand p e)
  | .holding =>
      if (p.hysteresis : Int) ≤ e then .goOn .warming (warmDemand p e) else .goOn .holding 0

/-- The plan after an evaluation: a guard forces the demand to 0 (R141, R143), and the plan state
of the evaluation is kept for the result (R146). -/
def Heating.evaluated (h : Heating) (p : Plan) (phase : PlanPhase) (demand : Nat) : Plan :=
  let p1 := { p with
    phase := phase
    demand := if h.guarded then 0 else demand
    reachedHolding := p.reachedHolding || phase == PlanPhase.holding }
  { p1 with lastState := h.planState p1 }

/-- PLAN_EVENT at the first evaluation that sets HOLDING (R145). -/
def State.firstHolding (s : State) (p : Plan) (phase : PlanPhase) : State :=
  if phase == PlanPhase.holding && !p.reachedHolding then s.raise .planEvent else s

/-- The HEAT plan evaluated at a scan, where one runs and T_min is present (R141, R142). -/
def State.stepPlan (s : State) : State :=
  match s.heating.plan, s.heating.tMin with
  | some p, some t =>
      match evaluate p (p.target - t) with
      | .reached =>
          (s.withHeating { s.heating with
            plan := some { p with lastState := s.heating.planState p } }).endPlan endReached
      | .goOn phase demand =>
          (s.withHeating { s.heating with
            plan := some (s.heating.evaluated p phase demand) }).firstHolding p phase
  | _, _ => s

/-- TEMPERATURE_SCAN (R130): the six parts of a scan in their order. -/
def execTemperatureScan (scan : Scan) (s : State) : Result State :=
  .next (s.takeTable scan).testSensorLoss.testGuards.stepCounts.reformAcceptance.stepPlan

end Sys2Proof.Machine
end

