-- ==== Sys2Proof/Machine/Power.lean ====
section
/-!
DEFINITION. The power manager (06_supply_grant_and_power_allocation): the keepalive's events,
the supply-low filter, SET GRANT, SET POWER STAGE, CHARGE, the module lines, and the
control period.
-/

namespace Sys2Proof.Machine

/-! ## Keepalive events (R106, R107) -/

/-- A renewal (R107): GRANT_DUE is cleared in every state; ALIVE and EXPIRED start from zero. -/
def State.renew (s : State) : State :=
  let s1 := s.clear .grantDue
  match s.power.keepalive with
  | .stopped => s1
  | .alive _ _ => s1.startKeepalive
  | .expired => s1.startKeepalive

/-- The count of a running keepalive has reached 5 × the period, and GRANT_DUE has not been
reported since the start or renewal (R106). -/
def Power.halfDue (p : Power) : Bool :=
  match p.keepalive with
  | .alive count half => !half && decide (5 * p.period ≤ count)
  | .stopped => false
  | .expired => false

/-- The count of a running keepalive has reached 10 × the period (R106). -/
def Power.expiryDue (p : Power) : Bool :=
  match p.keepalive with
  | .alive count _ => decide (10 * p.period ≤ count)
  | .stopped => false
  | .expired => false

/-- GRANT_DUE has been reported for this start or renewal; the count goes on (R106). -/
def Keepalive.reported : Keepalive → Keepalive
  | .alive count _ => .alive count true
  | .stopped => .stopped
  | .expired => .expired

/-- KEEPALIVE_HALF_PERIOD (R106): at half the period GRANT_DUE is reported, once for each start or
renewal. Below it the event does not arise (DESIGN CHOICE, log entry 2). -/
def execKeepaliveHalfPeriod (s : State) : Result State :=
  .next (if s.power.halfDue then
      (s.withPower { s.power with keepalive := s.power.keepalive.reported }).raise .grantDue
    else s)

/-- KEEPALIVE_EXPIRY (R106): at the period the keepalive becomes EXPIRED and the effective grant
the fallback at once. Below it the event does not arise (DESIGN CHOICE, log entry 2). -/
def execKeepaliveExpiry (s : State) : Result State :=
  .next (if s.power.expiryDue then s.setKeepalive .expired else s)

/-! ## Supply-low filter (R110) -/

/-- One published frame's inlet voltage through the filter (R110). -/
def Power.filterSupply (p : Power) (v : Nat) : Power :=
  if v < 1800 then
    let n := min 5 (p.lowCount + 1)
    { p with lowCount := n, supplyLow := p.supplyLow || n == 5 }
  else if v < 1950 then { p with lowCount := 0 }
  else { p with lowCount := 0, supplyLow := false }

/-- The filter takes a published frame; SUPPLY_LOW beginning fails the supply gate (R110, R112). -/
def State.takeVoltage (s : State) (v : Nat) : State :=
  (s.withPower (s.power.filterSupply v)).failGateIf (!s.power.supplyLow)
    (!(s.power.filterSupply v).supplyLow)

/-! ## SET GRANT (R105) -/

/-- The three settings put in force; the grant gate may fail, and an open session restarts the
keepalive (R105, R108). -/
def State.applyGrant (s : State) (g f p : Nat) : State :=
  let s1 := s.withPower { s.power with grant := g, fallback := f, period := p
                                       keepalive := if s.billing.session.isSome then .alive 0 false
                                         else .stopped }
  s1.failGateIf (decide (0 < s.power.effGrant)) (decide (0 < s1.power.effGrant))

/-- SET GRANT at its take (R105). -/
def State.takeSetGrant (s : State) (grant fallback : Half) (period : Byte) : Ending × State :=
  let g := clampNat 0 22000 grant.toNat
  let f := clampNat 0 3700 fallback.toNat
  let p := clampNat 2 60 period.toNat
  let s1 := s.applyGrant g f p
  (⟨.ok, clampedNote (decide (g ≠ grant.toNat) || decide (f ≠ fallback.toNat)
      || decide (p ≠ period.toNat)),
    beBytes 2 g ++ beBytes 2 f ++ beBytes 1 p ++ beBytes 1 s1.power.keepalive.code
      ++ beBytes 2 s1.power.effGrant⟩, s1)

/-! ## SET POWER STAGE (R121) -/

/-- The settings an order asks for, clamped (R121). -/
def clampStage (eta stageMax : Half) (sUp : Byte) (rH heaterMax : Half) : Stage where
  eta := clampNat 800 990 eta.toNat
  stageMax := clampNat 0 600 stageMax.toNat
  sUp := clampNat 1 100 sUp.toNat
  rH := clampNat 100 2000 rH.toNat
  heaterMax := clampNat 0 6000 heaterMax.toNat

/-- The settings in force, with I_dem cut to a lowered stage maximum (R121). -/
def State.applyStage (s : State) (g : Stage) : State :=
  let s1 := s.withPower { s.power with stage := g }
  if g.stageMax < s.power.iDem then s1.setDemand g.stageMax else s1

/-- SET POWER STAGE at its take (R121). -/
def State.takeSetPowerStage (s : State) (eta stageMax : Half) (sUp : Byte) (rH heaterMax : Half) :
    Ending × State :=
  let g := clampStage eta stageMax sUp rH heaterMax
  (⟨.ok, clampedNote (decide (g ≠ ⟨eta.toNat, stageMax.toNat, sUp.toNat, rH.toNat, heaterMax.toNat⟩)),
    beBytes 2 g.eta ++ beBytes 2 g.stageMax ++ beBytes 1 g.sUp ++ beBytes 2 g.rH
      ++ beBytes 2 g.heaterMax⟩, s.applyStage g)

/-! ## CHARGE (R122) -/

/-- The charge maximum current: clamped into 1..600 dA and lowered to the stage maximum, not
below 1 (R122). -/
def chargeMax (stageMax asked : Nat) : Nat := max 1 (min (clampNat 1 600 asked) stageMax)

/-- The context an accepted CHARGE sets up (R122). GATED stands as its last state until its first
control period (DEDUCED, log entry 14). -/
def newCharge (slot : SlotNo) (stageMax : Nat) (maxCurrent vLim endCurrent : Half) : Charge :=
  let m := chargeMax stageMax maxCurrent.toNat
  let v := clampNat 2000 5000 vLim.toNat
  let e := clampNat 5 100 endCurrent.toNat
  { slot := slot
    maxCurrent := m
    vLim := v
    endCurrent := e
    clamped := decide (m ≠ maxCurrent.toNat) || decide (v ≠ vLim.toNat)
      || decide (e ≠ endCurrent.toNat)
    cvCap := stageMax
    ovCount := 0
    state := .gated
    lastState := .gated
    seconds := 0
    tenths := 0 }

/-- CHARGE at its take (R33, R122). -/
def State.takeCharge (s : State) (slot : SlotNo) (maxCurrent vLim endCurrent : Half) : State :=
  if s.power.charge.isSome then s.finish slot (refusal .alreadyStanding)
  else if s.billing.sessionGate = false ∨ s.heating.table.isNone then
    s.finish slot (refusal .notNow)
  else
    let c := newCharge slot s.power.stage.stageMax maxCurrent vLim endCurrent
    (s.setSlotState slot .running).withPower { s.power with
      charge := some c, lastVLim := c.vLim }

/-! ## The control period (R113 to R126) -/

/-- What the power manager reads at the start of a control period (R113, step 1). -/
structure PeriodInputs where
  allGates : Bool
  grant : Nat
  v : Nat
  heatDemand : Nat
  source : Source
  policy : Policy
  planRuns : Bool
  acceptance : Nat
  quiet : Bool
  relayClosed : Bool
  deriving DecidableEq, Repr

/-- Step 1: gates and inputs. Without a plan the heater demand is 0 and HEAT_FIRST applies (R113,
R114, R146). -/
def State.periodInputs (s : State) : PeriodInputs where
  allGates := s.gates.all
  grant := s.power.effGrant
  v := s.metering.readings.packVoltage
  heatDemand := match s.heating.plan with
    | some p => min p.demand s.power.stage.heaterMax
    | none => 0
  source := match s.heating.plan with
    | some p => p.source
    | none => .pack
  policy := match s.heating.plan with
    | some p => p.policy
    | none => .heatFirst
  planRuns := s.heating.plan.isSome
  acceptance := s.heating.acceptance
  quiet := s.insulation.quiet
  relayClosed := s.relay.state == .closed

/-- The two shares of an allocation (R114). -/
structure Shares where
  heaterIn : Nat
  chargeIn : Nat
  deriving DecidableEq, Repr

/-- The charge current cap (R114): 0 without a running CHARGE. -/
def currentCap (acceptance stageMax : Nat) : Option Charge → Nat
  | some c => min (min acceptance c.maxCurrent) (min c.cvCap stageMax)
  | none => 0

/-- Inlet power that supplies `p` W through an efficiency of `eta` ‰ (R114). -/
def inletFor (eta p : Nat) : Nat := ceilDiv (p * 1000) eta

/-- H_in: what the heater asks of the supply (R114, step 1). -/
def PeriodInputs.heaterAsk (i : PeriodInputs) (eta : Nat) : Nat :=
  match i.source with
  | .supply => inletFor eta i.heatDemand
  | .supplyThenPack => inletFor eta i.heatDemand
  | .pack => 0

/-- Two demands served from one grant in the policy's order (R114, steps 4 and 5). -/
def serve (policy : Policy) (g hIn cIn : Nat) : Shares :=
  match policy with
  | .heatFirst => ⟨min hIn g, min cIn (g - min hIn g)⟩
  | .chargeFirst => ⟨min hIn (g - min cIn g), min cIn g⟩

/-- The allocation of a control period (R114). -/
def allocate (st : Stage) (charge : Option Charge) (i : PeriodInputs) : Shares :=
  serve i.policy (if i.allGates then i.grant else 0) (i.heaterAsk st.eta)
    (inletFor st.eta (currentCap i.acceptance st.stageMax charge * i.v / 100))

/-- The target demand (R115). -/
def targetDemand (st : Stage) (v : Nat) (sh : Shares) : Nat :=
  if v < 1000 then 0
  else min ((sh.chargeIn + sh.heaterIn) * st.eta / (10 * v)) st.stageMax

/-- The present charge current of a period (R124). -/
def presentCurrent (eta v chargeIn : Nat) : Nat := chargeIn * eta / (10 * v)

/-- The CV cap after a period: lowered while not GATED at or above V_lim (R124). -/
def cvUpdate (c : Charge) (gatesHold : Bool) (eta v chargeIn : Nat) : Nat :=
  if gatesHold = true ∧ c.vLim ≤ v then min c.cvCap (presentCurrent eta v chargeIn) - 5 else c.cvCap

/-- The CHARGE ends FULL: an update leaves the CV cap below the end current (R125). -/
def endsFull (c : Charge) (gatesHold : Bool) (eta v chargeIn : Nat) : Bool :=
  gatesHold && decide (c.vLim ≤ v) && decide (cvUpdate c gatesHold eta v chargeIn < c.endCurrent)

/-- The overvoltage count after a period (R126). -/
def ovUpdate (c : Charge) (v : Nat) : Nat := if c.vLim + 100 ≤ v then min 3 (c.ovCount + 1) else 0

/-- The state of a CHARGE in a period: the first row of R123 that holds. -/
def chargeStateOf (gatesHold : Bool) (v vLim iDem iTgt : Nat) : ChargeState :=
  if !gatesHold then .gated
  else if vLim ≤ v then .tapering
  else if iDem < iTgt then .ramping
  else .steady

/-- I_dem after the slew of a period (R117). -/
def slew (closed quiet : Bool) (sUp iDem iTgt : Nat) : Nat :=
  if !closed then 0
  else if iTgt < iDem then iTgt
  else if quiet then iDem
  else min (iDem + sUp) iTgt

/-- The supply-fed heater power of a period (R119). -/
def supplyFedPower (eta heaterIn iDem v : Nat) : Nat :=
  min (heaterIn * eta / 1000) (iDem * v / 100)

/-- The heater must be off: a trip is latched, a heating guard stands, or SENSOR_LOSS stands
(R119, R120). -/
def State.heaterHeldOff (s : State) : Bool :=
  !s.trips.set.isEmpty || s.heating.guarded || s.heating.sensorLoss

/-- The plan's source lets the pack feed the heater (R119). -/
def Source.usesPack : Source → Bool
  | .supply => false
  | .supplyThenPack => true
  | .pack => true

/-- The pack-fed heater power of a period (R119). -/
def packFedPower (i : PeriodInputs) (pkon heldOff : Bool) (chargeIn supplyFed : Nat) : Nat :=
  if i.planRuns && i.source.usesPack && pkon && chargeIn == 0 && !heldOff then
    i.heatDemand - supplyFed
  else 0

/-- The heater duty after a period (R120). -/
def nextDuty (heldOff quiet : Bool) (duty target : Nat) : Nat :=
  if heldOff then 0
  else if target < duty then target
  else if quiet then duty
  else min target (duty + 50)

/-- A running CHARGE after a period's CV update, overvoltage count and state (R123, R124, R126). -/
def Charge.afterPeriod (c : Charge) (gatesHold : Bool) (eta v chargeIn iDem iTgt : Nat) : Charge :=
  { c with
    cvCap := cvUpdate c gatesHold eta v chargeIn
    ovCount := ovUpdate c v
    state := chargeStateOf gatesHold v c.vLim iDem iTgt
    lastState := chargeStateOf gatesHold v c.vLim iDem iTgt }

/-- The relay need of a period (R116, R113 step 5). -/
def State.periodNeed (s : State) (need : Bool) : State :=
  if need then s.setNeed else s.withdrawNeed

/-- The blocked count after a period's report of the heater power (R144). -/
def Plan.takePower (p : Plan) (power : Nat) : Plan :=
  { p with blockedCount := if power = 0 ∧ 0 < p.demand then min 10 (p.blockedCount + 1) else 0 }

/-- The heating controller takes the heater power of the period (R144). -/
def State.reportHeaterPower (s : State) (power : Nat) : State :=
  s.withHeating { s.heating with plan := s.heating.plan.map fun p => p.takePower power }

/-- Steps 4 to 8 of a period once its shares and target are formed (R113): CHARGE, relay need,
slew, heater power and duty, the values kept for the live copy, and the report to the heating
controller. -/
def State.drivePeriod (s : State) (i : PeriodInputs) (sh : Shares) (iTgt : Nat) : State :=
  let st := s.power.stage
  let s1 := s.periodNeed (i.allGates && decide (0 < iTgt))
  let iDem := slew i.relayClosed i.quiet st.sUp s.power.iDem iTgt
  let supplyFed := supplyFedPower st.eta sh.heaterIn iDem i.v
  let packFed := packFedPower i s.pins.pkon s.heaterHeldOff sh.chargeIn supplyFed
  let duty := nextDuty s.heaterHeldOff i.quiet s.power.duty
    (dutyFor st.rH i.v (supplyFed + packFed))
  let s2 := (s1.setDemand iDem).setDuty duty
  let s3 := s2.withPower { s2.power with
    supplyFed := supplyFed
    packFed := packFed
    lastV := i.v
    last := ⟨i.grant, sh.heaterIn, sh.chargeIn, iTgt, iDem, duty, supplyFed + packFed⟩
    charge := s2.power.charge.map fun c =>
      c.afterPeriod i.allGates st.eta i.v sh.chargeIn iDem iTgt }
  s3.reportHeaterPower (supplyFed + packFed)

/-- The reports at the end of a period: a full CHARGE ends (R125), then a third overvoltage period
reports its trip (R126). -/
def State.periodReports (s : State) (full overvoltage : Bool) : State :=
  (if full then s.endCharge endFull else s).tripIf overvoltage .packOvervoltage

/-- CONTROL_PERIOD (R113), taken whole. -/
def execControlPeriod (s : State) : Result State :=
  let i := s.periodInputs
  let sh := allocate s.power.stage s.power.charge i
  let iTgt := targetDemand s.power.stage i.v sh
  let full := match s.power.charge with
    | some c => endsFull c i.allGates s.power.stage.eta i.v sh.chargeIn
    | none => false
  let overvoltage := match s.power.charge with
    | some c => ovUpdate c i.v == 3 && c.ovCount != 3
    | none => false
  .next ((s.drivePeriod i sh iTgt).periodReports full overvoltage)

/-! ## Module lines (R128) -/

/-- PMRDY_NEGATED (R128): the module gate fails at once. -/
def execPmrdyNegated (s : State) : Result State :=
  .next ((s.withPins { s.pins with pmrdy := false }).failGateIf s.pins.pmrdy false)

/-- PMRDY_ASSERTED (R128): the module gate holds again; the next control period allocates. -/
def execPmrdyAsserted (s : State) : Result State :=
  .next (s.withPins { s.pins with pmrdy := true })

end Sys2Proof.Machine
end

