-- ==== Sys2Proof/Machine/Insulation.lean ====
section
/-!
DEFINITION. The insulation monitor (08_insulation_monitoring): half-periods and their
judgement, results, R_iso, thresholds and condition, freshness, the history ring, CHECK
INSULATION and SET INSULATION. The events that free the insulation block and drain its queue
are in Machine/Monitor.lean.
-/

namespace Sys2Proof.Machine

/-! ## Half-periods (R150, R151) -/

/-- A half-period that begins now: its length and U_inj are fixed, and the watch begins from the
values standing (R151, R152). -/
def State.newHalf (s : State) (positive : Bool) : HalfPeriod where
  positive := positive
  stretch := s.insulation.stretch
  uInj := s.insulation.settings.uInj
  elapsed := 0
  dutyLow := s.power.duty
  dutyHigh := s.power.duty
  demLow := s.power.iDem
  demHigh := s.power.iDem
  infbChanged := false

/-- The next half-period begins at once (R151). -/
def State.beginHalf (s : State) (positive : Bool) : State :=
  s.withInsulation { s.insulation with half := some (s.newHalf positive) }

/-- The measurement discarded: half-period, samples, ΔU_prev, streaks of the settle test, the
invalid count, and a standing quiet request (R149, R150). -/
def Insulation.discard (i : Insulation) : Insulation :=
  { i with
    half := none
    samplePos := none
    sampleNeg := none
    prevDelta := none
    unsettled := 0
    settled := 0
    invalid := 0
    quiet := false }

/-- Entering WARMUP (R150). -/
def State.enterWarmup (s : State) : State :=
  (s.withInsulation { s.insulation.discard with state := .warmup }).beginHalf true

/-! ## INSULATION_WARN and freshness (R161, R162) -/

/-- The condition is WARNING or FAULT (R161). -/
def Condition.warns : Condition → Bool
  | .warning | .fault => true
  | .unknown | .ok => false

/-- The condition permits charging: OK or WARNING (R162). -/
def Condition.permits : Condition → Bool
  | .ok | .warning => true
  | .unknown | .fault => false

/-- A passage of the condition reported to the attention unit (R161). -/
def State.reportWarn (s : State) (before after : Condition) : State :=
  if after.warns && !before.warns then s.raise .insulationWarn
  else if before.warns && !after.warns then s.clear .insulationWarn
  else s

/-- Freshness as the condition, the age and the window give it (R162). -/
def Insulation.freshNow (i : Insulation) : Bool :=
  match i.last with
  | some l => i.condition.permits && decide (l.age ≤ 10 * i.settings.window)
  | none => false

/-! ## CHECK INSULATION's result (R165) -/

/-- R_iso and verdict of one older entry, all 00h where the ring does not hold it (R165). -/
def olderEntry : Option HistoryEntry → List Byte
  | some e => beBytes 2 e.rIso ++ beBytes 1 e.verdict.code
  | none => [0, 0, 0]

/-- Four entries of a ring, newest first (R165). -/
def fourEntries (h : List HistoryEntry) : List Byte :=
  olderEntry h[0]? ++ olderEntry h[1]? ++ olderEntry h[2]? ++ olderEntry h[3]?

/-- The condition, the thresholds of the last valid result and the fault streak (R165). -/
def Insulation.checkMiddle (i : Insulation) : List Byte :=
  beBytes 1 i.condition.code
    ++ (match i.last with
        | some l => beBytes 2 l.warnAt ++ beBytes 2 l.faultAt
        | none => [0, 0, 0, 0])
    ++ beBytes 1 i.streak

/-- The result fields of an end by a valid result: its entry, then the four behind it (R165). -/
def Insulation.checkFields (i : Insulation) (e : HistoryEntry) : List Byte :=
  beBytes 4 e.time.toNat ++ beBytes 2 e.rIso ++ beBytes 1 e.stretch ++ beBytes 2 e.voltage
    ++ beBytes 1 e.verdict.code ++ i.checkMiddle ++ fourEntries (i.history.drop 1)

/-- The result fields of an end by HV_DOWN or TIMED_OUT: 00h for the awaited result (R165). -/
def Insulation.checkNoResult (i : Insulation) : List Byte :=
  padTo 10 [] ++ i.checkMiddle ++ fourEntries i.history

/-- A running CHECK INSULATION ends (R165). The block is then free; the caller drains its queue. -/
def State.endCheck (s : State) (e : Ending) : State :=
  match s.insulation.check with
  | some c => (s.withInsulation { s.insulation with check := none }).finish c.slot e
  | none => s

/-! ## Entering IDLE (R149) -/

/-- Entering IDLE, in R149's order. -/
def State.enterIdle (s : State) : State :=
  let i := s.insulation
  let s1 := s.withInsulation { i.discard with
    state := .idle
    condition := .unknown
    streak := 0
    fresh := false }
  let s2 := (s1.reportWarn i.condition .unknown).failGateIf i.fresh false
  s2.endCheck ⟨.ended, endHvDown, s2.insulation.checkNoResult⟩

/-! ## A valid result (R157 to R163) -/

/-- R_iso of a valid result (R157). -/
def rIsoOf (rM uInj : Nat) (delta : Int) : Nat :=
  if delta ≤ 0 then 0
  else if 2 * (uInj : Int) - delta ≤ 0 then Config.aboveRange
  else
    let q := ((rM : Int) * delta / (2 * (uInj : Int) - delta)).toNat
    if 65534 < q then Config.aboveRange else q

/-- A threshold in kΩ from a level in Ω/V and the pack voltage (R158). -/
def threshold (level v : Nat) : Nat := level * v / 10000

/-- The warn release of a warn threshold (R158). -/
def warnRelease (w : Nat) : Nat := w + w / 4

/-- The fault release of a fault threshold (R158). -/
def faultRelease (f : Nat) : Nat := 2 * f

/-- The verdict of a valid result (R159). -/
def verdictOf (r w f : Nat) : Verdict :=
  if r < f then .belowFault else if r < w then .belowWarn else .clear

/-- The fault streak after a verdict (R159). -/
def nextStreak (streak : Nat) (v : Verdict) : Nat :=
  match v with
  | .belowFault => min 8 (streak + 1)
  | .belowWarn => 0
  | .clear => 0

/-- The condition after a valid result: the condition table (R159). `streak` is the streak as
updated. -/
def nextCondition (before : Condition) (v : Verdict) (r w f streak k : Nat) : Condition :=
  match before with
  | .fault =>
      if r < faultRelease f then .fault
      else if warnRelease w ≤ r then .ok else .warning
  | .warning =>
      match v with
      | .belowFault => if k ≤ streak then .fault else .warning
      | .belowWarn => .warning
      | .clear => if warnRelease w ≤ r then .ok else .warning
  | .unknown | .ok =>
      match v with
      | .belowFault => if k ≤ streak then .fault else .warning
      | .belowWarn => .warning
      | .clear => .ok

/-- The history entry of a valid result (R163). -/
def State.historyEntry (s : State) (stretch : Nat) (delta : Int) : HistoryEntry :=
  let set := s.insulation.settings
  let v := s.metering.readings.packVoltage
  let r := rIsoOf set.rM set.uInj delta
  { time := s.billing.partTime
    rIso := r
    stretch := stretch
    voltage := v
    verdict := verdictOf r (threshold set.warn v) (threshold set.fault v) }

/-- The monitor after a valid result: MEASURING, the condition and the streak, the last valid
result at age 0, and the entry at the front of the ring (R156 to R163). -/
def Insulation.takeEntry (i : Insulation) (e : HistoryEntry) : Insulation :=
  let w := threshold i.settings.warn e.voltage
  let f := threshold i.settings.fault e.voltage
  let streak := nextStreak i.streak e.verdict
  let cond := nextCondition i.condition e.verdict e.rIso w f streak i.settings.k
  { i with
    state := .measuring
    streak := streak
    condition := cond
    last := some ⟨e.rIso, 0, w, f⟩
    history := (e :: i.history).take 8
    fresh := cond.permits }

/-- The condition becoming FAULT reports INSULATION to the trip unit (R160). -/
def State.reportFault (s : State) (before after : Condition) : State :=
  s.tripIf (after == .fault && before != .fault) .insulation

/-- A valid result taken whole; a running CHECK INSULATION takes it last (R156 to R165). -/
def State.validResult (s : State) (stretch : Nat) (delta : Int) : State :=
  let e := s.historyEntry stretch delta
  let i := s.insulation.takeEntry e
  let s1 := (s.withInsulation i).reportWarn s.insulation.condition i.condition
  let s2 := s1.failGateIf s.insulation.fresh i.fresh
  let s3 := s2.reportFault s.insulation.condition i.condition
  s3.endCheck ⟨.ok, noteNone, i.checkFields e⟩

/-! ## The end of a half-period (R152 to R156) -/

/-- A half-period is invalid: duty moved by more than 100 ‰, I_dem by more than 50 dA, or INFB
changed (R152). -/
def HalfPeriod.isInvalid (h : HalfPeriod) : Bool :=
  decide (100 < h.dutyHigh - h.dutyLow) || decide (50 < h.demHigh - h.demLow) || h.infbChanged

/-- An invalid half-period: the count, the quiet request after the eighth, and the next half-period
of the same polarity (R153, R154). -/
def State.invalidHalf (s : State) (h : HalfPeriod) : State :=
  let i := s.insulation
  let full := i.invalid + 1 == 8
  (s.withInsulation { i with
    invalid := if full then 0 else i.invalid + 1
    quiet := full }).beginHalf h.positive

/-- A valid sample becomes the latest of its polarity (R152). -/
def Insulation.store (i : Insulation) (positive : Bool) (u : Int) : Insulation :=
  if positive then { i with samplePos := some u } else { i with sampleNeg := some u }

/-- ΔU = U(+) − U(−), where both polarities hold a sample (R155). -/
def Insulation.delta (i : Insulation) : Option Int :=
  match i.samplePos, i.sampleNeg with
  | some p, some n => some (p - n)
  | _, _ => none

/-- The limit of the settle test (R156). -/
def settleLimit (prev : Int) : Int := max (prev.tdiv 32) 20

/-- A result is settled (R156). -/
def isSettled (delta prev : Int) : Bool := decide (((delta - prev).natAbs : Int) ≤ settleLimit prev)

/-- The settle counts and the stretch after a settled result (R156). -/
def Insulation.countSettled (i : Insulation) : Insulation :=
  let n := min 4 (i.settled + 1)
  if n = 4 ∧ 0 < i.stretch then { i with unsettled := 0, settled := 0, stretch := i.stretch - 1 }
  else { i with unsettled := 0, settled := n }

/-- The settle counts and the stretch after an unsettled result (R156). -/
def Insulation.countUnsettled (i : Insulation) : Insulation :=
  if 2 ≤ i.unsettled + 1 then
    { i with settled := 0, unsettled := 0, stretch := min 3 (i.stretch + 1) }
  else { i with settled := 0, unsettled := i.unsettled + 1 }

/-- A result taken through the settle test; the flag says whether it is valid (R156). -/
def Insulation.testResult (i : Insulation) (delta : Int) : Insulation × Bool :=
  match i.prevDelta with
  | none => ({ i with prevDelta := some delta }, false)
  | some prev =>
      if isSettled delta prev then ({ i.countSettled with prevDelta := some delta }, true)
      else ({ i.countUnsettled with prevDelta := some delta }, false)

/-- A valid half-period: its sample stored, the result formed and tested, the next half-period of
the other polarity begun, and a settled result taken (R152 to R156).
DEDUCED (log entry 18): the next half-period begins before the result's effects, so that a trip
the result reports moves the loads of the next half-period. -/
def State.validHalf (s : State) (h : HalfPeriod) (u : Int) : State :=
  let i := { s.insulation with invalid := 0, quiet := false }.store h.positive u
  match i.delta with
  | none => (s.withInsulation i).beginHalf (!h.positive)
  | some d =>
      let t := i.testResult d
      let s1 := (s.withInsulation t.1).beginHalf (!h.positive)
      if t.2 then s1.validResult h.stretch d else s1

/-- The half-period in progress ends with a sample (R152). The AFE delivers U within its range
(08, the measuring circuit; DEDUCED for an operand beyond it, log entry 21). -/
def State.endHalf (s : State) (u : Int) : State :=
  match s.insulation.half with
  | some h =>
      if h.isInvalid then s.invalidHalf h else s.validHalf h (clampInt (-20000) 20000 u)
  | none => s

/-! ## CHECK INSULATION (R164) -/

/-- CHECK INSULATION at its take (R164). -/
def State.takeCheck (s : State) (slot : SlotNo) : State :=
  match s.insulation.state with
  | .idle => s.finish slot ⟨.ended, endHvDown, s.insulation.checkNoResult⟩
  | .warmup | .measuring =>
      (s.setSlotState slot .running).withInsulation { s.insulation with check := some ⟨slot, 0⟩ }

/-! ## SET INSULATION (R166, R167) -/

/-- The settings lie in their ranges and the fault level is below the warn level (R166). -/
def InsSettings.valid (g : InsSettings) : Bool :=
  decide (100 ≤ g.rM) && decide (g.rM ≤ 2000)
    && decide (5000 ≤ g.uInj) && decide (g.uInj ≤ 15000)
    && decide (100 ≤ g.warn) && decide (g.warn ≤ 2000)
    && decide (50 ≤ g.fault) && decide (g.fault ≤ 1000)
    && decide (1 ≤ g.k) && decide (g.k ≤ 8)
    && decide (10 ≤ g.window) && decide (g.window ≤ 60)
    && decide (g.fault < g.warn)

/-- The new settings restart WARMUP (R167). -/
def Insulation.restarts (i : Insulation) (g : InsSettings) : Bool :=
  i.state != .idle && (g.rM != i.settings.rM || g.uInj != i.settings.uInj)

/-- The effect of an accepted SET INSULATION (R167). Where it restarts WARMUP and also ends
freshness, the spec gives no order; the half-period begins first, and so sees the drives fall
(DESIGN CHOICE, log entry 31). -/
def State.applyInsulation (s : State) (g : InsSettings) : State :=
  let s1 := s.withInsulation { s.insulation with settings := g }
  let s2 := if s.insulation.restarts g then s1.enterWarmup else s1
  let now := s2.insulation.freshNow
  (s2.withInsulation { s2.insulation with fresh := now }).failGateIf s.insulation.fresh now

/-- SET INSULATION at its take (R166, R167). -/
def State.takeSetInsulation (s : State) (rM uInj warn fault : Half) (k window : Byte) :
    Ending × State :=
  let g : InsSettings :=
    ⟨rM.toNat, uInj.toNat, warn.toNat, fault.toNat, k.toNat, window.toNat⟩
  if !g.valid then (refusal .badParameter, s)
  else
    let s1 := s.applyInsulation g
    (⟨.ok, noteNone,
      beBytes 2 g.rM ++ beBytes 2 g.uInj ++ beBytes 2 g.warn ++ beBytes 2 g.fault ++ [k, window]
        ++ beBytes 1 s1.insulation.state.code ++ [flagByte (s.insulation.restarts g)]⟩, s1)

/-! ## Events that free no block -/

/-- PKON_ASSERTED (R150): WARMUP from IDLE, and the pack gate holds again. A level that is already
asserted is no edge. -/
def execPkonAsserted (s : State) : Result State :=
  .next (if s.pins.pkon then s else (s.withPins { s.pins with pkon := true }).enterWarmup)

/-- A standing freshness whose age has reached 10 × the window, so that the next tenth of a second
passes it (R162). -/
def Insulation.atWindow (i : Insulation) : Bool :=
  match i.last with
  | some l => i.fresh && decide (10 * i.settings.window ≤ l.age)
  | none => false

/-- The age passes the window (R162). -/
def LastResult.expire (l : LastResult) (window : Nat) : LastResult :=
  { l with age := max l.age (10 * window + 1) }

/-- FRESHNESS_EXPIRY (R162): the age passes the window, the standing freshness ends and the
insulation gate fails. At a lower age no expiry occurs (DESIGN CHOICE, log entry 2). -/
def execFreshnessExpiry (s : State) : Result State :=
  .next (if s.insulation.atWindow then
      (s.withInsulation { s.insulation with
        fresh := false
        last := s.insulation.last.map fun l => l.expire s.insulation.settings.window }).failGate
    else s)

end Sys2Proof.Machine
end

