-- ==== Sys2Proof/Machine/Metering.lean ====
section
/-!
DEFINITION. The metering unit (03_metering): the four stages of a metering frame, the
readings it publishes and the frame report it hands over. The current wait that the published
inlet current may end is the relay sequencer's (R174).
-/

namespace Sys2Proof.Machine

/-! ## What the AFE delivers (R45, R46) -/

/-- A raw energy beyond the converter's limit is delivered as that limit with OVERRANGE (R45;
DEDUCED for an operand beyond the range, log entry 21). -/
def delivered (c : RawChannel) : RawChannel :=
  ⟨clampInt (-Config.rawLimit) Config.rawLimit c.energy,
   c.overrange || decide (c.energy ≠ clampInt (-Config.rawLimit) Config.rawLimit c.energy)⟩

/-- The frame's inlet voltage: the lowest phase above 500 dV, 0 without one (R46). -/
def inletVoltage (phases : List Phase) : Nat :=
  (((phases.map (·.voltage)).filter fun v => decide (500 < v)).min?).getD 0

/-- The frame's inlet current: the highest phase (R46). -/
def inletCurrent (phases : List Phase) : Nat := ((phases.map (·.current)).max?).getD 0

/-- The readings of a frame, each within its range (R46), with the inlet power (R46). -/
def frameReadings (f : Frame) (eIn : Nat) : Readings where
  inletVoltage := min 3000 (inletVoltage f.phases)
  inletCurrent := min 800 (inletCurrent f.phases)
  packVoltage := (clampInt 0 9000 f.packVoltage).toNat
  packCurrent := clampInt (-10000) 10000 f.packCurrent
  inletPower := eIn / 100

/-! ## Stage 1 (R48, R49) -/

/-- The fixed-point energy of a channel (R48). -/
def Channel.fix (c : Channel) (raw : Int) : Int := raw * c.gain + c.offset * 65536 + c.residue

/-- The calibrated energy in mJ: a floor (R48). -/
def Channel.energy (c : Channel) (raw : Int) : Int := c.fix raw / 65536

/-- The channel with its new residue (R48). -/
def Channel.step (c : Channel) (raw : Int) : Channel :=
  { c with residue := (c.fix raw % 65536).toNat }

/-- Stage 1's outcome for a counted inlet: its energy, its channel, and whether the limit of R49
raised OVERRANGE. -/
structure InletStage where
  energy : Int
  channel : Channel
  limited : Bool
  deriving DecidableEq, Repr

/-- Stage 1 for a counted INLET channel, with the limit of R49. -/
def inletStage (c : Channel) (raw : Int) : InletStage :=
  if (Config.inletLimit : Int) < c.energy raw then
    ⟨Config.inletLimit, { c with residue := 0 }, true⟩
  else ⟨c.energy raw, c.step raw, false⟩

/-! ## Stage 2 (R51, R52) -/

/-- The reverse register after a counted energy (R51). -/
def reverseAfter (reg : Nat) (e : Int) : Nat :=
  if e < 0 then min Config.reverseLimit (reg + e.natAbs) else reg

/-! ## Stage 3 (R53, R54) -/

/-- The floors of R53. -/
def floorShares (eIn : Nat) (w : PerCat Nat) : PerCat Nat :=
  w.map fun d => eIn * d / w.total

/-- The remainder goes to the first largest weight in the order BATTERY, HEATING, AUX (R53). -/
def addRemainder (w a : PerCat Nat) (r : Nat) : PerCat Nat :=
  if w.heating ≤ w.battery ∧ w.aux ≤ w.battery then { a with battery := a.battery + r }
  else if w.aux ≤ w.heating then { a with heating := a.heating + r }
  else { a with aux := a.aux + r }

/-- The three shares of a counted inlet energy (R53, R54). -/
def apportion (eIn : Nat) (w : PerCat Nat) : PerCat Nat :=
  if w.total = 0 then ⟨0, 0, eIn⟩
  else addRemainder w (floorShares eIn w) (eIn - (floorShares eIn w).total)

/-! ## Stage 4 (R55, R56) -/

/-- Wh carries of an accumulator that reaches `m` mJ (R55). -/
def carriesOf (m : Nat) : Nat := m / Config.mJPerWh

/-- What remains in an accumulator after its carries (R55). -/
def restOf (m : Nat) : Nat := m % Config.mJPerWh

/-- A register that takes its carries modulo 2^32 (R55). -/
def addWh (reg : Word) (n : Nat) : Word := reg + BitVec.ofNat 32 n

/-- Stage 4: the shares and E_in added, and the carries taken (R55, R56). -/
def Metering.stage4 (m : Metering) (shares : PerCat Nat) (eIn : Nat) : Metering :=
  let sums := PerCat.zip (· + ·) m.acc shares
  { m with
    acc := sums.map restOf
    wh := PerCat.zip addWh m.wh (sums.map carriesOf)
    accM := restOf (m.accM + eIn)
    mWh := addWh m.mWh (carriesOf (m.accM + eIn)) }

/-! ## A frame (R44, R50, R57) -/

/-- The three DC channels after stage 1, in every frame (R48, R50). -/
def Metering.stepDC (m : Metering) (f : Frame) : Metering :=
  { m with
    pack := m.pack.step (delivered f.pack).energy
    heater := m.heater.step (delivered f.heater).energy
    auxc := m.auxc.step (delivered f.aux).energy }

/-- The weights of a frame, from the channels as they stood before it (R52). -/
def Metering.weights (m : Metering) (f : Frame) : PerCat Nat :=
  ⟨(m.pack.energy (delivered f.pack).energy).toNat, (m.heater.energy (delivered f.heater).energy).toNat,
   (m.auxc.energy (delivered f.aux).energy).toNat⟩

/-- Any channel carried OVERRANGE as the AFE delivered the frame (R45). -/
def frameOverrange (f : Frame) : Bool :=
  (delivered f.inlet).overrange || (delivered f.pack).overrange || (delivered f.heater).overrange
    || (delivered f.aux).overrange

/-- Any channel is UNCALIBRATED (R59). -/
def Metering.anyUncalibrated (m : Metering) : Bool :=
  m.inlet.uncalibrated || m.pack.uncalibrated || m.heater.uncalibrated || m.auxc.uncalibrated

/-- A frame whose inlet energy counts: stages 1 to 4 and its report (R44, R50 to R57). -/
def Metering.counted (m : Metering) (f : Frame) : Metering × FrameReport :=
  let st := inletStage m.inlet (delivered f.inlet).energy
  let eIn := st.energy.toNat
  let m1 := { m.stepDC f with inlet := st.channel, reverse := reverseAfter m.reverse st.energy }
  let shares := apportion eIn (m.weights f)
  let m2 := m1.stage4 shares eIn
  (m2,
   { counted := true
     eIn := eIn
     carries := (PerCat.zip (· + ·) m.acc shares).map carriesOf
     meterCarries := carriesOf (m.accM + eIn)
     mWh := m2.mWh
     reverse := decide (st.energy < 0)
     overrange := frameOverrange f || st.limited
     uncalibrated := m.anyUncalibrated })

/-- A frame whose inlet energy is discarded: the DC residues move, and the report is marked (R50,
R57). -/
def Metering.discarded (m : Metering) (f : Frame) : Metering × FrameReport :=
  (m.stepDC f,
   { counted := false
     eIn := 0
     carries := PerCat.same 0
     meterCarries := 0
     mWh := m.mWh
     reverse := false
     overrange := false
     uncalibrated := false })

/-- A whole frame: it counts when INFB showed closed at any time in it; the readings are published
and the report handed over, and the next frame's gate begins from the level of INFB (R44, R46,
R50, R57). -/
def Metering.frame (m : Metering) (infb : Bool) (f : Frame) : Metering :=
  let r := if m.closedSeen then m.counted f else m.discarded f
  { r.1 with
    readings := frameReadings f r.2.eIn
    closedSeen := infb
    reports := m.reports ++ [r.2] }

/-- The current wait ends at the first published frame with an inlet current below 5 dA (R174). -/
def State.endCurrentWait (s : State) : State :=
  if s.relay.state = .currentWait ∧ s.metering.readings.inletCurrent < 5 then
    s.enterRelease s.relay.skips
  else s

/-- METERING_FRAME (R44): the frame, then the supply-low filter (R110) and the current wait (R174)
on its published readings. -/
def execMeteringFrame (frame : Frame) (s : State) : Result State :=
  let s1 := s.withMetering (s.metering.frame s.pins.infb frame)
  .next (s1.takeVoltage s1.metering.readings.inletVoltage).endCurrentWait

end Sys2Proof.Machine
end

