-- ==== Sys2Proof/Machine/Orders.lean ====
section
/-!
DEFINITION. The order engine (02_orders): taking an order (R30, R31, R33), draining a queue
(R32), WITHDRAW (R38), routing (R28, R29), the judgement of notices (R24 to R27), and the
sixteen orders as commands.
-/

namespace Sys2Proof.Machine

/-! ## Taking an order (R30, R31, R33) -/

/-- The end of an immediate order: its effect, then its result (R30, R35). -/
def State.answer (n : SlotNo) (r : Ending × State) : State := r.2.finish n r.1

/-- An order of a slot taken by its block (R30, R31, R33). WITHDRAW is taken by
`State.takeWithdraw`; it never waits, because nothing occupies the general block. -/
def State.takeOwned (s : State) (n : SlotNo) : Order → State
  | .withdraw _ => s
  | .clearTrip => State.answer n s.takeClearTrip
  | .setClock t => State.answer n (s.takeSetClock t)
  | .loadTariff offset count => State.answer n (s.takeLoadTariff offset count)
  | .openSession id b h a => State.answer n (s.takeOpenSession id b h a)
  | .closeSession id => s.takeCloseSession n id
  | .calibrateMeter ch g q => State.answer n (s.takeCalibrate ch g q)
  | .setJournalLevels h r => State.answer n (s.takeJournalLevels h r)
  | .setGrant g f p => State.answer n (s.takeSetGrant g f p)
  | .charge m v e => s.takeCharge n m v e
  | .setPowerStage eta m u r h => State.answer n (s.takeSetPowerStage eta m u r h)
  | .heat t b h p src pol md => s.takeHeat n t b h p src pol md
  | .loadAcceptance offset count => State.answer n (s.takeLoadAcceptance offset count)
  | .setSensors mask cap limit => State.answer n (s.takeSetSensors mask cap limit)
  | .checkInsulation => s.takeCheck n
  | .setInsulation r u w f k win => State.answer n (s.takeSetInsulation r u w f k win)
  | .unknown _ => s.finish n (refusal .unknownOrder)

/-! ## Queues (R29, R32) -/

/-- A timed order attached to its slot occupies the billing block (R31, R42). -/
def Billing.occupied (b : Billing) : Bool :=
  match b.close with
  | some ⟨some _, _⟩ => true
  | _ => false

/-- A block has a timed order RUNNING (R29). -/
def State.occupied (s : State) : Block → Bool
  | .billing => s.billing.occupied
  | .insulation => s.insulation.check.isSome
  | .general => false
  | .power => false
  | .heating => false

/-- The head of a queue is removed and its order taken (R32). -/
def State.takeHead (s : State) (b : Block) (n : SlotNo) (rest : List SlotNo) : State :=
  match (s.slot n).posted with
  | some p => (s.setQueue b rest).takeOwned n p.order
  | none => s.setQueue b rest

/-- The queue drained, at most `fuel` orders, until it is empty or the block is occupied (R32). -/
def State.drainUpTo (b : Block) : Nat → State → State
  | 0, s => s
  | fuel + 1, s =>
      match s.queue b with
      | [] => s
      | n :: rest =>
          if s.occupied b then s else State.drainUpTo b fuel (s.takeHead b n rest)

/-- The queue drained (R32). No take lengthens a queue, so its length is enough. -/
def State.drain (s : State) (b : Block) : State := State.drainUpTo b (s.queue b).length s

/-- The billing queue drained when an attached CLOSE SESSION has just ended (R32). -/
def State.afterClose (s : State) (before : Billing) : State :=
  if before.occupied && !s.billing.occupied then s.drain .billing else s

/-- The insulation queue drained when a CHECK INSULATION has just ended (R32, R165). -/
def State.afterCheck (s : State) (before : Insulation) : State :=
  if before.check.isSome && s.insulation.check.isNone then s.drain .insulation else s

/-! ## WITHDRAW (R38) -/

/-- The result of a withdrawn order: WITHDRAWN, byte 33 by R36, result fields 00h (R38). -/
def withdrawnEnding (note : Byte) : Ending := ⟨.withdrawn, note, []⟩

/-- The result of a running CHARGE or HEAT that a WITHDRAW ends: the result fields of its chapter
(R127, R146) or 00h (R38), which the spec leaves in conflict (DESIGN CHOICE, log entry 11). -/
def withdrawnStanding (code : Byte) (clamped : Bool) (fields : List Byte) : Ending :=
  ⟨.withdrawn, clampedNote clamped, if Config.withdrawnShows code then fields else []⟩

/-- A waiting order removed from its block's queue, the others keeping their order (R38). -/
def State.unqueue (s : State) (n : SlotNo) (o : Order) : State :=
  match orderBlock o with
  | some b => s.setQueue b ((s.queue b).filter fun k => k != n)
  | none => s

/-- A running CHARGE withdrawn (R38, R127). -/
def State.withdrawCharge (s : State) (n : SlotNo) : State :=
  match s.power.charge with
  | some c => s.dropCharge.finish n (withdrawnStanding 0x21 c.clamped (c.fields s.power.iDem))
  | none => s

/-- A running HEAT withdrawn, with PLAN_EVENT after its result (R38, R145, R146). -/
def State.withdrawHeat (s : State) (n : SlotNo) : State :=
  match s.heating.plan with
  | some p =>
      (s.dropPlan.finish n
        (withdrawnStanding 0x30 p.clamped (p.fields s.heating.tMin))).raise .planEvent
  | none => s

/-- A running CHECK INSULATION abandoned: its result is written and the queue drains (R38). -/
def State.withdrawCheck (s : State) : State :=
  (s.endCheck (withdrawnEnding noteNone)).afterCheck s.insulation

/-- What a WITHDRAW does to a RUNNING target, and its own outcome (R38). -/
def State.withdrawRunning (s : State) (n : SlotNo) : Order → OrderOutcome × State
  | .charge _ _ _ => (.ok, s.withdrawCharge n)
  | .heat _ _ _ _ _ _ _ => (.ok, s.withdrawHeat n)
  | .checkInsulation => (.ok, s.withdrawCheck)
  | .withdraw _ | .clearTrip | .setClock _ | .loadTariff _ _ | .openSession _ _ _ _
  | .closeSession _ | .calibrateMeter _ _ _ | .setJournalLevels _ _ | .setGrant _ _ _
  | .setPowerStage _ _ _ _ _ | .loadAcceptance _ _ | .setSensors _ _ _
  | .setInsulation _ _ _ _ _ _ | .unknown _ => (.notWithdrawable, s)

/-- What a WITHDRAW does to its target, by the target's state, and its own outcome (R38). -/
def State.withdrawTarget (s : State) (t : SlotNo) : OrderOutcome × State :=
  match (s.slot t).state, (s.slot t).posted with
  | .waiting, some p => (.ok, (s.unqueue t p.order).finish t (withdrawnEnding noteNone))
  | .running, some p => s.withdrawRunning t p.order
  | _, _ => (.notNow, s)

/-- The order code a slot's order was copied with. -/
def Slot.code (r : Slot) : Byte :=
  match r.posted with
  | some p => orderCode p.order
  | none => 0

/-- The code a WITHDRAW reports: 00h for NOT_NOW (R38). -/
def reportedCode (o : OrderOutcome) (code : Byte) : Byte := if o = .notNow then 0 else code

/-- WITHDRAW at its take: the target's result first, then its own (R38). A number above 15 names no
slot, and its state byte reads 00h (DEDUCED, log entry 13). The state byte value found is the code
of the state the order engine holds, also where a host write to byte 0 that is not judged yet stands
in memory (DESIGN CHOICE, log entry 27). -/
def State.takeWithdraw (s : State) (own : SlotNo) (target : Byte) : State :=
  if h : target.toNat < 16 then
    let t : SlotNo := ⟨target.toNat, h⟩
    if t = own then
      s.finish own ⟨.badParameter, noteNone, [target, 0, (s.slot t).state.code]⟩
    else
      let r := s.withdrawTarget t
      r.2.finish own
        ⟨r.1, noteNone, [target, reportedCode r.1 (s.slot t).code, (s.slot t).state.code]⟩
  else s.finish own ⟨.badParameter, noteNone, [target, 0, 0]⟩

/-! ## Routing and posting (R25 to R29) -/

/-- An order taken by its block, or by the order engine itself (R28, R30). -/
def State.takeOrder (s : State) (n : SlotNo) (o : Order) : State :=
  match o with
  | .withdraw target => s.takeWithdraw n target
  | _ => s.takeOwned n o

/-- An order appended to its block's queue, its slot WAITING (R29). -/
def State.enqueue (s : State) (b : Block) (n : SlotNo) : State :=
  (s.setQueue b (s.queue b ++ [n])).setSlotState n .waiting

/-- An order routed by its code (R28, R29). -/
def State.routeOrder (s : State) (n : SlotNo) (o : Order) : State :=
  match orderBlock o with
  | none => s.finish n (refusal .unknownOrder)
  | some b => if s.occupied b || !(s.queue b).isEmpty then s.enqueue b n else s.takeOrder n o

/-- The slot of an accepted post: result bytes 00h, the copy kept, POSTED in byte 0 (R25). -/
def State.copyPost (s : State) (n : SlotNo) (p : Posted) : State :=
  ((s.pokeAll (slotAddr n + 32) (List.replicate 32 0)).setSlot n ⟨.posted, some p⟩).poke
    (slotAddr n) SlotState.posted.code

/-- An accepted post (R25). -/
def State.acceptPost (s : State) (n : SlotNo) (p : Posted) : State :=
  (s.copyPost n p).routeOrder n p.order

/-- An accepted free (R26). -/
def State.acceptFree (s : State) (n : SlotNo) : State :=
  (s.setSlot n Slot.reset).poke (slotAddr n) SlotState.free.code

/-- A held write: byte 0 restored and WRITE_REFUSED reported (R27). -/
def State.holdWrite (s : State) (n : SlotNo) : State :=
  (s.poke (slotAddr n) (s.slot n).state.code).raise .writeRefused

/-- The order a slot's bytes 1 to 31 spell as they stand in memory (R25). -/
def Memory.order (m : Memory) (n : SlotNo) : Posted where
  tag := half (m.read (slotAddr n + 2)) (m.read (slotAddr n + 3))
  order := decodeOrder (m.read (slotAddr n + 1)) (m.readAll (slotAddr n + 4) 28)

/-- One notice judged (R24). -/
def State.judge (s : State) (n : SlotNo) (value : Byte) : State :=
  match (s.slot n).state with
  | .free => if value = 0x01 then s.acceptPost n (s.mem.order n) else s.holdWrite n
  | .done => if value = 0x00 then s.acceptFree n else s.holdWrite n
  | .posted => s.holdWrite n
  | .waiting => s.holdWrite n
  | .running => s.holdWrite n

/-- The oldest notice taken whole (R24); without one nothing happens. -/
def State.takeNotice (s : State) : State :=
  match s.orders.notices with
  | (n, value) :: rest => (s.withOrders { s.orders with notices := rest }).judge n value
  | [] => s

/-- SLOT_STATE_NOTICE (R24). -/
def execSlotStateNotice (s : State) : Result State := .next s.takeNotice

/-! ## The orders as commands

Each is the post of the order in a slot, judged by R24: accepted where the slot is FREE, with
the operands as the copied order, and held otherwise (DESIGN CHOICE, log entry 4). -/

/-- A post of an order in a slot. -/
def State.post (s : State) (n : SlotNo) (tag : Half) (o : Order) : State :=
  if (s.slot n).state = .free then s.acceptPost n ⟨tag, o⟩ else s.holdWrite n

/-- WITHDRAW (R38). -/
def execWithdraw (n : SlotNo) (tag : Half) (target : Byte) (s : State) : Result State :=
  .next (s.post n tag (.withdraw target))

/-- CLEAR_TRIP (R40). -/
def execClearTrip (n : SlotNo) (tag : Half) (s : State) : Result State :=
  .next (s.post n tag .clearTrip)

/-- SET_CLOCK (R65). -/
def execSetClock (n : SlotNo) (tag : Half) (t : Word) (s : State) : Result State :=
  .next (s.post n tag (.setClock t))

/-- LOAD_TARIFF (R68). -/
def execLoadTariff (n : SlotNo) (tag : Half) (offset : Half) (count : Byte) (s : State) :
    Result State :=
  .next (s.post n tag (.loadTariff offset count))

/-- OPEN_SESSION (R81). -/
def execOpenSession (n : SlotNo) (tag : Half) (id battery heating aux : Word) (s : State) :
    Result State :=
  .next (s.post n tag (.openSession id battery heating aux))

/-- CLOSE_SESSION (R86). -/
def execCloseSession (n : SlotNo) (tag : Half) (id : Word) (s : State) : Result State :=
  .next (s.post n tag (.closeSession id))

/-- CALIBRATE_METER (R61). -/
def execCalibrateMeter (n : SlotNo) (tag : Half) (channel : Byte) (gain : Word) (offset : Half)
    (s : State) : Result State :=
  .next (s.post n tag (.calibrateMeter channel gain offset))

/-- SET_JOURNAL_LEVELS (R100). -/
def execSetJournalLevels (n : SlotNo) (tag : Half) (halt resume : Byte) (s : State) :
    Result State :=
  .next (s.post n tag (.setJournalLevels halt resume))

/-- SET_GRANT (R105). -/
def execSetGrant (n : SlotNo) (tag : Half) (grant fallback : Half) (period : Byte) (s : State) :
    Result State :=
  .next (s.post n tag (.setGrant grant fallback period))

/-- CHARGE (R122). -/
def execCharge (n : SlotNo) (tag : Half) (maxCurrent vLim endCurrent : Half) (s : State) :
    Result State :=
  .next (s.post n tag (.charge maxCurrent vLim endCurrent))

/-- SET_POWER_STAGE (R121). -/
def execSetPowerStage (n : SlotNo) (tag : Half) (eta stageMax : Half) (sUp : Byte)
    (rH heaterMax : Half) (s : State) : Result State :=
  .next (s.post n tag (.setPowerStage eta stageMax sUp rH heaterMax))

/-- HEAT (R140). -/
def execHeat (n : SlotNo) (tag : Half) (target band hysteresis pMax : Half)
    (source policy mode : Byte) (s : State) : Result State :=
  .next (s.post n tag (.heat target band hysteresis pMax source policy mode))

/-- LOAD_ACCEPTANCE (R137). -/
def execLoadAcceptance (n : SlotNo) (tag : Half) (offset : Half) (count : Byte) (s : State) :
    Result State :=
  .next (s.post n tag (.loadAcceptance offset count))

/-- SET_SENSORS (R133). -/
def execSetSensors (n : SlotNo) (tag : Half) (mask : Byte) (packCap plateLimit : Half)
    (s : State) : Result State :=
  .next (s.post n tag (.setSensors mask packCap plateLimit))

/-- CHECK_INSULATION (R164). -/
def execCheckInsulation (n : SlotNo) (tag : Half) (s : State) : Result State :=
  .next (s.post n tag .checkInsulation)

/-- SET_INSULATION (R167). -/
def execSetInsulation (n : SlotNo) (tag : Half) (rM uInj warn fault : Half) (k window : Byte)
    (s : State) : Result State :=
  .next (s.post n tag (.setInsulation rM uInj warn fault k window))

/-! ## The continuation of CLOSE SESSION (R87, R88) -/

/-- CLOSE_SESSION_END_CLOSE (R87): steps 3 and 4, once step 2 is passed and the held record is
empty. -/
def execCloseSessionEndClose (s : State) : Result State :=
  .next (s.continueClose.afterClose s.billing)

/-- CLOSE_SESSION_COMPLETE (R88): step 5, once both records are in the journal, and the drain of
the billing queue. -/
def execCloseSessionComplete (s : State) : Result State :=
  .next (s.completeClose.afterClose s.billing)

end Sys2Proof.Machine
end

