-- ==== Sys2Proof/Machine/Monitor.lean ====
section
/-!
DEFINITION. The events of the insulation monitor that may free its block and drain its queue:
the end of a half-period (R152), PKON negated (R149) and the time limit of CHECK INSULATION
(R165).
-/

namespace Sys2Proof.Machine

/-- HALF_PERIOD_END (R152); without a half-period in progress nothing ends. -/
def execHalfPeriodEnd (u : Int) (s : State) : Result State :=
  .next ((s.endHalf u).afterCheck s.insulation)

/-- PKON negated: the pack gate fails and the monitor enters IDLE (R111, R112, R149). -/
def State.pkonDrops (s : State) : State :=
  (s.withPins { s.pins with pkon := false }).failGate.enterIdle.afterCheck s.insulation

/-- PKON_NEGATED (R149); a level that is already negated is no edge. -/
def execPkonNegated (s : State) : Result State :=
  .next (if s.pins.pkon then s.pkonDrops else s)

/-- A running check has run for 60 s (R164, R165). -/
def Insulation.checkDue (i : Insulation) : Bool :=
  match i.check with
  | some c => decide (600 ≤ c.timer)
  | none => false

/-- A running check ends TIMED_OUT, and the queue drains (R165). -/
def State.timeoutCheck (s : State) : State :=
  (s.endCheck ⟨.timedOut, noteNone, s.insulation.checkNoResult⟩).afterCheck s.insulation

/-- CHECK_INSULATION_TIMEOUT (R165): a running check ends at 60 s. Below them, or without a check,
the time limit does not come (DESIGN CHOICE, log entry 2). -/
def execCheckInsulationTimeout (s : State) : Result State :=
  .next (if s.insulation.checkDue then s.timeoutCheck else s)

end Sys2Proof.Machine
end

