-- ==== Sys2Proof/Machine/Link.lean ====
section
/-!
DEFINITION. The link port (01): framing (R3, R4), the four targets (R5 to R9, R16 to R18),
the watched fields (R10 to R12), and the link reset (R19, R41, R42).
-/

namespace Sys2Proof.Machine

/-! ## Framing (R3, R4) -/

/-- Whole bytes that have followed the start byte of a transaction of this direction and target;
none where the transaction cannot be of that kind. In an opened transaction the data command
stands for its accepted start byte as well (DESIGN CHOICE, log entry 5). -/
def Link.entered (l : Link) (d : Dir) (t : Target) : Option Nat :=
  match l.phase with
  | .opened => some 0
  | .transfer d' t' n => if d' = d ∧ t' = t then some n else none
  | .idle => none
  | .ignored => none

/-- A transaction begins: the refused flag is clear and nothing of an earlier one is left (R3). -/
def Link.start (l : Link) : Link :=
  { l with
    phase := .opened
    heldByte := none
    refused := false
    slotWrites := []
    resetRequested := false
    readLatch := []
    delivered := [] }

/-- TRANSACTION_START (R3); KSEL already asserted is no start (DEDUCED, log entry 7). -/
def execTransactionStart (s : State) : Result State :=
  .next (if s.link.phase = .idle then s.withLink s.link.start else s)

/-- The phase after a start byte (R4). -/
def phaseAfterStart (b : Byte) : LinkPhase :=
  match decodeStart b with
  | none => .ignored
  | some (d, t) => .transfer d t 0

/-- START_BYTE_REJECTED (R4): the rest of the transaction is ignored. A byte that does carry the
pattern is accepted instead (DEDUCED, log entry 7). -/
def execStartByteRejected (start : Byte) (s : State) : Result State :=
  .next (if s.link.phase = .opened then
      s.withLink { s.link with phase := phaseAfterStart start }
    else s)

/-- The end-of-transaction events: slot-state notices in ascending slot order, and a requested
link reset due (R3, R10, R19). A held POINTER byte is discarded (R6). -/
def State.endTransaction (s : State) : State :=
  (s.withOrders { s.orders with notices := s.orders.notices ++ s.link.slotWrites }).withLink
    { s.link with
      phase := .idle
      heldByte := none
      slotWrites := []
      resetRequested := false
      resetDue := s.link.resetDue || s.link.resetRequested }

/-- TRANSACTION_END (R3); KSEL already negated ends nothing (DEDUCED, log entry 7). -/
def execTransactionEnd (s : State) : Result State :=
  .next (if s.link.phase = .idle then s else s.endTransaction)

/-! ## POINTER (R6) -/

/-- One data byte of a POINTER write, the `n`th after the start byte (R6). -/
def Link.pointerByte (l : Link) (n : Nat) (b : Byte) : Link :=
  let p := match n, l.heldByte with
    | 0, _ => { l with heldByte := some b }
    | 1, some hi => { l with heldByte := none, pointer := (half hi b).setWidth 14 }
    | _, _ => l
  { p with phase := .transfer .write .pointer (n + 1) }

/-- The data bytes of a POINTER write from the `n`th on. -/
def Link.pointerBytes : Link → Nat → List Byte → Link
  | l, n, [] => { l with phase := .transfer .write .pointer n }
  | l, n, b :: bs => Link.pointerBytes (l.pointerByte n b) (n + 1) bs

/-- POINTER_WRITE (R6). -/
def execPointerWrite (data : List Byte) (s : State) : Result State :=
  .next (match s.link.entered .write .pointer with
    | some n => s.withLink (s.link.pointerBytes n data)
    | none => s)

/-! ## Reads (R5, R7, R9, R16, R18) -/

/-- Deliver one byte of a read, the `n`th after the start byte. -/
def Link.deliver (l : Link) (t : Target) (n : Nat) (b : Byte) : Link :=
  { l with delivered := l.delivered ++ [b], phase := .transfer .read t (n + 1) }

/-- One byte of a POINTER, CAUSE or CONTROL read: both data bytes are loaded as the turnaround byte
begins, and bytes after them read FFh (R5, R7). -/
def Link.pairByte (l : Link) (t : Target) (n : Nat) (pair : List Byte) : Link :=
  match n with
  | 0 => { l with readLatch := pair }.deliver t 0 0xFF
  | k + 1 => l.deliver t (k + 1) (l.readLatch.getD k 0xFF)

/-- `clocked` bytes of a POINTER, CAUSE or CONTROL read from the `n`th on. -/
def Link.pairRead (t : Target) (pair : List Byte) : Link → Nat → Nat → Link
  | l, n, 0 => { l with phase := .transfer .read t n }
  | l, n, k + 1 => Link.pairRead t pair (l.pairByte t n pair) (n + 1) k

/-- The pointer as two bytes, bits 15 and 14 reading 0 (R7). -/
def Link.pointerPair (l : Link) : List Byte := beBytes 2 l.pointer.toNat

/-- The top cause and the pending bitmap (R16). -/
def Attention.causePair (a : Attention) : List Byte := [a.top, a.bitmap]

/-- The mask and the mode byte, which reads 00h (R18). -/
def Attention.controlPair (a : Attention) : List Byte := [a.mask, 0]

/-- A two-byte read carried out (R5). -/
def State.readPair (s : State) (t : Target) (pair : List Byte) (clocked : Nat) : State :=
  match s.link.entered .read t with
  | some n => s.withLink (Link.pairRead t pair s.link n clocked)
  | none => s

/-- POINTER_READ (R7). -/
def execPointerRead (clocked : Nat) (s : State) : Result State :=
  .next (s.readPair .pointer s.link.pointerPair clocked)

/-- CAUSE_READ (R16). -/
def execCauseRead (clocked : Nat) (s : State) : Result State :=
  .next (s.readPair .cause s.attn.causePair clocked)

/-- CONTROL_READ (R18). -/
def execControlRead (clocked : Nat) (s : State) : Result State :=
  .next (s.readPair .control s.attn.controlPair clocked)

/-- One byte of a WINDOW read: two turnaround bytes, then memory. The latch loads a data byte as
the byte before it begins to leave, and the pointer advances for each data byte delivered
(R5, R9). -/
def Link.windowByte (m : Memory) (l : Link) (n : Nat) : Link :=
  match n with
  | 0 => l.deliver .window 0 0xFF
  | 1 => { l with readLatch := [m.read l.pointer.toNat] }.deliver .window 1 0xFF
  | k + 2 =>
      { l with
        readLatch := [m.read (l.pointer + 1).toNat]
        pointer := l.pointer + 1 }.deliver .window (k + 2) (l.readLatch.getD 0 0xFF)

/-- `clocked` bytes of a WINDOW read from the `n`th on. -/
def Link.windowBytes (m : Memory) : Link → Nat → Nat → Link
  | l, n, 0 => { l with phase := .transfer .read .window n }
  | l, n, k + 1 => Link.windowBytes m (Link.windowByte m l n) (n + 1) k

/-- WINDOW_READ (R9). -/
def execWindowRead (clocked : Nat) (s : State) : Result State :=
  .next (match s.link.entered .read .window with
    | some n => s.withLink (Link.windowBytes s.mem s.link n clocked)
    | none => s)

/-! ## WINDOW writes and watched fields (R8, R10 to R12) -/

/-- The slot whose byte 0 stands at an address (R10). -/
def slotAt (a : Nat) : Option SlotNo :=
  if Config.slotBase ≤ a ∧ a < Config.copyA ∧ (a - Config.slotBase) % Config.slotSize = 0 then
    some (Fin.ofNat 16 ((a - Config.slotBase) / Config.slotSize))
  else none

/-- A state-byte write recorded, ascending by slot, the last value of a slot kept (R10). -/
def recordWrite (n : SlotNo) (b : Byte) : List (SlotNo × Byte) → List (SlotNo × Byte)
  | [] => [(n, b)]
  | (k, v) :: rest =>
      if n < k then (n, b) :: (k, v) :: rest
      else if n = k then (n, b) :: rest
      else (k, v) :: recordWrite n b rest

/-- A slot's state byte recorded for a notice (R10). -/
def State.recordState (s : State) (n : SlotNo) (b : Byte) : State :=
  s.withLink { s.link with slotWrites := recordWrite n b s.link.slotWrites }

/-- A byte stored at a host-writable address that is no read-mark and no renewal byte (R8, R10,
R13). -/
def State.storeByte (s : State) (a : Nat) (b : Byte) : State :=
  match slotAt a with
  | some n => (s.poke a b).recordState n b
  | none => s.poke a b

/-- A byte aimed at a part-owned address is dropped; the first of a transaction reports
WRITE_REFUSED (R8). -/
def State.dropByte (s : State) : State :=
  if s.link.refused then s
  else (s.withLink { s.link with refused := true }).raise .writeRefused

/-- The high-byte latch loaded (R11). -/
def State.loadLatch (s : State) (b : Byte) : State := s.withLink { s.link with latch := b }

/-- The upper byte of Rd as it stands (R11). -/
def Billing.rdHigh (b : Billing) : Byte := b.rd.extractLsb' 8 8

/-- A write to 0007h: the mark from latch and byte, then the latch reloaded (R11, R95). -/
def State.markLow (s : State) (b : Byte) : State :=
  let s1 := s.takeMark (half s.link.latch b)
  s1.loadLatch s1.billing.rdHigh

/-- What a WINDOW data byte does at the address the pointer holds (R8, R10 to R13). -/
def State.windowEffect (s : State) (a : Nat) (b : Byte) : State :=
  if a = Config.hdrRd then s.loadLatch b
  else if a = Config.hdrRd + 1 then s.markLow b
  else if a = Config.hdrRenewal then (s.poke a b).renew
  else if hostWritable a then s.storeByte a b
  else s.dropByte

/-- The pointer advances and the byte counts as received (R8). -/
def State.advance (s : State) (n : Nat) : State :=
  s.withLink { s.link with
    pointer := s.link.pointer + 1
    phase := .transfer .write .window (n + 1) }

/-- One data byte of a WINDOW write (R8). The pointer's address says which of the five rows it is
(DESIGN CHOICE, log entry 5). -/
def State.windowByte (s : State) (b : Byte) : State :=
  match s.link.entered .write .window with
  | some n => (s.windowEffect s.link.pointer.toNat b).advance n
  | none => s

/-- WINDOW_WRITE (R8). -/
def execWindowWrite (value : Byte) (s : State) : Result State := .next (s.windowByte value)

/-- SLOT_STATE_WRITE (R10). -/
def execSlotStateWrite (value : Byte) (s : State) : Result State := .next (s.windowByte value)

/-- READ_MARK_HIGH_BYTE_WRITE (R11). -/
def execReadMarkHighByteWrite (value : Byte) (s : State) : Result State :=
  .next (s.windowByte value)

/-- READ_MARK_LOW_BYTE_WRITE (R11, R95). -/
def execReadMarkLowByteWrite (value : Byte) (s : State) : Result State :=
  .next (s.windowByte value)

/-- GRANT_RENEWAL (R12, R107). -/
def execGrantRenewal (value : Byte) (s : State) : Result State := .next (s.windowByte value)

/-! ## CAUSE and CONTROL writes (R17, R18) -/

/-- One cause code acknowledged: only a pending edge cause leaves the set (R17). -/
def State.acknowledge (s : State) (code : Byte) : State :=
  match causeOfCode code.toNat with
  | some c => if c.isLevel then s else s.clear c
  | none => s

/-- The link port with `n` bytes of a write received. -/
def State.received (s : State) (t : Target) (n : Nat) : State :=
  s.withLink { s.link with phase := .transfer .write t n }

/-- CAUSE_ACKNOWLEDGE (R17). -/
def execCauseAcknowledge (code : Byte) (s : State) : Result State :=
  .next (match s.link.entered .write .cause with
    | some n => (s.acknowledge code).received .cause (n + 1)
    | none => s)

/-- MASK_WRITE (R18): the first data byte of a CONTROL write. -/
def execMaskWrite (mask : Byte) (s : State) : Result State :=
  .next (match s.link.entered .write .control with
    | some 0 => (s.withAttn { s.attn with mask := mask }).received .control 1
    | some _ => s
    | none => s)

/-- LINK_RESET_REQUEST (R18): the mode byte, the second data byte of a CONTROL write. -/
def execLinkResetRequest (mode : Byte) (s : State) : Result State :=
  .next (match s.link.entered .write .control with
    | some 1 =>
        s.withLink { s.link with
          resetRequested := mode.getLsbD 0
          phase := .transfer .write .control 2 }
    | some _ => s
    | none => s)

/-! ## Link reset (R19, R41, R42) -/

/-- Notices of transactions that ended before are taken first (R41). -/
def State.takeNotices : Nat → State → State
  | 0, s => s
  | n + 1, s => State.takeNotices n s.takeNotice

/-- The link port's part (R19). -/
def Link.afterReset (l : Link) (rdHigh : Byte) : Link :=
  { l with
    pointer := 0
    latch := rdHigh
    refused := false
    resetDue := false }

/-- The attention unit's part: edge causes leave, level causes are re-evaluated from their owners,
the mask is kept (R19). -/
def State.causesAfterReset (s : State) : Attention where
  trip := !s.trips.set.isEmpty
  journalHalt := s.billing.hold
  insulationWarn := s.insulation.condition.warns
  grantDue := false
  orderDone := false
  journalNew := false
  planEvent := false
  writeRefused := false
  mask := s.attn.mask

/-- One slot freed: byte 0 and the result bytes 00h (R41). -/
def State.clearSlot (s : State) (n : SlotNo) : State :=
  ((s.setSlot n Slot.reset).poke (slotAddr n) SlotState.free.code).pokeAll (slotAddr n + 32)
    (List.replicate 32 0)

/-- A running CLOSE SESSION detached from its slot (R42). -/
def Billing.detach (b : Billing) : Billing :=
  { b with close := b.close.map fun c => { c with slot := none } }

/-- The order engine's part: queues emptied, CHARGE, HEAT and CHECK INSULATION ended with no
result, CLOSE SESSION detached, every slot freed (R41, R42). -/
def State.resetOrders (s : State) : State :=
  let s1 := s.withOrders { s.orders with queues := Queues.reset }
  let s2 := s1.dropCharge.dropPlan
  let s3 := (s2.withInsulation { s2.insulation with check := none }).withBilling s2.billing.detach
  (List.finRange 16).foldl State.clearSlot s3

/-- The power manager's part: with a session open the keepalive starts from zero (R108). I_dem, the
duty and the relay need stay until the next control period, also where the effective grant is
re-formed to 0 (R117, R129). R112 has a failing grant gate act at once and R129 does not; the
model follows R129 (DESIGN CHOICE, log entry 25). -/
def State.resetKeepalive (s : State) : State :=
  if s.billing.session.isSome then s.withPower { s.power with keepalive := .alive 0 false } else s

/-- A link reset carried out. R187 names ATTN among the pins a link reset does not disturb, and R19
has ATTN follow the causes that remain. The model follows R19, so ATTN is negated where only edge
causes asserted it (DESIGN CHOICE, log entry 30). -/
def State.linkReset (s : State) : State :=
  let s1 := State.takeNotices s.orders.notices.length s
  let s2 := s1.withLink (s1.link.afterReset s1.billing.rdHigh)
  let s3 := s2.resetOrders.resetKeepalive
  s3.withAttn s3.causesAfterReset

/-- LINK_RESET (R19): performed once a transaction that requested it has ended. The row acts when
a reset is due, and outstanding notices are taken first (DEDUCED, log entry 8). -/
def execLinkReset (s : State) : Result State :=
  .next (if s.link.resetDue then s.linkReset else s)

end Sys2Proof.Machine
end

