-- ==== Sys2Proof/Machine/Status.lean ====
section
/-!
DEFINITION. The live status copies (R21, R22): the fields of the body in the layout of
11_formats, and the order in which a copy is written.
-/

namespace Sys2Proof.Machine

/-- Running Wh of the session: its totals plus the open interval's (R79). -/
def Billing.runningWh (b : Billing) (ses : Session) : PerCat Nat :=
  match b.interval with
  | some i => PerCat.zip (· + ·) ses.wh i.wh
  | none => ses.wh

/-- Running cost: the totals plus what the open interval would report if it closed now (R79). -/
def Billing.runningCost (b : Billing) (ses : Session) : PerCat Nat :=
  match b.interval with
  | some i => PerCat.zip (· + ·) ses.cost (PerCat.zip reportedCost i.cost ses.carries)
  | none => ses.cost

/-- Seconds remaining to expiry: 0 unless ALIVE (R106). -/
def Power.secondsLeft (p : Power) : Nat :=
  match p.keepalive with
  | .alive count _ => ceilDiv (10 * p.period - count) 10
  | .stopped => 0
  | .expired => 0

/-- Bytes 4 to 8: part time and the clock-set flag. -/
def Billing.statusTime (b : Billing) : List Byte := beBytes 4 b.partTime.toNat ++ [flagByte b.clockSet]

/-- Bytes 9 to 20: the metering unit's readings. -/
def Readings.status (r : Readings) : List Byte :=
  beBytes 2 r.inletVoltage ++ beBytes 2 r.inletCurrent ++ beBytes 4 r.inletPower
    ++ beBytes 2 r.packVoltage ++ beInt 2 r.packCurrent

/-- Bytes 21 to 34: the values of the last control period (R113), the effective grant among them
(DESIGN CHOICE, log entry 15). -/
def PeriodValues.status (v : PeriodValues) : List Byte :=
  beBytes 2 v.duty ++ beBytes 2 v.heaterPower ++ beBytes 2 v.grant ++ beBytes 2 v.heaterIn
    ++ beBytes 2 v.chargeIn ++ beBytes 2 v.iTgt ++ beBytes 2 v.iDem

/-- Byte 37: the CHARGE state, 0 with none running. -/
def Power.chargeByte (p : Power) : List Byte :=
  beBytes 1 (match p.charge with
    | some c => c.state.code
    | none => 0)

/-- Byte 38: the plan state, 0 with none running (R143). For a plan taken while a guard stands, R140
has the copy show WARMING until its first scan and R143 GUARDED while the guard stands; the model
shows GUARDED (DESIGN CHOICE, log entry 26). -/
def Heating.planByte (h : Heating) : List Byte :=
  beBytes 1 (match h.plan with
    | some p => (h.planState p).code
    | none => 0)

/-- Bytes 39 to 56: temperatures, sensor states, the guards and the acceptance current. R131 has the
reading of an excluded pack channel appear in the copy, and the layout (R185) has a pack channel's
state and no field for its reading; the model follows the layout (DESIGN CHOICE, log entry 29). -/
def Heating.status (h : Heating) : List Byte :=
  tempBytes h.tMin ++ tempBytes h.tMax ++ tempBytes h.plate.reading
    ++ h.pack.toList.flatMap (fun c => beBytes 1 c.code) ++ beBytes 1 h.plate.code
    ++ beBytes 1 (bitIf h.sensorLoss 0 + bitIf h.packGuard 1 + bitIf h.plateGuard 2
        + bitIf h.plateSensorGuard 3)
    ++ beBytes 2 h.acceptance

/-- Bytes 57 to 62: condition, and the last valid result with its age in whole seconds (R162). -/
def Insulation.status (i : Insulation) : List Byte :=
  beBytes 1 i.condition.code
    ++ match i.last with
      | some l => [flagByte true] ++ beBytes 2 l.rIso ++ beBytes 2 (l.age / 10)
      | none => padTo 5 []

/-- Bytes 63 to 68: the trip set and the first trip (R177). -/
def Trips.status (t : Trips) : List Byte :=
  [t.set.byte]
    ++ match t.first with
      | some f => beBytes 1 f.kind.code ++ beBytes 4 f.time.toNat
      | none => padTo 5 []

/-- Bytes 69 and 70: the journal fill, the hold and the held record. -/
def Billing.statusJournal (b : Billing) : List Byte :=
  beBytes 1 b.fill ++ beBytes 1 (bitIf b.hold 0 + bitIf b.held.isSome 1)

/-- Bytes 73 to 101: the session summary, zero with no session open (R79). -/
def Billing.statusSession (b : Billing) : List Byte :=
  match b.session with
  | some ses =>
      beBytes 2 ses.number ++ catBytes 4 (b.runningWh ses) ++ catBytes 5 (b.runningCost ses)
  | none => padTo 29 []

/-- One history entry: ten bytes (R163). -/
def HistoryEntry.status (e : HistoryEntry) : List Byte :=
  beBytes 4 e.time.toNat ++ beBytes 2 e.rIso ++ beBytes 1 e.stretch ++ beBytes 2 e.voltage
    ++ beBytes 1 e.verdict.code

/-- The body of a live copy, bytes 4 to 251 (11_formats); the ring and what follows it are padded
with 00h. -/
def State.statusBody (s : State) : List Byte :=
  padTo 248 (s.billing.statusTime ++ s.metering.readings.status ++ s.power.last.status
    ++ [s.gates.byte] ++ beBytes 1 s.relay.state.code ++ s.power.chargeByte ++ s.heating.planByte
    ++ s.heating.status ++ s.insulation.status ++ s.trips.status ++ s.billing.statusJournal
    ++ beBytes 1 s.power.keepalive.code ++ beBytes 1 s.power.secondsLeft
    ++ s.billing.statusSession ++ s.insulation.history.flatMap HistoryEntry.status)

/-- The sequence number after `n`: after FFFFFFFFh it continues at 1 (R22). -/
def nextStatusSeq (n : Word) : Word := if n + 1 = 0 then 1 else n + 1

/-- The copy header byte 000Ah does not name: its address and the index that names it (R21). -/
def nextCopy (fresh : Byte) : Nat × Byte :=
  if fresh = 0 then (Config.copyB, 1) else (Config.copyA, 0)

/-- One copy written in R22's order, and 000Ah set to name it. The step is whole, so no read comes
between the writes (DESIGN CHOICE, log entry 10). -/
def State.writeCopy (s : State) (base : Nat) (index : Byte) (seq : Word) : State :=
  ((((s.pokeAll (base + 252) (beBytes 4 seq.toNat)).pokeAll (base + 4) s.statusBody).pokeAll base
    (beBytes 4 seq.toNat)).poke Config.hdrFresh index).withStatusSeq seq

/-- STATUS_PERIOD (R21, R22). -/
def execStatusPeriod (s : State) : Result State :=
  let c := nextCopy (s.mem.read Config.hdrFresh)
  .next (s.writeCopy c.1 c.2 (nextStatusSeq s.statusSeq))

end Sys2Proof.Machine
end

