-- ==== Sys2Proof/Machine/Reset.lean ====
section
/-!
DEFINITION. The power-on reset as an event (R20, R43, R62, R104, R129, R147, R148, R168,
R169, R181): every block takes its power-on state, and the input levels as the reset ends
decide what begins at once.
-/

namespace Sys2Proof.Machine

/-- The power-on state with the input levels seen: the frame in progress counts where INFB shows
closed (DEDUCED, log entry 6), and an INFB that shows closed starts the uncommanded-closure
timer (R176). -/
def State.powerOnPins (s : State) (levels : Pins) : State :=
  ((s.withPins levels).withMetering { s.metering with closedSeen := levels.infb }).setRelay
    .opened (if levels.infb then some 0 else none) false

/-- WARMUP at once where PKON is asserted as the reset ends (R148). -/
def State.powerOnMonitor (s : State) : State := if s.pins.pkon then s.enterWarmup else s

/-- The power-on reset: State.reset with the queue of commands kept (log entry 1), the levels, the
monitor, and MODULE latched where PMFLT is asserted (R181). -/
def State.powerOn (s : State) (levels : Pins) : State :=
  (((State.reset.withPending s.pending).powerOnPins levels).powerOnMonitor).tripIf levels.pmflt
    .module

/-- POWER_ON_RESET (R20). -/
def execPowerOnReset (levels : Pins) (s : State) : Result State := .next (s.powerOn levels)

end Sys2Proof.Machine
end

