-- ==== Sys2Proof/Machine/Tick.lean ====
section
/-!
DEFINITION. The part's 100 ms timebase: what the running counts and timers do when no command
waits (DESIGN CHOICE, log entry 2). The events that a count brings about are commands of
their own (the timer and expiry rows of the table); a tick only counts.
-/

namespace Sys2Proof.Machine

/-- The keepalive counts while ALIVE, up to its period (R106). -/
def Keepalive.tick (period : Nat) : Keepalive → Keepalive
  | .alive count half => .alive (min (10 * period) (count + 1)) half
  | .stopped => .stopped
  | .expired => .expired

/-- Seconds and tenths of a running time after a tick (R122, R140). -/
def tickTenths (seconds tenths : Nat) : Nat × Nat :=
  if 9 ≤ tenths then (seconds + 1, 0) else (seconds, tenths + 1)

/-- A running CHARGE's running time (R122). -/
def Charge.tick (c : Charge) : Charge :=
  { c with
    seconds := (tickTenths c.seconds c.tenths).1
    tenths := (tickTenths c.seconds c.tenths).2 }

/-- A running plan's running time (R140). -/
def Plan.tick (p : Plan) : Plan :=
  { p with
    seconds := (tickTenths p.seconds p.tenths).1
    tenths := (tickTenths p.seconds p.tenths).2 }

/-- The power manager's counts (R106, R122). -/
def Power.tick (p : Power) : Power :=
  { p with
    keepalive := p.keepalive.tick p.period
    charge := p.charge.map Charge.tick }

/-- The heating controller's count (R140). -/
def Heating.tick (h : Heating) : Heating := { h with plan := h.plan.map Plan.tick }

/-- The half-period in progress grows older, up to its length (R151). -/
def HalfPeriod.tick (h : HalfPeriod) : HalfPeriod :=
  { h with elapsed := min (10 * 2 ^ h.stretch) (h.elapsed + 1) }

/-- The last valid result grows older, up to a limit (R162). -/
def LastResult.tick (limit : Nat) (l : LastResult) : LastResult :=
  { l with age := if l.age < limit then l.age + 1 else l.age }

/-- Where the age of the last valid result stops: at 10 × the window while the result is fresh,
because FRESHNESS_EXPIRY carries it past (DESIGN CHOICE, log entry 2), else at the age limit
(R162). -/
def Insulation.ageStop (i : Insulation) : Nat :=
  if i.fresh then 10 * i.settings.window else Config.ageLimit

/-- The timer of a running check, up to 60 s (R164, R165). -/
def Check.tick (c : Check) : Check := { c with timer := min 600 (c.timer + 1) }

/-- The insulation monitor's counts (R151, R162, R164). -/
def Insulation.tick (i : Insulation) : Insulation :=
  { i with
    half := i.half.map HalfPeriod.tick
    last := i.last.map (LastResult.tick i.ageStop)
    check := i.check.map Check.tick }

/-- A running relay timer, up to the longest of them, 10 s (R172). -/
def Relay.tick (r : Relay) : Relay := { r with timer := r.timer.map fun t => min 100 (t + 1) }

/-- The tenths of the second in progress of part time (R63). -/
def Billing.tick (b : Billing) : Billing := { b with secondPhase := min 10 (b.secondPhase + 1) }

/-- One tick of 100 ms. -/
def State.tick (s : State) : State :=
  ((((s.withBilling s.billing.tick).withPower s.power.tick).withHeating
    s.heating.tick).withInsulation s.insulation.tick).withRelay s.relay.tick

end Sys2Proof.Machine
end

