-- ==== Sys2Proof/Machine/Outputs.lean ====
section
/-!
DEFINITION. The output pins as the state drives them (R3, R15, R117, R120, R169, R187 and the
pin list of 11_formats). No output holds anything the state does not; timing within a
cycle is left out (DESIGN CHOICE, log entry 17).
-/

namespace Sys2Proof.Machine

/-- ATTN asserted (R15). -/
def State.attnPin (s : State) : Bool := s.attn.attn

/-- KSDO driven: in a read transaction from its start byte to its end (R3). -/
def State.ksdoDriven (s : State) : Bool :=
  match s.link.phase with
  | .transfer .read _ _ => true
  | .transfer .write _ _ => false
  | .idle => false
  | .opened => false
  | .ignored => false

/-- INRLY asserted (R169). -/
def State.inrlyPin (s : State) : Bool := s.relay.state.inrly

/-- PMEN asserted: while I_dem is above 0 (R117, R128). -/
def State.pmenPin (s : State) : Bool := decide (0 < s.power.iDem)

/-- DMD in mV: 5 mV per dA (R187). -/
def State.dmdMillivolts (s : State) : Nat := 5 * s.power.iDem

/-- HTR: microseconds high in each 1 ms cycle, the duty in ‰ (R187). -/
def State.htrHighMicros (s : State) : Nat := s.power.duty

/-- The three levels of INJ (R187). -/
inductive InjLevel where
  | high
  | low
  | rest
  deriving DecidableEq, Repr

/-- INJ: high in a positive half-period, low in a negative one, at rest without one (R187). -/
def State.injPin (s : State) : InjLevel :=
  match s.insulation.half with
  | some h => if h.positive then .high else .low
  | none => .rest

end Sys2Proof.Machine
end

