-- ==== Sys2Proof/Machine/Dispatch.lean ====
section
/-! DEFINITION. The dispatch: one arm per command, each one direct call of its meaning. -/

namespace Sys2Proof.Machine

def exec (i : Instr) (s : State) : Host.Outcome State Fault Refusal :=
  match i with
  | .powerOnReset levels => Sys2Proof.Machine.execPowerOnReset levels s
  | .startByteRejected start => Sys2Proof.Machine.execStartByteRejected start s
  | .pointerWrite data => Sys2Proof.Machine.execPointerWrite data s
  | .pointerRead clocked => Sys2Proof.Machine.execPointerRead clocked s
  | .windowWrite value => Sys2Proof.Machine.execWindowWrite value s
  | .windowRead clocked => Sys2Proof.Machine.execWindowRead clocked s
  | .slotStateWrite value => Sys2Proof.Machine.execSlotStateWrite value s
  | .readMarkHighByteWrite value => Sys2Proof.Machine.execReadMarkHighByteWrite value s
  | .readMarkLowByteWrite value => Sys2Proof.Machine.execReadMarkLowByteWrite value s
  | .grantRenewal value => Sys2Proof.Machine.execGrantRenewal value s
  | .causeRead clocked => Sys2Proof.Machine.execCauseRead clocked s
  | .causeAcknowledge code => Sys2Proof.Machine.execCauseAcknowledge code s
  | .controlRead clocked => Sys2Proof.Machine.execControlRead clocked s
  | .maskWrite mask => Sys2Proof.Machine.execMaskWrite mask s
  | .linkResetRequest mode => Sys2Proof.Machine.execLinkResetRequest mode s
  | .transactionEnd => Sys2Proof.Machine.execTransactionEnd s
  | .linkReset => Sys2Proof.Machine.execLinkReset s
  | .slotStateNotice => Sys2Proof.Machine.execSlotStateNotice s
  | .withdraw slot tag target => Sys2Proof.Machine.execWithdraw slot tag target s
  | .clearTrip slot tag => Sys2Proof.Machine.execClearTrip slot tag s
  | .setClock slot tag newTime => Sys2Proof.Machine.execSetClock slot tag newTime s
  | .loadTariff slot tag offset count => Sys2Proof.Machine.execLoadTariff slot tag offset count s
  | .openSession slot tag id battery heating aux => Sys2Proof.Machine.execOpenSession slot tag id battery heating aux s
  | .closeSession slot tag id => Sys2Proof.Machine.execCloseSession slot tag id s
  | .closeSessionEndClose => Sys2Proof.Machine.execCloseSessionEndClose s
  | .closeSessionComplete => Sys2Proof.Machine.execCloseSessionComplete s
  | .calibrateMeter slot tag channel gain offset => Sys2Proof.Machine.execCalibrateMeter slot tag channel gain offset s
  | .setJournalLevels slot tag halt resume => Sys2Proof.Machine.execSetJournalLevels slot tag halt resume s
  | .setGrant slot tag grant fallback period => Sys2Proof.Machine.execSetGrant slot tag grant fallback period s
  | .charge slot tag maxCurrent vLim endCurrent => Sys2Proof.Machine.execCharge slot tag maxCurrent vLim endCurrent s
  | .setPowerStage slot tag eta stageMax sUp rH heaterMax => Sys2Proof.Machine.execSetPowerStage slot tag eta stageMax sUp rH heaterMax s
  | .heat slot tag target band hysteresis pMax source policy mode => Sys2Proof.Machine.execHeat slot tag target band hysteresis pMax source policy mode s
  | .loadAcceptance slot tag offset count => Sys2Proof.Machine.execLoadAcceptance slot tag offset count s
  | .setSensors slot tag mask packCap plateLimit => Sys2Proof.Machine.execSetSensors slot tag mask packCap plateLimit s
  | .checkInsulation slot tag => Sys2Proof.Machine.execCheckInsulation slot tag s
  | .setInsulation slot tag rM uInj warn fault k window => Sys2Proof.Machine.execSetInsulation slot tag rM uInj warn fault k window s
  | .meteringFrame frame => Sys2Proof.Machine.execMeteringFrame frame s
  | .frameReport => Sys2Proof.Machine.execFrameReport s
  | .partTimeTick => Sys2Proof.Machine.execPartTimeTick s
  | .controlPeriod => Sys2Proof.Machine.execControlPeriod s
  | .keepaliveHalfPeriod => Sys2Proof.Machine.execKeepaliveHalfPeriod s
  | .keepaliveExpiry => Sys2Proof.Machine.execKeepaliveExpiry s
  | .temperatureScan scan => Sys2Proof.Machine.execTemperatureScan scan s
  | .pkonAsserted => Sys2Proof.Machine.execPkonAsserted s
  | .pkonNegated => Sys2Proof.Machine.execPkonNegated s
  | .halfPeriodEnd u => Sys2Proof.Machine.execHalfPeriodEnd u s
  | .freshnessExpiry => Sys2Proof.Machine.execFreshnessExpiry s
  | .checkInsulationTimeout => Sys2Proof.Machine.execCheckInsulationTimeout s
  | .statusPeriod => Sys2Proof.Machine.execStatusPeriod s
  | .pmfltAsserted => Sys2Proof.Machine.execPmfltAsserted s
  | .pmrdyNegated => Sys2Proof.Machine.execPmrdyNegated s
  | .pmrdyAsserted => Sys2Proof.Machine.execPmrdyAsserted s
  | .infbShowsClosed => Sys2Proof.Machine.execInfbShowsClosed s
  | .infbShowsOpen => Sys2Proof.Machine.execInfbShowsOpen s
  | .closeTimerExpiry => Sys2Proof.Machine.execCloseTimerExpiry s
  | .noNeedTimerExpiry => Sys2Proof.Machine.execNoNeedTimerExpiry s
  | .currentWaitTimeout => Sys2Proof.Machine.execCurrentWaitTimeout s
  | .releaseTimerExpiry => Sys2Proof.Machine.execReleaseTimerExpiry s
  | .uncommandedClosureExpiry => Sys2Proof.Machine.execUncommandedClosureExpiry s
  | .transactionStart => Sys2Proof.Machine.execTransactionStart s
  | .pmfltNegated => Sys2Proof.Machine.execPmfltNegated s

end Sys2Proof.Machine
end

