-- ==== Sys2Proof/Machine/Step.lean ====
section
/-!
DEFINITION. One step of the K46: the command at the front of the queue, or one 100 ms tick
when none waits.
-/

namespace Sys2Proof.Machine

/-- One step: the front command is run with the queue's rest; on an empty queue one tick of the
100 ms timebase passes (DESIGN CHOICE, log entry 2). -/
def step (s : State) : Result State :=
  match s.pending with
  | c :: rest => exec c (s.withPending rest)
  | [] => .next s.tick

/-- The command a word spells put at the front of the queue; the table gives no row any bits, so
no word spells one. -/
def State.withFetchWord (s : State) (nbits w : Nat) : State :=
  match decodeTableWord nbits w with
  | some c => s.withPending (c :: s.pending)
  | none => s

end Sys2Proof.Machine
end

