-- ==== Sys2Proof/Safety.lean ====
section
/-!
DEFINITION. The terms claims are stated in: which parts of State a command may change, what an
order's end leaves in its slot, and the invariants every step keeps.
-/

namespace Sys2Proof.Machine

/-! ## Frames -/

/-- The parts of State. -/
inductive Part where
  | mem
  | pins
  | link
  | attn
  | orders
  | metering
  | billing
  | power
  | heating
  | insulation
  | relay
  | trips
  | statusSeq
  | pending
  deriving DecidableEq, Repr

/-- One part is the same in two states. -/
def Part.same (s t : State) : Part → Prop
  | .mem => t.mem = s.mem
  | .pins => t.pins = s.pins
  | .link => t.link = s.link
  | .attn => t.attn = s.attn
  | .orders => t.orders = s.orders
  | .metering => t.metering = s.metering
  | .billing => t.billing = s.billing
  | .power => t.power = s.power
  | .heating => t.heating = s.heating
  | .insulation => t.insulation = s.insulation
  | .relay => t.relay = s.relay
  | .trips => t.trips = s.trips
  | .statusSeq => t.statusSeq = s.statusSeq
  | .pending => t.pending = s.pending

/-- Every part outside a list is the same in two states. -/
def SameBut (changed : List Part) (s t : State) : Prop :=
  ∀ p : Part, p ∉ changed → p.same s t

/-- Every byte of memory outside a set of addresses reads as before. -/
def ReadsSameBut (stored : Nat → Prop) (s t : State) : Prop :=
  ∀ a : Nat, ¬stored a → t.mem.read a = s.mem.read a

/-- The bytes the order engine writes into a slot: byte 0 and bytes 32 to 63 (R25, R35). -/
def engineBytes (n : SlotNo) (a : Nat) : Prop :=
  a = slotAddr n ∨ (slotAddr n + 32 ≤ a ∧ a < slotAddr n + 64)

/-- The header bytes a journal write changes: W and the two indicators (R2, R93). -/
def journalHeader (a : Nat) : Prop :=
  a = 0x0004 ∨ a = 0x0005 ∨ a = 0x000B ∨ a = 0x000C

/-- The bytes of the journal slot of a mark (R93). -/
def recordBytes (mark : Half) (a : Nat) : Prop :=
  Config.journalBase + 64 * (mark.toNat % 128) ≤ a
    ∧ a < Config.journalBase + 64 * (mark.toNat % 128) + 64

/-- Every other cause stands as before. -/
def OtherCauses (changed : List Cause) (s t : State) : Prop :=
  t.attn.mask = s.attn.mask ∧ ∀ c : Cause, c ∉ changed → t.attn.has c = s.attn.has c

/-- Every other slot's record and every queue and notice stand as before. -/
def OtherSlots (n : SlotNo) (s t : State) : Prop :=
  (∀ k : SlotNo, k ≠ n → t.slot k = s.slot k)
    ∧ t.orders.queues = s.orders.queues ∧ t.orders.notices = s.orders.notices

/-! ## The link port's data commands -/

/-- The commands that stand for data bytes inside a transaction (R5 to R12, R16 to R18). -/
def linkData : Instr → Bool
  | .pointerWrite _ | .pointerRead _ | .windowWrite _ | .windowRead _ | .slotStateWrite _
  | .readMarkHighByteWrite _ | .readMarkLowByteWrite _ | .grantRenewal _ | .causeRead _
  | .causeAcknowledge _ | .controlRead _ | .maskWrite _ | .linkResetRequest _ => true
  | _ => false

/-- The five rows of a WINDOW data byte: the pointer's address says which one it is (log entry 5). -/
def windowRow (v : Byte) (c : Instr) : Prop :=
  c = .windowWrite v ∨ c = .slotStateWrite v ∨ c = .readMarkHighByteWrite v
    ∨ c = .readMarkLowByteWrite v ∨ c = .grantRenewal v

/-- The link port after the `k`th data byte of a WINDOW write: the pointer advanced, from 3FFFh to
0000h (R8). -/
def Link.afterByte (l : Link) (k : Nat) : Link :=
  { l with pointer := l.pointer + 1, phase := .transfer .write .window (k + 1) }

/-! ## Posts and ends of orders -/

/-- The command that posts an order in a slot (the order table of 02_orders); none for an unknown
code. -/
def orderCommand (n : SlotNo) (tag : Half) : Order → Option Instr
  | .withdraw target => some (.withdraw n tag target)
  | .clearTrip => some (.clearTrip n tag)
  | .setClock t => some (.setClock n tag t)
  | .loadTariff offset count => some (.loadTariff n tag offset count)
  | .openSession id b h a => some (.openSession n tag id b h a)
  | .closeSession id => some (.closeSession n tag id)
  | .calibrateMeter ch g q => some (.calibrateMeter n tag ch g q)
  | .setJournalLevels h r => some (.setJournalLevels n tag h r)
  | .setGrant g f p => some (.setGrant n tag g f p)
  | .charge m v e => some (.charge n tag m v e)
  | .setPowerStage eta m u r h => some (.setPowerStage n tag eta m u r h)
  | .heat t b h p src pol md => some (.heat n tag t b h p src pol md)
  | .loadAcceptance offset count => some (.loadAcceptance n tag offset count)
  | .setSensors mask cap limit => some (.setSensors n tag mask cap limit)
  | .checkInsulation => some (.checkInsulation n tag)
  | .setInsulation r u w f k win => some (.setInsulation n tag r u w f k win)
  | .unknown _ => none

/-- A post of an order in a slot is accepted and its order taken at once: the slot is FREE, the
block is not occupied and its queue is empty (R24, R29). Memory has its canonical form. -/
abbrev TakesAtOnce (s : State) (n : SlotNo) (b : Block) : Prop :=
  (s.slot n).state = .free ∧ s.occupied b = false ∧ s.queue b = [] ∧ s.mem.wf = true

/-- The order of a slot has ended: the record DONE with its copy, 04h in byte 0, the 32 result
bytes, and ORDER_DONE pending (R35). -/
def Ended (t : State) (n : SlotNo) (p : Posted) (e : Ending) : Prop :=
  t.slot n = ⟨.done, some p⟩ ∧ t.mem.read (slotAddr n) = 0x04
    ∧ t.mem.readAll (slotAddr n + 32) 32 = resultBytes p.tag e ∧ t.attn.orderDone = true

/-- The order of a slot is RUNNING: the record with its copy, 03h in byte 0, and no result (R31,
R33). -/
def Runs (t : State) (n : SlotNo) (p : Posted) : Prop :=
  t.slot n = ⟨.running, some p⟩ ∧ t.mem.read (slotAddr n) = 0x03
    ∧ t.mem.readAll (slotAddr n + 32) 32 = List.replicate 32 0

/-- What the post of an order changes when it is taken at once: its own slot, ORDER_DONE, and the
parts named (R25, R35). -/
def OrderFrame (n : SlotNo) (changed : List Part) (s t : State) : Prop :=
  ReadsSameBut (engineBytes n) s t ∧ OtherSlots n s t ∧ OtherCauses [.orderDone] s t
    ∧ SameBut ([.mem, .orders, .attn] ++ changed) s t

/-- A post ends at once with a refusal: byte 33 and the result fields 00h, and no effect beyond its
slot (R30, R36, log entry 12). -/
def Refuses (c : Instr) (s : State) (n : SlotNo) (p : Posted) (o : OrderOutcome) : Prop :=
  ∃ t, exec c s = .next t ∧ Ended t n p (refusal o) ∧ OrderFrame n [] s t

/-- The journal takes `k` records without reaching a hold that does not stand, and the held record
is empty (R93, R98, R101). -/
abbrev Room (s : State) (k : Nat) : Prop :=
  s.billing.held = none ∧ s.billing.fill + k ≤ 128
    ∧ (s.billing.hold = true ∨ s.billing.fill + k < s.billing.halt)

/-- The journal slot of a mark holds a record's 64 bytes (R93). -/
def RecordAt (t : State) (mark : Half) (r : Record) : Prop :=
  t.mem.readAll (Config.journalBase + 64 * (mark.toNat % 128)) 64 = r.bytes

/-- A record is the held record, and the header says so (R101). -/
def Holds (t : State) (r : Record) : Prop :=
  t.billing.held = some r ∧ t.mem.read 0x000B = 0x01

/-- A post queue drained (R32): no order waits while its block is free, and every order of the block
that has left the queue has ended or runs. -/
def Drained (b : Block) (s t : State) : Prop :=
  (t.queue b = [] ∨ t.occupied b = true)
    ∧ ∀ k ∈ s.queue b, k ∉ t.queue b → ∀ p, (s.slot k).posted = some p →
        orderBlock p.order = some b → (t.slot k).state = .done ∨ (t.slot k).state = .running

/-- Only the drives change: I_dem, the duty, the relay need with its parts of the heater power, the
CHARGE's state, and the half-period that watches them. -/
def DrivesOnly (s t : State) : Prop :=
  t.power.grant = s.power.grant ∧ t.power.fallback = s.power.fallback
    ∧ t.power.period = s.power.period ∧ t.power.stage = s.power.stage
    ∧ t.power.supplyLow = s.power.supplyLow ∧ t.power.lastVLim = s.power.lastVLim
    ∧ t.insulation.condition = s.insulation.condition
    ∧ t.insulation.settings = s.insulation.settings ∧ t.insulation.last = s.insulation.last
    ∧ t.relay.state = s.relay.state

/-! ## Invariants -/

/-- The header shows the part code and revision, the marks, the levels and the two indicators as
the billing unit holds them (R2), in a memory of canonical form. -/
def HeaderShows (s : State) : Prop :=
  s.mem.wf = true
    ∧ s.mem.readAll 0x0000 4 = [0x4B, 0x34, 0x36, 0x01]
    ∧ s.mem.readAll 0x0004 2 = beBytes 2 s.billing.w.toNat
    ∧ s.mem.readAll 0x0006 2 = beBytes 2 s.billing.rd.toNat
    ∧ s.mem.read 0x0008 = BitVec.ofNat 8 s.billing.halt
    ∧ s.mem.read 0x0009 = BitVec.ofNat 8 s.billing.resume
    ∧ s.mem.read 0x000B = flagByte s.billing.held.isSome
    ∧ s.mem.read 0x000C = flagByte s.billing.flaggedUnread

/-- The level causes are pending exactly while their conditions hold (R14), the first-trip record
is present exactly while the trip set is not empty (R177), and INSULATION is latched whenever
the insulation condition is FAULT (R160). -/
def CausesShow (s : State) : Prop :=
  s.attn.trip = !s.trips.set.isEmpty
    ∧ s.attn.journalHalt = s.billing.hold
    ∧ s.attn.insulationWarn = s.insulation.condition.warns
    ∧ s.trips.first.isSome = !s.trips.set.isEmpty
    ∧ (s.insulation.condition = .fault → s.trips.set.insulation = true)

/-- A running CLOSE SESSION has not composed SESSION_CLOSE yet (R86, R87). -/
def Closing.early (c : Closing) : Bool :=
  match c.phase with
  | .awaitRelay => true
  | .awaitHeld => true
  | .awaitJournal _ => false

/-- Until SESSION_CLOSE is composed, a running CLOSE SESSION has its session open and closing
(R79, R86). -/
abbrev CloseHasSession (b : Billing) : Prop :=
  b.close.any Closing.early = true → b.sessionGate = false ∧ b.session.isSome = true

/-- The charger is asked for nothing unless every gate but the grant's holds and the relay is CLOSED
(R112), and the heater duty is 0 whenever a trip is latched, a heating guard stands or SENSOR_LOSS
stands (R120). The grant's gate stands apart, because I_dem outlasts a link reset that re-forms the
effective grant to 0 (R129, log entry 25). -/
def DrivesSafe (s : State) : Prop :=
  (0 < s.power.iDem → { s.gates with grant := true }.all = true ∧ s.relay.state = .closed)
    ∧ (0 < s.power.duty →
        s.trips.set.isEmpty = true ∧ s.heating.guarded = false ∧ s.heating.sensorLoss = false)
    ∧ CloseHasSession s.billing

/-- The kinds of order that run (R31, R33). -/
inductive Runner where
  | charge
  | heat
  | check
  | close
  deriving DecidableEq, Repr

/-- The kind an order runs as; none for an immediate order (the order table of 02_orders). -/
def orderRunner : Order → Option Runner
  | .charge _ _ _ => some .charge
  | .heat _ _ _ _ _ _ _ => some .heat
  | .checkInsulation => some .check
  | .closeSession _ => some .close
  | .withdraw _ | .clearTrip | .setClock _ | .loadTariff _ _ | .openSession _ _ _ _
  | .calibrateMeter _ _ _ | .setJournalLevels _ _ | .setGrant _ _ _ | .setPowerStage _ _ _ _ _
  | .loadAcceptance _ _ | .setSensors _ _ _ | .setInsulation _ _ _ _ _ _ | .unknown _ => none

/-- The slot whose order of a kind runs, as the block that runs it holds it; a detached CLOSE
SESSION has none (R29, R31, R33, R42). -/
def State.runningSlot (s : State) : Runner → Option SlotNo
  | .charge => s.power.charge.map (·.slot)
  | .heat => s.heating.plan.map (·.slot)
  | .check => s.insulation.check.map (·.slot)
  | .close => s.billing.close.bind (·.slot)

/-- A host write to a slot's state byte is still to be judged: its notice is outstanding, or its
transaction has not ended (R10, R24). -/
def State.unjudged (s : State) (n : SlotNo) : Prop :=
  n ∈ s.orders.notices.map (·.1) ∨ n ∈ s.link.slotWrites.map (·.1)

/-- The order engine's state (R23): the slots that wait are those in the post queues, each once and
in its own block's, and a queue waits only behind an occupied block (R29, R32). The slots that run
are those the blocks hold as running (R31, R33). A slot is FREE exactly while it holds no order,
and byte 0 shows its state unless a host write to it is still to be judged (R24 to R27). -/
def OrdersShow (s : State) : Prop :=
  s.mem.wf = true
    ∧ (s.link.phase = .idle → s.link.slotWrites = [])
    ∧ (∀ b : Block, (s.queue b).Nodup ∧ (s.queue b ≠ [] → s.occupied b = true)
        ∧ ∀ n ∈ s.queue b, (s.slot n).state = .waiting
            ∧ ∃ p, (s.slot n).posted = some p ∧ orderBlock p.order = some b)
    ∧ (∀ n : SlotNo, (s.slot n).state = .waiting → ∃ b : Block, n ∈ s.queue b)
    ∧ (∀ (w : Runner) (n : SlotNo), s.runningSlot w = some n ↔ (s.slot n).state = .running
        ∧ ∃ p, (s.slot n).posted = some p ∧ orderRunner p.order = some w)
    ∧ (∀ n : SlotNo, (s.slot n).state = .running → ∃ w : Runner, s.runningSlot w = some n)
    ∧ (∀ n : SlotNo, ((s.slot n).state = .free ↔ (s.slot n).posted = none)
        ∧ (s.slot n).state ≠ .posted)
    ∧ ∀ n : SlotNo, s.unjudged n ∨ s.mem.read (slotAddr n) = (s.slot n).state.code

/-- What the registers and accumulators of the categories hold, in mJ (R58). -/
def Metering.categorySide (m : Metering) : Nat :=
  (3600000 * m.wh.battery.toNat + m.acc.battery) + (3600000 * m.wh.heating.toNat + m.acc.heating)
    + (3600000 * m.wh.aux.toNat + m.acc.aux)

/-- What the meter register and accumulator hold, in mJ (R58). -/
def Metering.meterSide (m : Metering) : Nat := 3600000 * m.mWh.toNat + m.accM

/-- The conservation law of R58, modulo the wrap of the registers. -/
def Metering.conserved (m : Metering) : Prop :=
  m.meterSide % (3600000 * 2 ^ 32) = m.categorySide % (3600000 * 2 ^ 32)

/-- What the metering unit counts energy with: accumulators, registers and readings. -/
def Metering.counters (m : Metering) :
    PerCat Nat × Nat × PerCat Word × Word × Nat × Readings :=
  (m.acc, m.accM, m.wh, m.mWh, m.reverse, m.readings)

end Sys2Proof.Machine
end

