-- ==== Sys2Proof/Certificates/Slice0/Obligations.lean ====
section
/-!
DEFINITION. The statements for the provers: what the spec's rules say a command does, stated over
every state that meets hypotheses on the state and the operands alone.
-/

open Sys2Proof Sys2Proof.Machine

/-! ## The machine -/

/-- A step runs the command at the front of the queue on the state with the queue's rest. -/
def Obligations.StepRunsFrontCommand : Prop :=
  ∀ (c : Instr) (rest : List Instr) (s : State),
    step (s.withPending (c :: rest)) = exec c (s.withPending rest)

/-- Every command completes in every state, and none touches the queue of waiting commands.
The queue is the model's form, log entry 1. -/
def Obligations.EveryCommandCompletes : Prop :=
  ∀ (c : Instr) (s : State), ∃ t, exec c s = .next t ∧ t.pending = s.pending

/-- Every step keeps the canonical form of the exchange memory (R1). -/
def Obligations.MemoryStaysCanonical : Prop :=
  ∀ s t : State, s.mem.wf = true → step s = .next t → t.mem.wf = true

/-- Every step keeps the header showing the part code, the marks, the levels and the two
indicators as the billing unit holds them (R2, R95, R97, R100, R101). -/
def Obligations.HeaderStaysTrue : Prop :=
  ∀ s t : State, HeaderShows s → step s = .next t → HeaderShows t

/-- Every step keeps the level causes pending exactly while their conditions hold, the first-trip
record present exactly while a trip is latched, and INSULATION latched while the condition is
FAULT (R14, R160, R177, R182). -/
def Obligations.CausesStayTrue : Prop :=
  ∀ s t : State, CausesShow s → step s = .next t → CausesShow t

/-- Every step keeps I_dem 0 unless every supply gate but the grant's holds with the relay CLOSED, and
the duty 0 while a trip is latched, a guard stands or SENSOR_LOSS stands. Every step but a link reset
keeps I_dem 0 unless the grant's gate holds too (R112, R117, R120).
That I_dem outlasts a link reset which re-forms the effective grant to 0 is the model's, log entry
25. -/
def Obligations.DrivesStaySafe : Prop :=
  ∀ s t : State, DrivesSafe s → step s = .next t →
    DrivesSafe t
    ∧ (s.pending.head? ≠ some .linkReset → (0 < s.power.iDem → 0 < s.power.effGrant) →
      0 < t.power.iDem → 0 < t.power.effGrant)

/-- Every step keeps the conservation law of R58: what the three categories count equals what the
meter counts, modulo the wrap of the registers. -/
def Obligations.MeteringConserves : Prop :=
  ∀ s t : State, s.metering.conserved → step s = .next t → t.metering.conserved

/-- Every step keeps the order engine's state true: the post queues hold the slots that wait, each once
and only behind an occupied block, the blocks hold the slots that run, a slot is FREE exactly while
it holds no order, and byte 0 shows its state unless a host write to it is still to be judged (R23
to R33, R41, R42). -/
def Obligations.OrdersStayTrue : Prop :=
  ∀ s t : State, OrdersShow s → step s = .next t → OrdersShow t

/-- After a power-on reset with every input negated every invariant above holds, and no demand stands.
The pin levels are the model's choice, log entry 3. -/
def Obligations.ResetMeetsInvariants : Prop :=
  State.reset.mem.wf = true ∧ HeaderShows State.reset ∧ CausesShow State.reset
    ∧ DrivesSafe State.reset ∧ State.reset.power.iDem = 0 ∧ State.reset.metering.conserved
    ∧ OrdersShow State.reset

/-- Only a metering frame and a power-on reset move an accumulator, a lifetime register, the
reverse register or a reading (R51, R55, R56, R62). -/
def Obligations.MeterMovesOnlyByFrame : Prop :=
  ∀ (c : Instr) (s t : State), (∀ f, c ≠ .meteringFrame f) → (∀ l, c ≠ .powerOnReset l) →
    exec c s = .next t → t.metering.counters = s.metering.counters

/-- The parameter bytes of every order the order table names decode to that order (02_orders, 11_formats):
no bit of a parameter is dropped. -/
def Obligations.OrderEncodingRoundTrips : Prop :=
  ∀ o : Order, orderBlock o ≠ none →
    decodeOrder (orderCode o) (padTo 28 (orderParams o)) = o

/-! ## The link port -/

/-- TRANSACTION_START opens a transaction with nothing of an earlier one, and TRANSACTION_END hands
over the recorded slot-state notices and makes a requested link reset due (R3, R10, R18). KSEL
already at its level is no edge, and a start byte with the pattern is accepted (log entry 7). That a
requested reset only becomes due here, and is carried out by the row LINK_RESET, is log entry 8. -/
def Obligations.TransactionFrames : Prop :=
  ∀ s : State,
    (s.link.phase = .idle → exec .transactionStart s = .next (s.withLink { s.link with
        phase := .opened, heldByte := none, refused := false, slotWrites := [],
        resetRequested := false, readLatch := [], delivered := [] }))
    ∧ (s.link.phase ≠ .idle → exec .transactionStart s = .next s
        ∧ ∃ t, exec .transactionEnd s = .next t ∧ SameBut [.link, .orders] s t
          ∧ t.orders.slots = s.orders.slots ∧ t.orders.queues = s.orders.queues
          ∧ t.orders.notices = s.orders.notices ++ s.link.slotWrites
          ∧ t.link = { s.link with
              phase := .idle, heldByte := none, slotWrites := [], resetRequested := false,
              resetDue := s.link.resetDue || s.link.resetRequested })
    ∧ (s.link.phase = .idle → exec .transactionEnd s = .next s)
    ∧ ∀ (b : Byte) (d : Dir) (t : Target), s.link.phase = .opened → decodeStart b = some (d, t) →
        exec (.startByteRejected b) s = .next (s.withLink { s.link with phase := .transfer d t 0 })

/-- R4: the start byte's pattern, direction and target, and a rejected start byte, after which
the rest of the transaction does nothing until the next assertion of KSEL. -/
def Obligations.StartByteDecides : Prop :=
  (∀ b : Byte, decodeStart b =
      if b.extractLsb' 3 5 = 0b10110#5 then
        some (if b.getLsbD 2 = true then .read else .write,
          match b.toNat % 4 with
          | 0 => .pointer
          | 1 => .window
          | 2 => .cause
          | _ => .control)
      else none)
    ∧ [0xB0, 0xB1, 0xB2, 0xB3, 0xB4, 0xB5, 0xB6, 0xB7].map decodeStart =
        [some (.write, .pointer), some (.write, .window), some (.write, .cause),
         some (.write, .control), some (.read, .pointer), some (.read, .window),
         some (.read, .cause), some (.read, .control)]
    ∧ (∀ (s : State) (b : Byte), s.link.phase = .opened → decodeStart b = none →
        exec (.startByteRejected b) s = .next (s.withLink { s.link with phase := .ignored }))
    ∧ (∀ (s : State) (c : Instr), s.link.phase = .ignored → linkData c = true →
        exec c s = .next s)
    ∧ (∀ s : State, s.link.phase = .ignored → s.link.slotWrites = [] →
        s.link.resetRequested = false → s.link.heldByte = none →
        exec .transactionEnd s = .next (s.withLink { s.link with phase := .idle }))
    ∧ ∀ s : State, s.link.phase = .idle →
        ∃ t, exec .transactionStart s = .next t ∧ t.link.phase = .opened

/-- A POINTER write sets the pointer from two bytes, the first one held; bytes after the
second are ignored, a held byte is discarded at the end, and no memory or notice changes (R6).
That the row stands for its accepted start byte as well is the model's, log entry 5. -/
def Obligations.PointerWriteSetsPointer : Prop :=
  ∀ s : State,
    (s.link.entered .write .pointer = some 0 →
      (∀ (hi lo : Byte) (rest : List Byte), exec (.pointerWrite (hi :: lo :: rest)) s =
        .next (s.withLink { s.link with
          pointer := (half hi lo).setWidth 14, heldByte := none,
          phase := .transfer .write .pointer (rest.length + 2) }))
      ∧ (∀ hi : Byte, exec (.pointerWrite [hi]) s = .next (s.withLink { s.link with
          heldByte := some hi, phase := .transfer .write .pointer 1 }))
      ∧ exec (.pointerWrite []) s = .next (s.withLink { s.link with
          phase := .transfer .write .pointer 0 }))
    ∧ (∀ hi : Byte, s.link.phase = .transfer .write .pointer 1 → s.link.heldByte = some hi →
      (∀ (lo : Byte) (rest : List Byte), exec (.pointerWrite (lo :: rest)) s =
        .next (s.withLink { s.link with
          pointer := (half hi lo).setWidth 14, heldByte := none,
          phase := .transfer .write .pointer (rest.length + 2) }))
      ∧ ∃ t, exec .transactionEnd s = .next t ∧ t.link.pointer = s.link.pointer
          ∧ t.link.heldByte = none ∧ t.mem = s.mem)
    ∧ ∀ (n : Nat) (data : List Byte), s.link.phase = .transfer .write .pointer (n + 2) →
      exec (.pointerWrite data) s = .next (s.withLink { s.link with
        phase := .transfer .write .pointer (n + 2 + data.length) })

/-- A POINTER, CAUSE or CONTROL read delivers one turnaround byte FFh, its two bytes, and FFh after
them, and changes nothing but the link's own transfer (R5, R7, R16, R18).
The row form of a read is the model's, log entry 5. -/
def Obligations.TwoByteReadsDeliver : Prop :=
  ∀ (s : State) (n : Nat) (c : Instr) (target : Target) (first second : Byte),
    (c = .pointerRead n ∧ target = .pointer
        ∧ first = BitVec.ofNat 8 (s.link.pointer.toNat / 256)
        ∧ second = BitVec.ofNat 8 (s.link.pointer.toNat % 256))
      ∨ (c = .causeRead n ∧ target = .cause ∧ first = s.attn.top ∧ second = s.attn.bitmap)
      ∨ (c = .controlRead n ∧ target = .control ∧ first = s.attn.mask ∧ second = 0x00) →
    s.link.entered .read target = some 0 →
    ∃ t, exec c s = .next t ∧ SameBut [.link] s t
      ∧ t.link = { s.link with
          phase := .transfer .read target n
          readLatch := t.link.readLatch
          delivered := s.link.delivered
            ++ ([0xFF, first, second] ++ List.replicate n 0xFF).take n }

/-- What the two bytes of a CAUSE read and ATTN mean: the bitmap has bit n − 1 set for each pending
cause n, the top cause is the lowest code pending or 0, and ATTN is asserted exactly while a
pending cause is not masked (R15, R16). -/
def Obligations.CauseReadMeansPendingSet : Prop :=
  ∀ s : State,
    (∀ c : Cause, s.attn.bitmap.getLsbD (c.code - 1) = s.attn.has c)
    ∧ (∀ c : Cause, s.attn.top.toNat = c.code ↔
        s.attn.has c = true ∧ ∀ d : Cause, d.code < c.code → s.attn.has d = false)
    ∧ (s.attn.top = 0 ↔ ∀ c : Cause, s.attn.has c = false)
    ∧ (s.attnPin = true ↔
        ∃ c : Cause, s.attn.has c = true ∧ s.attn.mask.getLsbD (c.code - 1) = false)

/-- A WINDOW read delivers two turnaround bytes FFh and then the memory from the pointer onward,
wrapping from 3FFFh to 0000h, the pointer advancing once for each data byte (R5, R9).
The row form of a read is the model's, log entry 5. -/
def Obligations.WindowReadDelivers : Prop :=
  ∀ (s : State) (n : Nat), s.link.entered .read .window = some 0 →
    ∃ t, exec (.windowRead n) s = .next t ∧ SameBut [.link] s t
      ∧ t.link = { s.link with
          phase := .transfer .read .window n
          readLatch := t.link.readLatch
          pointer := s.link.pointer + BitVec.ofNat 14 (n - 2)
          delivered := s.link.delivered ++ ([0xFF, 0xFF] ++ (List.range (n - 2)).map
            fun i => s.mem.read ((s.link.pointer.toNat + i) % 16384)).take n }

/-- A WINDOW byte at a host-writable address that is no watched field is stored, the pointer
advances, and nothing else happens. At a part-owned address it is dropped, the pointer advances,
and the first of a transaction reports WRITE_REFUSED (R8, R13).
The row form of a data byte is the model's, log entry 5. -/
def Obligations.WindowStoresOrDrops : Prop :=
  ∀ (s : State) (v : Byte) (c : Instr) (k : Nat), windowRow v c →
    s.link.entered .write .window = some k → s.mem.wf = true →
    let a := s.link.pointer.toNat
    (hostWritable a = true → a ≠ 0x0006 → a ≠ 0x0007 → a ≠ 0x000D →
      (∀ n : SlotNo, a ≠ slotAddr n) →
      ∃ t, exec c s = .next t ∧ t.mem.read a = v ∧ ReadsSameBut (fun x => x = a) s t
        ∧ t.link = s.link.afterByte k ∧ SameBut [.mem, .link] s t)
    ∧ (hostWritable a = false →
      ∃ t, exec c s = .next t ∧ SameBut [.link, .attn] s t
        ∧ t.link = { s.link.afterByte k with refused := true }
        ∧ t.attn.writeRefused = (s.attn.writeRefused || !s.link.refused)
        ∧ OtherCauses [.writeRefused] s t)

/-- A WINDOW byte at a slot's state byte is stored and recorded for a notice, the last value of a
slot kept and the slots ascending (R10). -/
def Obligations.SlotStateWriteRecorded : Prop :=
  ∀ (s : State) (v : Byte) (c : Instr) (k : Nat) (n : SlotNo), windowRow v c →
    s.link.entered .write .window = some k → s.mem.wf = true →
    s.link.pointer.toNat = slotAddr n → s.link.slotWrites.Pairwise (fun x y => x.1 < y.1) →
    ∃ t, exec c s = .next t ∧ t.mem.read (slotAddr n) = v
      ∧ ReadsSameBut (fun x => x = slotAddr n) s t
      ∧ t.link.slotWrites.lookup n = some v
      ∧ (∀ m : SlotNo, m ≠ n → t.link.slotWrites.lookup m = s.link.slotWrites.lookup m)
      ∧ t.link.slotWrites.Pairwise (fun x y => x.1 < y.1)
      ∧ t.link = { s.link.afterByte k with slotWrites := t.link.slotWrites }
      ∧ SameBut [.mem, .link] s t

/-- A byte written to 0006h loads the high-byte latch. A byte written to 0007h forms a read mark:
beyond W or behind Rd it is refused with WRITE_REFUSED. Otherwise, with no record held or
waiting, Rd, the header and the indicator follow and a hold ends at or below the resume level.
In both cases the latch is reloaded from Rd (R11, R95, R96, R99). -/
def Obligations.ReadMarkWrites : Prop :=
  ∀ (s : State) (v : Byte) (c : Instr) (k : Nat), windowRow v c →
    s.link.entered .write .window = some k →
    (s.link.pointer = 0x0006 →
      exec c s = .next (s.withLink { s.link.afterByte k with latch := v }))
    ∧ (s.link.pointer = 0x0007 →
      let m := half s.link.latch v
      (s.billing.w - s.billing.rd).toNat < (s.billing.w - m).toNat →
      ∃ t, exec c s = .next t ∧ SameBut [.link, .attn] s t
        ∧ t.link = { s.link.afterByte k with latch := s.billing.rd.extractLsb' 8 8 }
        ∧ t.attn.writeRefused = true ∧ OtherCauses [.writeRefused] s t)
    ∧ (s.link.pointer = 0x0007 → s.mem.wf = true → s.billing.held = none →
      s.billing.waiting = none →
      let m := half s.link.latch v
      let ends := s.billing.hold && decide ((s.billing.w - m).toNat ≤ s.billing.resume)
      (s.billing.w - m).toNat ≤ (s.billing.w - s.billing.rd).toNat →
      ∃ t, exec c s = .next t ∧ SameBut [.mem, .link, .attn, .billing] s t
        ∧ t.billing = { s.billing with rd := m, hold := s.billing.hold && !ends }
        ∧ t.mem.readAll 0x0006 2 = beBytes 2 m.toNat
        ∧ t.mem.read 0x000C = flagByte t.billing.flaggedUnread
        ∧ ReadsSameBut (fun x => x = 0x0006 ∨ x = 0x0007 ∨ x = 0x000C) s t
        ∧ t.link = { s.link.afterByte k with latch := s.link.latch }
        ∧ t.attn.journalHalt = (s.attn.journalHalt && !ends)
        ∧ OtherCauses [.journalHalt] s t)

/-- An applied read mark that makes room lets the held record into the journal at W, with the next
write mark, JOURNAL_NEW and a cleared indicator. The waiting record follows it into the journal
where it fits, or becomes the held record (R93, R96, R101, R102). -/
def Obligations.ReadMarkReleasesHeldRecord : Prop :=
  ∀ (s : State) (v : Byte) (c : Instr) (k : Nat) (r : Record), windowRow v c →
    s.link.entered .write .window = some k → s.link.pointer = 0x0007 → s.mem.wf = true →
    s.billing.held = some r → s.billing.hold = true →
    let m := half s.link.latch v
    (s.billing.w - m).toNat ≤ (s.billing.w - s.billing.rd).toNat →
    (s.billing.w - m).toNat < 128 →
    ∃ t, exec c s = .next t ∧ SameBut [.mem, .link, .attn, .billing] s t
      ∧ t.link = { s.link.afterByte k with latch := s.link.latch }
      ∧ t.billing.rd = m ∧ RecordAt t s.billing.w r ∧ t.attn.journalNew = true
      ∧ OtherCauses [.journalNew, .journalHalt] s t
      ∧ t.billing.hold = !decide (t.billing.fill ≤ s.billing.resume)
      ∧ t.mem.readAll 0x0004 2 = beBytes 2 t.billing.w.toNat
      ∧ t.mem.read 0x000B = flagByte t.billing.held.isSome
      ∧ (s.billing.waiting = none → t.billing.held = none ∧ t.billing.waiting = none
          ∧ t.billing.w = s.billing.w + 1)
      ∧ ∀ x : Record, s.billing.waiting = some x → t.billing.waiting = none
          ∧ ((s.billing.w - m).toNat < 127 → t.billing.held = none
              ∧ t.billing.w = s.billing.w + 2 ∧ RecordAt t (s.billing.w + 1) x)
          ∧ ((s.billing.w - m).toNat = 127 → t.billing.held = some x
              ∧ t.billing.w = s.billing.w + 1)

/-- A byte written to 000Dh is stored and renews the keepalive: GRANT_DUE leaves in every state,
ALIVE and EXPIRED start again from zero, STOPPED stays, and neither the grant nor the fallback
changes (R12, R107). -/
def Obligations.RenewalRestartsKeepalive : Prop :=
  ∀ (s : State) (v : Byte) (c : Instr) (k : Nat), windowRow v c →
    s.link.entered .write .window = some k → s.link.pointer = 0x000D → s.mem.wf = true →
    let next : Keepalive := if s.power.keepalive = .stopped then .stopped else .alive 0 false
    let p : Power := { s.power with keepalive := next }
    ∃ t, exec c s = .next t ∧ t.mem.read 0x000D = v ∧ ReadsSameBut (fun x => x = 0x000D) s t
      ∧ t.link = s.link.afterByte k
      ∧ t.attn.grantDue = false ∧ OtherCauses [.grantDue] s t
      ∧ t.power.keepalive = next ∧ t.power.grant = s.power.grant
      ∧ t.power.fallback = s.power.fallback ∧ t.power.period = s.power.period
      ∧ SameBut [.mem, .link, .attn, .power, .relay, .insulation] s t
      ∧ (s.power.effGrant = 0 ∨ 0 < p.effGrant →
          t.power = p ∧ SameBut [.mem, .link, .attn, .power] s t)
      ∧ (0 < s.power.effGrant → p.effGrant = 0 → t.power.iDem = 0 ∧ t.power.need = false
          ∧ DrivesOnly s t)

/-- A cause code acknowledged takes that edge cause out of the pending set and does nothing for a
level cause, a cause not pending, code 0 or a code above 8; WRITE_REFUSED is never set (R17). The
first byte of a CONTROL write becomes the mask at once, bit 0 of the second requests a link reset,
and later bytes are ignored (R18).
That a row stands for its accepted start byte as well is the model's, log entry 5. -/
def Obligations.CauseAndControlWritesAct : Prop :=
  ∀ (s : State) (b : Byte),
    (∀ k : Nat, s.link.entered .write .cause = some k →
      ∃ t, exec (.causeAcknowledge b) s = .next t ∧ SameBut [.link, .attn] s t
        ∧ t.link = { s.link with phase := .transfer .write .cause (k + 1) }
        ∧ t.attn.mask = s.attn.mask
        ∧ (∀ c : Cause, t.attn.has c
            = (s.attn.has c && !decide (c.code = b.toNat ∧ 4 ≤ b.toNat)))
        ∧ (t.attnPin = true ↔
            ∃ c : Cause, t.attn.has c = true ∧ t.attn.mask.getLsbD (c.code - 1) = false))
    ∧ (s.link.entered .write .control = some 0 →
      exec (.maskWrite b) s = .next ((s.withAttn { s.attn with mask := b }).withLink
        { s.link with phase := .transfer .write .control 1 }))
    ∧ (s.link.phase = .transfer .write .control 1 →
      exec (.linkResetRequest b) s = .next (s.withLink { s.link with
        resetRequested := b.getLsbD 0, phase := .transfer .write .control 2 }))
    ∧ ∀ k : Nat, s.link.phase = .transfer .write .control (k + 2) →
      exec (.maskWrite b) s = .next s ∧ exec (.linkResetRequest b) s = .next s

/-- A link reset that is due, with no notice outstanding, puts the pointer, the latch and the refused
flag at their start, takes the edge causes out and re-evaluates the level causes, frees every slot,
empties the queues, ends CHARGE, HEAT and CHECK INSULATION without a result, detaches a CLOSE
SESSION, and starts the keepalive again while a session is open. I_dem, the duty, the relay need and
the relay stay (R19, R41, R42, R108, R117, R129).
That outstanding notices come first is the model's, log entry 8, and so is that the drives stay where
the effective grant is re-formed to 0, log entry 25. -/
def Obligations.LinkResetClearsHostState : Prop :=
  ∀ s : State, s.link.resetDue = true → s.orders.notices = [] → s.mem.wf = true →
    let next : Keepalive :=
      if s.billing.session.isSome then .alive 0 false else s.power.keepalive
    ∃ t, exec .linkReset s = .next t
      ∧ t.link = { s.link with
          pointer := 0, latch := s.billing.rd.extractLsb' 8 8, refused := false, resetDue := false }
      ∧ t.attn = ⟨!s.trips.set.isEmpty, s.billing.hold,
          s.insulation.condition == .warning || s.insulation.condition == .fault,
          false, false, false, false, false, s.attn.mask⟩
      ∧ (∀ n : SlotNo, t.slot n = ⟨.free, none⟩ ∧ t.mem.read (slotAddr n) = 0x00
          ∧ t.mem.readAll (slotAddr n + 32) 32 = List.replicate 32 0)
      ∧ t.orders.queues = ⟨[], [], [], [], []⟩ ∧ t.orders.notices = []
      ∧ ReadsSameBut (fun a => ∃ n, engineBytes n a) s t
      ∧ t.power = { s.power with charge := none, keepalive := next }
      ∧ t.heating = { s.heating with plan := none }
      ∧ t.insulation = { s.insulation with check := none }
      ∧ t.billing = { s.billing with
          close := s.billing.close.map fun c => { c with slot := none } }
      ∧ SameBut [.mem, .link, .attn, .orders, .power, .heating, .insulation, .billing] s t

/-! ## The order engine -/

/-- A slot-state notice: 01h in a FREE slot is the post of the order the slot's bytes spell, 00h in a
DONE slot frees it, and every other write is held: byte 0 is restored and WRITE_REFUSED reported
(R10, R24 to R27). An unknown order code ends at once with UNKNOWN_ORDER (R28).
That a post does what the order's row does is the model's form, log entry 4. -/
def Obligations.NoticeJudged : Prop :=
  ∀ (s : State) (n : SlotNo) (v : Byte) (rest : List (SlotNo × Byte)),
    s.orders.notices = (n, v) :: rest → s.mem.wf = true →
    let s1 := s.withOrders { s.orders with notices := rest }
    let p := s.mem.order n
    ((s.slot n).state = .free → v = 0x01 →
      (∀ c : Instr, orderCommand n p.tag p.order = some c →
        exec .slotStateNotice s = exec c s1)
      ∧ (orderCommand n p.tag p.order = none →
        ∃ t, exec .slotStateNotice s = .next t ∧ Ended t n p (refusal .unknownOrder)
          ∧ OrderFrame n [] s1 t))
    ∧ ((s.slot n).state = .done → v = 0x00 →
      ∃ t, exec .slotStateNotice s = .next t ∧ t.slot n = ⟨.free, none⟩
        ∧ t.mem.read (slotAddr n) = 0x00 ∧ ReadsSameBut (fun a => a = slotAddr n) s t
        ∧ OtherSlots n s1 t ∧ SameBut [.mem, .orders] s1 t)
    ∧ (¬((s.slot n).state = .free ∧ v = 0x01) → ¬((s.slot n).state = .done ∧ v = 0x00) →
      ∃ t, exec .slotStateNotice s = .next t
        ∧ t.mem.read (slotAddr n) = (s.slot n).state.code
        ∧ ReadsSameBut (fun a => a = slotAddr n) s t ∧ t.orders = s1.orders
        ∧ t.attn.writeRefused = true ∧ OtherCauses [.writeRefused] s t
        ∧ SameBut [.mem, .attn, .orders] s t)

/-- A post while a timed order occupies the block, or while other orders of the block wait, waits
behind them with its copy kept; a post in a slot that is not FREE is held (R24, R25, R27, R29).
The order as the operand of a post is the model's form, log entry 4. -/
def Obligations.PostWaitsOrIsHeld : Prop :=
  ∀ (s : State) (n : SlotNo) (tag : Half) (o : Order) (c : Instr),
    orderCommand n tag o = some c → s.mem.wf = true →
    ((s.slot n).state ≠ .free →
      ∃ t, exec c s = .next t ∧ t.mem.read (slotAddr n) = (s.slot n).state.code
        ∧ ReadsSameBut (fun a => a = slotAddr n) s t
        ∧ t.attn.writeRefused = true ∧ OtherCauses [.writeRefused] s t
        ∧ SameBut [.mem, .attn] s t)
    ∧ ∀ b : Block, (s.slot n).state = .free → orderBlock o = some b →
      (s.occupied b = true ∨ s.queue b ≠ []) →
      ∃ t, exec c s = .next t ∧ t.slot n = ⟨.waiting, some ⟨tag, o⟩⟩
        ∧ t.mem.read (slotAddr n) = 0x02
        ∧ t.mem.readAll (slotAddr n + 32) 32 = List.replicate 32 0
        ∧ t.queue b = s.queue b ++ [n] ∧ (∀ b', b' ≠ b → t.queue b' = s.queue b')
        ∧ (∀ k : SlotNo, k ≠ n → t.slot k = s.slot k)
        ∧ t.orders.notices = s.orders.notices ∧ ReadsSameBut (engineBytes n) s t
        ∧ SameBut [.mem, .orders] s t

/-- WITHDRAW of a waiting order removes it from its queue and ends it WITHDRAWN, then reports its own
result; a running CHARGE, HEAT or CHECK INSULATION is ended the same way. A running order of any
other kind is NOT_WITHDRAWABLE, a slot with no order NOT_NOW, and the WITHDRAW's own slot or a
number above 15 BAD_PARAMETER. A CHECK INSULATION that ends drains its block's queue (R32, R36, R38,
R39).
The result fields of a running CHARGE or HEAT that is withdrawn are those of R127 and R146 or 00h by
R38, as a free value of the model has it, log entry 11. The state byte of a number above 15 and the
state byte found where a host write is not judged yet are the model's, log entries 13 and 27. -/
def Obligations.WithdrawEndsTarget : Prop :=
  ∀ (s : State) (n : SlotNo) (tag : Half) (target : Byte), TakesAtOnce s n .general →
    let c := Instr.withdraw n tag target
    let own : Posted := ⟨tag, .withdraw target⟩
    (∀ (k : SlotNo) (p : Posted), target.toNat = k.val → k ≠ n → (s.slot k).posted = some p →
      orderBlock p.order ≠ none →
      ((s.slot k).state = .waiting → ∀ b, orderBlock p.order = some b →
        ∃ t, exec c s = .next t ∧ Ended t k p ⟨.withdrawn, 0x00, []⟩
          ∧ Ended t n own ⟨.ok, 0x00, [target, orderCode p.order, 0x02]⟩
          ∧ t.queue b = (s.queue b).filter (fun x => x != k)
          ∧ (∀ b', b' ≠ b → t.queue b' = s.queue b')
          ∧ (∀ x : SlotNo, x ≠ n → x ≠ k → t.slot x = s.slot x)
          ∧ ReadsSameBut (fun a => engineBytes n a ∨ engineBytes k a) s t
          ∧ OtherCauses [.orderDone] s t ∧ SameBut [.mem, .orders, .attn] s t)
      ∧ (∀ ch : Charge, (s.slot k).state = .running → orderCode p.order = 0x21 →
        s.power.charge = some ch →
        ∃ t, exec c s = .next t
          ∧ Ended t k p ⟨.withdrawn, if ch.clamped then 0x01 else 0x00,
              if Config.withdrawnShows 0x21 then
                beBytes 2 ch.maxCurrent ++ beBytes 2 ch.vLim ++ beBytes 2 ch.endCurrent
                  ++ beBytes 1 ch.lastState.code ++ beBytes 2 ch.cvCap ++ beBytes 2 s.power.iDem
                  ++ beBytes 4 ch.seconds
              else []⟩
          ∧ Ended t n own ⟨.ok, 0x00, [target, 0x21, 0x03]⟩
          ∧ t.power = { s.power with charge := none }
          ∧ OtherCauses [.orderDone] s t ∧ SameBut [.mem, .orders, .attn, .power] s t)
      ∧ (∀ pl : Plan, (s.slot k).state = .running → orderCode p.order = 0x30 →
        s.heating.plan = some pl →
        ∃ t, exec c s = .next t
          ∧ Ended t k p ⟨.withdrawn, if pl.clamped then 0x01 else 0x00,
              if Config.withdrawnShows 0x30 then
                beInt 2 pl.target ++ beBytes 2 pl.band ++ beBytes 2 pl.hysteresis
                  ++ beBytes 2 pl.pMax ++ [pl.source.code, pl.policy.code, pl.mode.code]
                  ++ beBytes 1 pl.lastState.code ++ tempBytes s.heating.tMin
                  ++ [flagByte pl.reachedHolding] ++ beBytes 4 pl.seconds
              else []⟩
          ∧ Ended t n own ⟨.ok, 0x00, [target, 0x30, 0x03]⟩
          ∧ t.heating = { s.heating with plan := none } ∧ t.attn.planEvent = true
          ∧ OtherCauses [.orderDone, .planEvent] s t
          ∧ SameBut [.mem, .orders, .attn, .heating] s t)
      ∧ (∀ ck : Check, (s.slot k).state = .running → orderCode p.order = 0x40 →
        s.insulation.check = some ck → ck.slot = k → s.queue .insulation = [] →
        ∃ t, exec c s = .next t ∧ Ended t k p ⟨.withdrawn, 0x00, []⟩
          ∧ Ended t n own ⟨.ok, 0x00, [target, 0x40, 0x03]⟩
          ∧ t.insulation = { s.insulation with check := none }
          ∧ OtherCauses [.orderDone] s t ∧ SameBut [.mem, .orders, .attn, .insulation] s t)
      ∧ (OrdersShow s → (s.slot k).state = .running → orderCode p.order = 0x40 →
        ∃ t, exec c s = .next t ∧ Ended t k p ⟨.withdrawn, 0x00, []⟩
          ∧ Ended t n own ⟨.ok, 0x00, [target, 0x40, 0x03]⟩ ∧ Drained .insulation s t)
      ∧ ((s.slot k).state = .running → orderCode p.order ∉ [0x21, 0x30, 0x40] →
        ∃ t, exec c s = .next t
          ∧ Ended t n own ⟨.notWithdrawable, 0x00, [target, orderCode p.order, 0x03]⟩
          ∧ OrderFrame n [] s t))
    ∧ (∀ k : SlotNo, target.toNat = k.val → k ≠ n →
        (s.slot k).state = .free ∨ (s.slot k).state = .done ∨ (s.slot k).state = .posted →
        ∃ t, exec c s = .next t
          ∧ Ended t n own ⟨.notNow, 0x00, [target, 0x00, (s.slot k).state.code]⟩
          ∧ OrderFrame n [] s t)
    ∧ (target.toNat = n.val → ∃ t, exec c s = .next t
        ∧ Ended t n own ⟨.badParameter, 0x00, [target, 0x00, 0x01]⟩
        ∧ OrderFrame n [] s t)
    ∧ (16 ≤ target.toNat → ∃ t, exec c s = .next t
        ∧ Ended t n own ⟨.badParameter, 0x00, [target, 0x00, 0x00]⟩ ∧ OrderFrame n [] s t)

/-! ## Orders of the power manager -/

/-- SET GRANT puts the clamped grant, fallback and period in force, reports CLAMPED and the effective
grant, and starts the keepalive from zero with a session open, else leaves it STOPPED. A grant
gate that fails takes the demand to 0 (R36, R105, R108, R109, R112). -/
def Obligations.SetGrantSets : Prop :=
  ∀ (s : State) (n : SlotNo) (tag grant fallback : Half) (period : Byte),
    TakesAtOnce s n .power →
    let g := clampNat 0 22000 grant.toNat
    let f := clampNat 0 3700 fallback.toNat
    let p := clampNat 2 60 period.toNat
    let alive := s.billing.session.isSome
    let eff := if s.power.supplyLow then 0 else g
    let set : Power := { s.power with
      grant := g, fallback := f, period := p,
      keepalive := if alive then .alive 0 false else .stopped }
    ∃ t, exec (.setGrant n tag grant fallback period) s = .next t
      ∧ Ended t n ⟨tag, .setGrant grant fallback period⟩
          ⟨.ok, if g = grant.toNat ∧ f = fallback.toNat ∧ p = period.toNat then 0x00 else 0x01,
            beBytes 2 g ++ beBytes 2 f ++ beBytes 1 p ++ [if alive then 0x01 else 0x00]
              ++ beBytes 2 eff⟩
      ∧ OrderFrame n [.power, .relay, .insulation] s t
      ∧ t.power.grant = g ∧ t.power.fallback = f ∧ t.power.period = p
      ∧ t.power.keepalive = set.keepalive
      ∧ (s.power.effGrant = 0 ∨ 0 < eff → t.power = set ∧ OrderFrame n [.power] s t)
      ∧ (0 < s.power.effGrant → eff = 0 → t.power.iDem = 0 ∧ t.power.need = false
          ∧ t.power.stage = s.power.stage ∧ t.relay.state = s.relay.state)

/-- SET POWER STAGE puts the five clamped settings in force and cuts I_dem to a lowered stage
maximum at once (R36, R121). -/
def Obligations.SetPowerStageSets : Prop :=
  ∀ (s : State) (n : SlotNo) (tag eta stageMax : Half) (sUp : Byte) (rH heaterMax : Half),
    TakesAtOnce s n .power →
    let g : Stage := ⟨clampNat 800 990 eta.toNat, clampNat 0 600 stageMax.toNat,
      clampNat 1 100 sUp.toNat, clampNat 100 2000 rH.toNat, clampNat 0 6000 heaterMax.toNat⟩
    let asked : Stage := ⟨eta.toNat, stageMax.toNat, sUp.toNat, rH.toNat, heaterMax.toNat⟩
    ∃ t, exec (.setPowerStage n tag eta stageMax sUp rH heaterMax) s = .next t
      ∧ Ended t n ⟨tag, .setPowerStage eta stageMax sUp rH heaterMax⟩
          ⟨.ok, if g = asked then 0x00 else 0x01,
            beBytes 2 g.eta ++ beBytes 2 g.stageMax ++ beBytes 1 g.sUp ++ beBytes 2 g.rH
              ++ beBytes 2 g.heaterMax⟩
      ∧ OrderFrame n [.power, .insulation] s t
      ∧ t.power = { s.power with stage := g, iDem := min s.power.iDem g.stageMax }
      ∧ (s.power.iDem ≤ g.stageMax → t.insulation = s.insulation)

/-- CHARGE is refused ALREADY_STANDING while one runs, and NOT_NOW without an open session or with
an acceptance table still to be loaded. Otherwise it runs, GATED, with its clamped parameters, the
CV cap at the stage maximum, and no result until it ends (R33, R122 to R124).
The last state before the first period is the model's, log entry 14. -/
def Obligations.ChargeTaken : Prop :=
  ∀ (s : State) (n : SlotNo) (tag maxCurrent vLim endCurrent : Half), TakesAtOnce s n .power →
    let c := Instr.charge n tag maxCurrent vLim endCurrent
    let posted : Posted := ⟨tag, .charge maxCurrent vLim endCurrent⟩
    let m := max 1 (min (clampNat 1 600 maxCurrent.toNat) s.power.stage.stageMax)
    let v := clampNat 2000 5000 vLim.toNat
    let e := clampNat 5 100 endCurrent.toNat
    (s.power.charge.isSome = true → Refuses c s n posted .alreadyStanding)
    ∧ (s.power.charge = none → s.billing.sessionGate = false ∨ s.heating.table = none →
      Refuses c s n posted .notNow)
    ∧ (s.power.charge = none → s.billing.sessionGate = true → s.heating.table ≠ none →
      ∃ t, exec c s = .next t ∧ Runs t n posted
        ∧ ReadsSameBut (engineBytes n) s t ∧ OtherSlots n s t
        ∧ SameBut [.mem, .orders, .power] s t
        ∧ t.power = { s.power with
            lastVLim := v
            charge := some
              { slot := n, maxCurrent := m, vLim := v, endCurrent := e,
                clamped := !decide (m = maxCurrent.toNat ∧ v = vLim.toNat ∧ e = endCurrent.toNat),
                cvCap := s.power.stage.stageMax, ovCount := 0, state := .gated,
                lastState := .gated, seconds := 0, tenths := 0 } })

/-! ## Orders of the heating controller -/

/-- HEAT is refused ALREADY_STANDING while a plan runs, BAD_PARAMETER on an undefined source, policy
or mode code, and NOT_NOW during SENSOR_LOSS. Otherwise it runs in WARMING with demand 0 and its
clamped parameters (R33, R36, R139, R140).
The last state before the first evaluation is the model's, log entry 14. -/
def Obligations.HeatTaken : Prop :=
  ∀ (s : State) (n : SlotNo) (tag target band hysteresis pMax : Half)
    (source policy mode : Byte), TakesAtOnce s n .heating →
    let c := Instr.heat n tag target band hysteresis pMax source policy mode
    let posted : Posted := ⟨tag, .heat target band hysteresis pMax source policy mode⟩
    let coded := decide (source.toNat ≤ 2) && decide (policy.toNat ≤ 1) && decide (mode.toNat ≤ 1)
    let t' := clampInt (-200) 400 target.toInt
    let b := clampNat 10 200 band.toNat
    let h := clampNat 5 50 hysteresis.toNat
    let p := clampNat 0 s.power.stage.heaterMax pMax.toNat
    (s.heating.plan.isSome = true → Refuses c s n posted .alreadyStanding)
    ∧ (s.heating.plan = none → coded = false → Refuses c s n posted .badParameter)
    ∧ (s.heating.plan = none → coded = true → s.heating.sensorLoss = true →
      Refuses c s n posted .notNow)
    ∧ (s.heating.plan = none → coded = true → s.heating.sensorLoss = false →
      ∃ t, exec c s = .next t ∧ Runs t n posted
        ∧ ReadsSameBut (engineBytes n) s t ∧ OtherSlots n s t
        ∧ SameBut [.mem, .orders, .heating] s t
        ∧ t.heating = { s.heating with
            plan := some
              { slot := n, target := t', band := b, hysteresis := h, pMax := p,
                source := if source.toNat = 0 then .supply
                  else if source.toNat = 1 then .supplyThenPack else .pack
                policy := if policy.toNat = 0 then .heatFirst else .chargeFirst
                mode := if mode.toNat = 0 then .once else .keep
                clamped := !decide (t' = target.toInt ∧ b = band.toNat ∧ h = hysteresis.toNat
                  ∧ p = pMax.toNat)
                phase := .warming, demand := 0, reachedHolding := false, blockedCount := 0,
                lastState := .warming, seconds := 0, tenths := 0 } })

/-- SET SENSORS puts the mask and the clamped limits in force, then tests SENSOR_LOSS and the guards
on the table as it stands: a SENSOR_LOSS that begins ends a running plan SENSORS, and one or a
guard that begins takes the duty to 0 (R131 to R134, R138). -/
def Obligations.SetSensorsSets : Prop :=
  ∀ (s : State) (n : SlotNo) (tag : Half) (mask : Byte) (packCap plateLimit : Half),
    TakesAtOnce s n .heating →
    let cap := clampInt 300 500 packCap.toInt
    let limit := clampInt 600 900 plateLimit.toInt
    let h : Heating := { s.heating with mask := mask, packCap := cap, plateLimit := limit }
    let loss := decide (h.count < 3)
    (∀ p, s.heating.plan = some p → p.slot ≠ n) →
    ∃ t, exec (.setSensors n tag mask packCap plateLimit) s = .next t
      ∧ Ended t n ⟨tag, .setSensors mask packCap plateLimit⟩
          ⟨.ok, if cap = packCap.toInt ∧ limit = plateLimit.toInt then 0x00 else 0x01,
            [mask] ++ beInt 2 cap ++ beInt 2 limit ++ beBytes 1 h.count
              ++ [if loss then 0x01 else 0x00]⟩
      ∧ t.heating.mask = mask ∧ t.heating.packCap = cap ∧ t.heating.plateLimit = limit
      ∧ t.heating.pack = s.heating.pack ∧ t.heating.plate = s.heating.plate
      ∧ t.heating.sensorLoss = loss ∧ t.heating.packGuard = h.testPackGuard
      ∧ t.heating.plateGuard = h.testPlateGuard ∧ t.heating.plateSensorGuard = h.testPlateSensor
      ∧ t.heating.acceptance = Heating.formAcceptance { h with sensorLoss := loss }
      ∧ t.heating.packCount = s.heating.packCount ∧ t.heating.plateCount = s.heating.plateCount
      ∧ SameBut [.mem, .orders, .attn, .heating, .power, .insulation] s t
      ∧ (loss = false ∨ s.heating.sensorLoss = true ∨ s.heating.plan = none →
          t.heating.plan = s.heating.plan
          ∧ OrderFrame n [.heating, .power, .insulation] s t)
      ∧ (∀ p, loss = true → s.heating.sensorLoss = false → s.heating.plan = some p →
          t.heating.plan = none ∧ (t.slot p.slot).state = .done
          ∧ t.mem.read (slotAddr p.slot + 32) = 0x0A ∧ t.mem.read (slotAddr p.slot + 33) = 0x13
          ∧ t.attn.planEvent = true)
      ∧ (loss = true → s.heating.sensorLoss = false → t.power.duty = 0)
      ∧ (t.heating.guarded = true → s.heating.guarded = false → t.power.duty = 0)
      ∧ t.power = { s.power with duty := t.power.duty }
      ∧ (loss = false ∨ s.heating.sensorLoss = true →
          t.heating.guarded = false ∨ s.heating.guarded = true →
          t.power = s.power ∧ t.insulation = s.insulation)

/-- LOAD ACCEPTANCE takes the points in the staging area: BAD_PARAMETER for a count or place out of
range, BAD_TABLE for a table that does not check, else the table is in force and the acceptance
current formed from it (R136 to R138). -/
def Obligations.LoadAcceptanceLoads : Prop :=
  ∀ (s : State) (n : SlotNo) (tag offset : Half) (count : Byte), TakesAtOnce s n .heating →
    let c := Instr.loadAcceptance n tag offset count
    let posted : Posted := ⟨tag, .loadAcceptance offset count⟩
    let inRange := decide (2 ≤ count.toNat ∧ count.toNat ≤ 10 ∧ 0x0640 ≤ offset.toNat
      ∧ offset.toNat + 4 * count.toNat ≤ 0x2000)
    let pts : List Point := (List.range count.toNat).map fun i =>
      ⟨(half (s.mem.read (offset.toNat + 4 * i)) (s.mem.read (offset.toNat + 4 * i + 1))).toInt,
       (half (s.mem.read (offset.toNat + 4 * i + 2))
          (s.mem.read (offset.toNat + 4 * i + 3))).toNat⟩
    let good := (∀ p ∈ pts, -400 ≤ p.temp ∧ p.temp ≤ 1250 ∧ p.current ≤ 600)
      ∧ pts.Pairwise fun p q => p.temp < q.temp
    (inRange = false → Refuses c s n posted .badParameter)
    ∧ (inRange = true → ¬good → Refuses c s n posted .badTable)
    ∧ (inRange = true → good →
      let h : Heating := { s.heating with table := some pts }
      ∃ t, exec c s = .next t
        ∧ Ended t n posted ⟨.ok, 0x00,
            [count, if s.heating.table.isSome then 0x01 else 0x00] ++ beBytes 2 h.formAcceptance
              ++ tempBytes s.heating.tMin⟩
        ∧ OrderFrame n [.heating] s t
        ∧ t.heating = { h with acceptance := h.formAcceptance })

/-! ## Orders of the insulation monitor -/

/-- CHECK INSULATION ends HV_DOWN at once in IDLE, with 00h for the awaited result, and otherwise runs
with its 60 s timer at zero (R36, R164, R165). -/
def Obligations.CheckInsulationTaken : Prop :=
  ∀ (s : State) (n : SlotNo) (tag : Half), TakesAtOnce s n .insulation →
    (s.insulation.state = .idle →
      ∃ t, exec (.checkInsulation n tag) s = .next t
        ∧ Ended t n ⟨tag, .checkInsulation⟩
            ⟨.ended, 0x14, List.replicate 10 0 ++ s.insulation.checkMiddle
              ++ fourEntries s.insulation.history⟩
        ∧ OrderFrame n [] s t)
    ∧ (s.insulation.state ≠ .idle →
      ∃ t, exec (.checkInsulation n tag) s = .next t ∧ Runs t n ⟨tag, .checkInsulation⟩
        ∧ ReadsSameBut (engineBytes n) s t ∧ OtherSlots n s t
        ∧ SameBut [.mem, .orders, .insulation] s t
        ∧ t.insulation = { s.insulation with check := some ⟨n, 0⟩ })

/-- SET INSULATION is BAD_PARAMETER as a whole when a setting is out of range or the fault level is
not below the warn level. Otherwise all six are in force; a changed R_m or U_inj restarts WARMUP
outside IDLE, and freshness follows the new window (R162, R166, R167). -/
def Obligations.SetInsulationSets : Prop :=
  ∀ (s : State) (n : SlotNo) (tag rM uInj warn fault : Half) (k window : Byte),
    TakesAtOnce s n .insulation →
    let c := Instr.setInsulation n tag rM uInj warn fault k window
    let posted : Posted := ⟨tag, .setInsulation rM uInj warn fault k window⟩
    let g : InsSettings :=
      ⟨rM.toNat, uInj.toNat, warn.toNat, fault.toNat, k.toNat, window.toNat⟩
    let good := (100 ≤ g.rM ∧ g.rM ≤ 2000) ∧ (5000 ≤ g.uInj ∧ g.uInj ≤ 15000)
      ∧ (100 ≤ g.warn ∧ g.warn ≤ 2000) ∧ (50 ≤ g.fault ∧ g.fault ≤ 1000) ∧ (1 ≤ g.k ∧ g.k ≤ 8)
      ∧ (10 ≤ g.window ∧ g.window ≤ 60) ∧ g.fault < g.warn
    let again := s.insulation.state ≠ .idle
      ∧ (g.rM ≠ s.insulation.settings.rM ∨ g.uInj ≠ s.insulation.settings.uInj)
    let fresh := (s.insulation.condition = .ok ∨ s.insulation.condition = .warning)
      ∧ ∃ l, s.insulation.last = some l ∧ l.age ≤ 10 * g.window
    (¬good → Refuses c s n posted .badParameter)
    ∧ (good →
      ∃ t, exec c s = .next t
        ∧ Ended t n posted ⟨.ok, 0x00,
            beBytes 2 g.rM ++ beBytes 2 g.uInj ++ beBytes 2 g.warn ++ beBytes 2 g.fault
              ++ [k, window] ++ beBytes 1 t.insulation.state.code
              ++ [flagByte (s.insulation.restarts g)]⟩
        ∧ (s.insulation.restarts g = true ↔ again)
        ∧ OrderFrame n [.insulation, .power, .relay] s t
        ∧ t.insulation.settings = g ∧ t.insulation.condition = s.insulation.condition
        ∧ t.insulation.last = s.insulation.last ∧ t.insulation.history = s.insulation.history
        ∧ (t.insulation.fresh = true ↔ fresh)
        ∧ (¬again → t.insulation.state = s.insulation.state
            ∧ t.insulation.samplePos = s.insulation.samplePos
            ∧ t.insulation.prevDelta = s.insulation.prevDelta)
        ∧ (again → t.insulation.state = .warmup ∧ t.insulation.samplePos = none
            ∧ t.insulation.sampleNeg = none ∧ t.insulation.prevDelta = none
            ∧ t.insulation.settled = 0 ∧ t.insulation.unsettled = 0 ∧ t.insulation.invalid = 0
            ∧ t.insulation.quiet = false
            ∧ ∃ h, t.insulation.half = some h ∧ h.positive = true ∧ h.uInj = g.uInj
                ∧ h.stretch = s.insulation.stretch ∧ h.elapsed = 0)
        ∧ (s.insulation.fresh = true → ¬fresh → t.power.iDem = 0 ∧ t.power.need = false)
        ∧ (s.insulation.fresh = false ∨ fresh → t.power = s.power ∧ t.relay = s.relay))

/-! ## CLEAR TRIP -/

/-- CLEAR TRIP takes out of the trip set every kind whose condition is gone, keeps the others, and
reports the set before and after. A set it empties ends TRIP and discards the first-trip record
(R40, R182, R183). -/
def Obligations.ClearTripRemoves : Prop :=
  ∀ (s : State) (n : SlotNo) (tag : Half), TakesAtOnce s n .general →
    ∃ t, exec (.clearTrip n tag) s = .next t
      ∧ Ended t n ⟨tag, .clearTrip⟩ ⟨.ok, 0x00, [s.trips.set.byte, t.trips.set.byte]⟩
      ∧ ReadsSameBut (engineBytes n) s t ∧ OtherSlots n s t
      ∧ OtherCauses [.orderDone, .trip] s t ∧ SameBut [.mem, .orders, .attn, .trips] s t
      ∧ t.trips.set =
          { insulation := s.trips.set.insulation && s.insulation.condition == .fault
            contact := false
            weld := s.trips.set.weld && s.pins.infb
            packOvertemp := s.trips.set.packOvertemp
              && !(match s.heating.tMax with
                  | some x => decide (x < 550)
                  | none => false)
            heaterOvertemp := s.trips.set.heaterOvertemp
              && !(match s.heating.plate with
                  | .valid x => decide (x < 850)
                  | _ => false)
            packOvervoltage := s.trips.set.packOvervoltage
              && decide (s.power.lastVLim ≤ s.metering.readings.packVoltage)
            module := s.trips.set.module && s.pins.pmflt }
      ∧ (s.trips.set.isEmpty = false → t.trips.set.isEmpty = true →
          t.trips.first = none ∧ t.attn.trip = false)
      ∧ (t.trips.set.isEmpty = false ∨ s.trips.set.isEmpty = true →
          t.trips.first = s.trips.first ∧ t.attn.trip = s.attn.trip)

/-! ## Orders of the billing unit -/

/-- SET CLOCK is BAD_PARAMETER for time 0, and NOT_NOW while a record is held or a detached close
runs. Otherwise the open session interval or the open orphan interval closes CLOCK, also when empty,
part time and the flag are set, the timebase restarts, a CLOCK record is written, and with a session
the next interval begins. With the journal full the first record becomes the held record and a second
one the waiting record (R65, R66, R85, R90, R92, R93, R101, R102).
The meter a record ends with is the one last taken in a report, log entry 19. -/
def Obligations.SetClockSets : Prop :=
  ∀ (s : State) (n : SlotNo) (tag : Half) (newTime : Word), TakesAtOnce s n .billing →
    let c := Instr.setClock n tag newTime
    let posted : Posted := ⟨tag, .setClock newTime⟩
    let set : Billing := { s.billing with partTime := newTime, clockSet := true, secondPhase := 0 }
    let r : Record :=
      { seq := s.billing.nextSeq, cause := .none, flags := RecFlags.clear, sessionNo := 0,
        intervalNo := 0, start := s.billing.partTime, stop := newTime,
        bandStart := s.billing.band, bandEnd := set.band,
        meterStart := s.billing.journalMeter, meterEnd := s.billing.meter,
        body := .clock s.billing.partTime newTime s.billing.clockSet }
    let ended : Ending := ⟨.ok, 0x00, beBytes 4 s.billing.partTime.toNat
      ++ [if s.billing.clockSet then 0x01 else 0x00] ++ beBytes 4 newTime.toNat⟩
    (newTime = 0 → Refuses c s n posted .badParameter)
    ∧ (newTime ≠ 0 → s.billing.held.isSome = true ∨ s.billing.detachedClose = true →
      Refuses c s n posted .notNow)
    ∧ (newTime ≠ 0 → s.billing.detachedClose = false →
      (s.billing.session = none → s.billing.orphan = none →
        (Room s 1 → ∃ t, exec c s = .next t ∧ Ended t n posted ended
          ∧ ReadsSameBut (fun a => engineBytes n a ∨ journalHeader a
              ∨ recordBytes s.billing.w a) s t
          ∧ OtherSlots n s t ∧ OtherCauses [.orderDone, .journalNew] s t
          ∧ SameBut [.mem, .orders, .attn, .billing] s t
          ∧ RecordAt t s.billing.w r ∧ t.attn.journalNew = true
          ∧ t.billing = { set with
              nextSeq := s.billing.nextSeq + 1, journalMeter := s.billing.meter,
              w := s.billing.w + 1 })
        ∧ (s.billing.held = none → s.billing.fill = 128 →
          ∃ t, exec c s = .next t ∧ Ended t n posted ended ∧ Holds t r
            ∧ ReadsSameBut (fun a => engineBytes n a ∨ a = 0x000B) s t
            ∧ OtherSlots n s t ∧ OtherCauses [.orderDone] s t
            ∧ SameBut [.mem, .orders, .attn, .billing] s t
            ∧ t.billing = { set with
                nextSeq := s.billing.nextSeq + 1, journalMeter := s.billing.meter,
                held := some r }))
      ∧ (∀ o, s.billing.session = none → s.billing.orphan = some o →
        let r1 : Record :=
          { seq := s.billing.nextSeq, cause := .clock, flags := o.interval.flags, sessionNo := 0,
            intervalNo := 0, start := o.interval.start, stop := s.billing.partTime,
            bandStart := o.interval.bandStart, bandEnd := s.billing.band,
            meterStart := s.billing.journalMeter, meterEnd := s.billing.meter,
            body := .orphan o.interval.wh (PerCat.zip reportedCost o.interval.cost o.carries)
              (PerCat.zip nextCarry o.interval.cost o.carries) o.interval.merges }
        let r2 : Record :=
          { r with seq := s.billing.nextSeq + 1, meterStart := s.billing.meter }
        let next : Billing := { set with
          orphan := none, nextSeq := s.billing.nextSeq + 2, journalMeter := s.billing.meter }
        (Room s 2 → ∃ t, exec c s = .next t ∧ Ended t n posted ended
          ∧ ReadsSameBut (fun a => engineBytes n a ∨ journalHeader a ∨ recordBytes s.billing.w a
              ∨ recordBytes (s.billing.w + 1) a) s t
          ∧ OtherSlots n s t ∧ OtherCauses [.orderDone, .journalNew] s t
          ∧ SameBut [.mem, .orders, .attn, .billing] s t ∧ t.attn.journalNew = true
          ∧ RecordAt t s.billing.w r1 ∧ RecordAt t (s.billing.w + 1) r2
          ∧ t.billing = { next with
              w := s.billing.w + 2
              flaggedMark := if o.interval.flags.flagged then some s.billing.w
                else s.billing.flaggedMark })
        ∧ (s.billing.held = none → s.billing.fill = 128 →
          ∃ t, exec c s = .next t ∧ Ended t n posted ended ∧ Holds t r1
            ∧ ReadsSameBut (fun a => engineBytes n a ∨ a = 0x000B) s t
            ∧ OtherSlots n s t ∧ OtherCauses [.orderDone] s t
            ∧ SameBut [.mem, .orders, .attn, .billing] s t
            ∧ t.billing = { next with held := some r1, waiting := some r2 }))
      ∧ ∀ ses i, s.billing.session = some ses → s.billing.interval = some i →
        let r1 : Record :=
          { seq := s.billing.nextSeq, cause := .clock, flags := i.flags, sessionNo := ses.number,
            intervalNo := ses.intervalNo, start := i.start, stop := s.billing.partTime,
            bandStart := i.bandStart, bandEnd := s.billing.band,
            meterStart := i.meterStart, meterEnd := s.billing.meter,
            body := .interval i.wh (PerCat.zip reportedCost i.cost ses.carries) i.merges }
        let r2 : Record := { r with
          seq := s.billing.nextSeq + 1, sessionNo := ses.number, meterStart := s.billing.meter }
        let next : Billing := { set with
          nextSeq := s.billing.nextSeq + 2
          journalMeter := s.billing.meter
          session := some { ses with
            carries := PerCat.zip nextCarry i.cost ses.carries
            wh := PerCat.zip (· + ·) ses.wh i.wh
            cost := PerCat.zip (· + ·) ses.cost (PerCat.zip reportedCost i.cost ses.carries)
            flags := ses.flags.union i.flags
            intervalNo := nextCount ses.intervalNo
            written := ses.written + 1 }
          interval := some
            { start := newTime, bandStart := set.band, meterStart := s.billing.meter,
              wh := ⟨0, 0, 0⟩, cost := ⟨0, 0, 0⟩, merges := 0,
              flags := { RecFlags.clear with tariffDefault := s.billing.defaultTable } } }
        (Room s 2 → ∃ t, exec c s = .next t ∧ Ended t n posted ended
          ∧ ReadsSameBut (fun a => engineBytes n a ∨ journalHeader a ∨ recordBytes s.billing.w a
              ∨ recordBytes (s.billing.w + 1) a) s t
          ∧ OtherSlots n s t ∧ OtherCauses [.orderDone, .journalNew] s t
          ∧ SameBut [.mem, .orders, .attn, .billing] s t ∧ t.attn.journalNew = true
          ∧ RecordAt t s.billing.w r1 ∧ RecordAt t (s.billing.w + 1) r2
          ∧ t.billing = { next with
              w := s.billing.w + 2
              flaggedMark := if i.flags.flagged then some s.billing.w
                else s.billing.flaggedMark })
        ∧ (s.billing.held = none → s.billing.fill = 128 →
          ∃ t, exec c s = .next t ∧ Ended t n posted ended ∧ Holds t r1
            ∧ ReadsSameBut (fun a => engineBytes n a ∨ a = 0x000B) s t
            ∧ OtherSlots n s t ∧ OtherCauses [.orderDone] s t
            ∧ SameBut [.mem, .orders, .attn, .billing] s t
            ∧ t.billing = { next with held := some r1, waiting := some r2 }))

/-- LOAD TARIFF takes the bands in the staging area: BAD_PARAMETER for a count or place out of
range, BAD_TABLE for a table that does not check, else the table is active at once without a
session, or pending with one, replacing a pending table with a note. The minute it reports for a
pending table is the first one ahead that is a multiple of L, minute 0 following the last minute of
the day and the wrap of part time in its minute 71 582 788 (R36, R63, R64, R67 to R70). -/
def Obligations.LoadTariffLoads : Prop :=
  ∀ (s : State) (n : SlotNo) (tag offset : Half) (count : Byte), TakesAtOnce s n .billing →
    let c := Instr.loadTariff n tag offset count
    let posted : Posted := ⟨tag, .loadTariff offset count⟩
    let inRange := decide (1 ≤ count.toNat ∧ count.toNat ≤ 12 ∧ 0x0640 ≤ offset.toNat
      ∧ offset.toNat + 4 * count.toNat ≤ 0x1FFF)
    let bands : List Band := (List.range count.toNat).map fun i =>
      ⟨(half (s.mem.read (offset.toNat + 1 + 4 * i)) (s.mem.read (offset.toNat + 2 + 4 * i))).toNat,
       (half (s.mem.read (offset.toNat + 3 + 4 * i)) (s.mem.read (offset.toNat + 4 + 4 * i))).toNat⟩
    let table : Tariff := ⟨(s.mem.read offset.toNat).toNat, bands⟩
    let good := table.length ∈ [5, 10, 15, 20, 30, 60] ∧ (bands.map (·.start)).head? = some 0
      ∧ (bands.map (·.start)).Pairwise (· < ·) ∧ ∀ b ∈ bands, b.start < 1440
    let minutes := s.billing.partTime.toNat / 60
    let ahead (k : Nat) : Nat :=
      if minutes + k ≤ 71582788 then (minutes + k) % 1440 else (minutes + k - 71582789) % 1440
    (inRange = false → Refuses c s n posted .badParameter)
    ∧ (inRange = true → ¬good → Refuses c s n posted .badTable)
    ∧ (inRange = true → good → s.billing.session = none →
      let b : Billing := { s.billing with table := table, defaultTable := false }
      ∃ t, exec c s = .next t
        ∧ Ended t n posted ⟨.ok, 0x00, [0x00] ++ beBytes 1 table.length ++ [count]
            ++ beBytes 1 b.band ++ [0xFF, 0xFF]⟩
        ∧ OrderFrame n [.billing] s t
        ∧ t.billing = { b with orphan := s.billing.orphan.map fun o => { o with
            interval := { o.interval with
              flags := { o.interval.flags with spansBands := true } } } })
    ∧ (inRange = true → good → s.billing.session ≠ none →
      ∃ k, 0 < k ∧ ahead k % s.billing.table.length = 0
        ∧ (∀ j, 0 < j → j < k → ahead j % s.billing.table.length ≠ 0)
        ∧ ∃ t, exec c s = .next t
        ∧ Ended t n posted ⟨.ok, if s.billing.pendingTable.isSome then 0x02 else 0x00,
            [0x01] ++ beBytes 1 table.length ++ [count] ++ beBytes 1 s.billing.band
              ++ beBytes 2 (ahead k)⟩
        ∧ OrderFrame n [.billing] s t
        ∧ t.billing = { s.billing with pendingTable := some table })

/-- OPEN SESSION is BAD_PARAMETER without an identifier or a BATTERY account, and NOT_NOW with a
session open, a detached close running, a record held or the journal full. Otherwise, with room, an
open orphan interval closes RELAY, unwritten when empty, the session context is set up, SESSION_OPEN is
written, the first interval begins and the keepalive starts (R80, R81, R85, R90, R92, R108).
The meter a record and the result show is the one last taken in a report, log entry 19. -/
def Obligations.OpenSessionOpens : Prop :=
  ∀ (s : State) (n : SlotNo) (tag : Half) (id battery heating aux : Word),
    TakesAtOnce s n .billing →
    let c := Instr.openSession n tag id battery heating aux
    let posted : Posted := ⟨tag, .openSession id battery heating aux⟩
    let number := if s.billing.sessionCounter < 65535 then s.billing.sessionCounter + 1 else 1
    let flags : RecFlags := { RecFlags.clear with
      clockUnset := !s.billing.clockSet, tariffDefault := s.billing.defaultTable }
    let ses : Session :=
      { id := id, number := number, battery := battery, heating := heating, aux := aux,
        openTime := s.billing.partTime, openBand := s.billing.band, intervalNo := 1, written := 0,
        wh := ⟨0, 0, 0⟩, cost := ⟨0, 0, 0⟩, carries := ⟨0, 0, 0⟩, flags := RecFlags.clear,
        closing := false }
    let r : Record :=
      { seq := s.billing.nextSeq, cause := .none, flags := flags, sessionNo := number,
        intervalNo := 0, start := s.billing.partTime, stop := s.billing.partTime,
        bandStart := s.billing.band, bandEnd := s.billing.band,
        meterStart := s.billing.journalMeter, meterEnd := s.billing.meter,
        body := .sessionOpen id battery heating aux }
    let first : Interval :=
      { start := s.billing.partTime, bandStart := s.billing.band, meterStart := s.billing.meter,
        wh := ⟨0, 0, 0⟩, cost := ⟨0, 0, 0⟩, flags := flags, merges := 0 }
    let result (seq : Word) : Ending := ⟨.ok, 0x00, beBytes 2 number
      ++ beBytes 4 s.billing.partTime.toNat ++ [if s.billing.clockSet then 0x01 else 0x00]
      ++ beBytes 1 s.billing.band ++ beBytes 4 s.billing.meter.toNat ++ beBytes 4 seq.toNat⟩
    (id = 0 ∨ battery = 0 → Refuses c s n posted .badParameter)
    ∧ (id ≠ 0 → battery ≠ 0 →
      s.billing.session.isSome = true ∨ s.billing.detachedClose = true
        ∨ s.billing.held.isSome = true ∨ s.billing.fill = 128 →
      Refuses c s n posted .notNow)
    ∧ (id ≠ 0 → battery ≠ 0 → s.billing.session = none → s.billing.detachedClose = false →
      (s.billing.orphan.all (·.interval.isEmpty) = true → Room s 1 →
        ∃ t, exec c s = .next t ∧ Ended t n posted (result s.billing.nextSeq)
          ∧ ReadsSameBut
              (fun a => engineBytes n a ∨ journalHeader a ∨ recordBytes s.billing.w a) s t
          ∧ OtherSlots n s t ∧ OtherCauses [.orderDone, .journalNew] s t
          ∧ RecordAt t s.billing.w r ∧ t.attn.journalNew = true
          ∧ t.billing = { s.billing with
              sessionCounter := number, session := some ses, interval := some first,
              orphan := none, nextSeq := s.billing.nextSeq + 1, journalMeter := s.billing.meter,
              w := s.billing.w + 1,
              flaggedMark := if s.billing.clockSet then s.billing.flaggedMark
                else some s.billing.w }
          ∧ t.power.keepalive = .alive 0 false
          ∧ (s.power.keepalive = .stopped → t.power = { s.power with keepalive := .alive 0 false }
              ∧ SameBut [.mem, .orders, .attn, .billing, .power] s t))
      ∧ ∀ o : Orphan, s.billing.orphan = some o → o.interval.isEmpty = false → Room s 2 →
        let ro : Record :=
          { seq := s.billing.nextSeq, cause := .relay, flags := o.interval.flags, sessionNo := 0,
            intervalNo := 0, start := o.interval.start, stop := s.billing.partTime,
            bandStart := o.interval.bandStart, bandEnd := s.billing.band,
            meterStart := s.billing.journalMeter, meterEnd := s.billing.meter,
            body := .orphan o.interval.wh (PerCat.zip reportedCost o.interval.cost o.carries)
              (PerCat.zip nextCarry o.interval.cost o.carries) o.interval.merges }
        ∃ t, exec c s = .next t ∧ Ended t n posted (result (s.billing.nextSeq + 1))
          ∧ RecordAt t s.billing.w ro
          ∧ RecordAt t (s.billing.w + 1)
              { r with seq := s.billing.nextSeq + 1, meterStart := s.billing.meter }
          ∧ t.billing.orphan = none ∧ t.billing.session = some ses
          ∧ t.billing.interval = some first ∧ t.billing.w = s.billing.w + 2
          ∧ t.power.keepalive = .alive 0 false)

/-- CLOSE SESSION is NOT_NOW without the session it names, or while a close runs. Otherwise it runs, the
session is closing, a running CHARGE ends SESSION_CLOSED, the demand goes to 0 and the relay is asked
to open: a CLOSED relay enters the current wait, a close in progress is abandoned, and an opening or a
STUCK relay goes on. The order waits for OPEN. With the relay OPEN by then, or WELD latched, the close
goes on at once as CLOSE_SESSION_END_CLOSE does (R36, R86, R112, R171, R173, R175).
Which row carries a close on is the model's, log entry 20. -/
def Obligations.CloseSessionBegins : Prop :=
  ∀ (s : State) (n : SlotNo) (tag : Half) (id : Word), TakesAtOnce s n .billing →
    let c := Instr.closeSession n tag id
    let posted : Posted := ⟨tag, .closeSession id⟩
    let relay : Relay := match s.relay.state with
      | .closed => ⟨.currentWait, some 0, false⟩
      | .closing => if s.pins.infb then ⟨.release, some 0, true⟩ else ⟨.opened, none, false⟩
      | .opened | .currentWait | .release | .stuck => s.relay
    let passes := relay.state = .opened ∨ s.trips.set.weld = true
    (s.billing.session = none → Refuses c s n posted .notNow)
    ∧ ∀ ses : Session, s.billing.session = some ses →
      (ses.id ≠ id ∨ s.billing.close.isSome = true → Refuses c s n posted .notNow)
      ∧ (ses.id = id → s.billing.close = none → (∀ ch, s.power.charge = some ch → ch.slot ≠ n) →
        (¬passes →
          ∃ t, exec c s = .next t ∧ Runs t n posted
            ∧ t.billing = { s.billing with
                session := some { ses with closing := true }
                close := some ⟨some n, .awaitRelay⟩ }
            ∧ t.power.iDem = 0 ∧ t.power.need = false ∧ t.power.charge = none
            ∧ t.relay = relay
            ∧ SameBut [.mem, .orders, .attn, .billing, .power, .relay, .insulation] s t
            ∧ (s.power.charge = none → ReadsSameBut (engineBytes n) s t ∧ OtherSlots n s t
                ∧ t.attn = s.attn)
            ∧ ∀ ch, s.power.charge = some ch → (t.slot ch.slot).state = .done
                ∧ t.mem.read (slotAddr ch.slot + 32) = 0x0A
                ∧ t.mem.read (slotAddr ch.slot + 33) = 0x11 ∧ t.attn.orderDone = true
                ∧ ReadsSameBut (fun a => engineBytes n a ∨ engineBytes ch.slot a) s t)
        ∧ (passes →
          ∃ u, Runs u n posted ∧ u.billing = { s.billing with
                session := some { ses with closing := true }
                close := some ⟨some n, .awaitHeld⟩ }
            ∧ u.power.iDem = 0 ∧ u.power.need = false ∧ u.power.charge = none
            ∧ u.relay = relay
            ∧ SameBut [.mem, .orders, .attn, .billing, .power, .relay, .insulation] s u
            ∧ exec c s = exec .closeSessionEndClose u))

/-- CLOSE_SESSION_END_CLOSE waits for step 2 and for the held record. Then the open interval closes END,
unwritten when empty, a pending table is adopted, SESSION_CLOSE is composed, the context is discarded
and the keepalive stops. With room both records enter the journal and the close ends OK with its
totals. A record that finds the journal full becomes the held record, one after it the waiting record,
and the close then waits for the journal. CLOSE_SESSION_COMPLETE ends a close whose records have reached
the journal. A detached close does all this without a result, and the end of an attached one drains the
billing queue (R32, R42, R70, R77, R86 to R88, R93, R101, R102, R108).
The records' meter at end is the one last taken in a report, log entry 19, and that a waiting close is
carried on by these two rows is log entry 20. -/
def Obligations.CloseSessionEndsAndCompletes : Prop :=
  ∀ (s : State) (slot : Option SlotNo), s.mem.wf = true →
    ((s.billing.close = some ⟨slot, .awaitRelay⟩
        ∨ s.billing.close = some ⟨slot, .awaitHeld⟩ ∧ s.billing.held.isSome = true) →
      exec .closeSessionEndClose s = .next s)
    ∧ (∀ (ses : Session) (i : Interval), s.billing.close = some ⟨slot, .awaitHeld⟩ →
      s.billing.session = some ses → s.billing.interval = some i →
      s.billing.held = none → s.billing.waiting = none →
      let empty := i.isEmpty
      let k : Nat := if empty then 1 else 2
      let cost := if empty then ses.cost
        else PerCat.zip (· + ·) ses.cost (PerCat.zip reportedCost i.cost ses.carries)
      let wh := if empty then ses.wh else PerCat.zip (· + ·) ses.wh i.wh
      let carries := if empty then ses.carries else PerCat.zip nextCarry i.cost ses.carries
      let flags := if empty then ses.flags else ses.flags.union i.flags
      let written := if empty then ses.written else ses.written + 1
      let seq := if empty then s.billing.nextSeq else s.billing.nextSeq + 1
      let table := s.billing.pendingTable.getD s.billing.table
      let after : Billing := { s.billing with
        session := none, interval := none, table := table, pendingTable := none
        defaultTable := s.billing.defaultTable && s.billing.pendingTable.isNone
        nextSeq := seq + 1, journalMeter := s.billing.meter, close := none }
      let r1 : Record :=
        { seq := s.billing.nextSeq, cause := .sessionEnd, flags := i.flags,
          sessionNo := ses.number, intervalNo := ses.intervalNo, start := i.start,
          stop := s.billing.partTime, bandStart := i.bandStart, bandEnd := s.billing.band,
          meterStart := i.meterStart, meterEnd := s.billing.meter,
          body := .interval i.wh (PerCat.zip reportedCost i.cost ses.carries) i.merges }
      let r2 : Record :=
        { seq := seq, cause := .none,
          flags := { flags with clockUnset := flags.clockUnset || !s.billing.clockSet },
          sessionNo := ses.number, intervalNo := written, start := ses.openTime,
          stop := s.billing.partTime, bandStart := ses.openBand, bandEnd := after.band,
          meterStart := if empty then s.billing.journalMeter else s.billing.meter,
          meterEnd := s.billing.meter, body := .sessionClose wh cost ses.id carries }
      let waits : Option Closing :=
        some ⟨slot, .awaitJournal ⟨ses.number, written, wh, cost, carries, seq⟩⟩
      let result : Ending := ⟨.ok, 0x00, beBytes 2 ses.number ++ beBytes 2 written
        ++ beBytes 2 seq.toNat ++ packedCarries carries ++ catBytes 3 wh ++ catBytes 3 cost⟩
      let powerStops (t : State) : Prop := t.power.keepalive = .stopped
        ∧ (s.power.keepalive ≠ .expired → t.power = { s.power with keepalive := .stopped }
          ∧ t.relay = s.relay ∧ t.insulation = s.insulation)
      (Room s k → slot = none ∨ s.queue .billing = [] →
        ∃ t, exec .closeSessionEndClose s = .next t
          ∧ (empty = true → RecordAt t s.billing.w r2)
          ∧ (empty = false → RecordAt t s.billing.w r1 ∧ RecordAt t (s.billing.w + 1) r2)
          ∧ t.billing = { after with
              w := s.billing.w + BitVec.ofNat 16 k
              flaggedMark := if r2.flags.flagged then some (s.billing.w + BitVec.ofNat 16 (k - 1))
                else s.billing.flaggedMark }
          ∧ powerStops t ∧ t.attn.journalNew = true ∧ OtherCauses [.orderDone, .journalNew] s t
          ∧ SameBut [.mem, .orders, .attn, .billing, .power, .relay, .insulation] s t
          ∧ (slot = none → t.orders = s.orders ∧ t.attn.orderDone = s.attn.orderDone
              ∧ ReadsSameBut (fun a => journalHeader a ∨ recordBytes s.billing.w a
                  ∨ (empty = false ∧ recordBytes (s.billing.w + 1) a)) s t)
          ∧ ∀ n p, slot = some n → s.slot n = ⟨.running, some p⟩ →
              Ended t n p result ∧ OtherSlots n s t
              ∧ ReadsSameBut (fun a => engineBytes n a ∨ journalHeader a
                  ∨ recordBytes s.billing.w a
                  ∨ (empty = false ∧ recordBytes (s.billing.w + 1) a)) s t)
      ∧ (s.billing.fill = 128 →
        ∃ t, exec .closeSessionEndClose s = .next t
          ∧ Holds t (if empty then r2 else r1)
          ∧ t.billing = { after with
              held := some (if empty then r2 else r1)
              waiting := if empty then none else some r2, close := waits }
          ∧ powerStops t ∧ ReadsSameBut (fun a => a = 0x000B) s t
          ∧ SameBut [.mem, .billing, .power, .relay, .insulation] s t)
      ∧ (empty = false → s.billing.fill = 127 → s.billing.hold = true →
        ∃ t, exec .closeSessionEndClose s = .next t
          ∧ RecordAt t s.billing.w r1 ∧ Holds t r2
          ∧ t.billing = { after with
              w := s.billing.w + 1, held := some r2, close := waits
              flaggedMark := if i.flags.flagged then some s.billing.w
                else s.billing.flaggedMark }
          ∧ powerStops t ∧ t.attn.journalNew = true ∧ OtherCauses [.journalNew] s t
          ∧ ReadsSameBut (fun a => journalHeader a ∨ recordBytes s.billing.w a) s t
          ∧ SameBut [.mem, .attn, .billing, .power, .relay, .insulation] s t))
    ∧ (∀ sum : CloseSummary, s.billing.close = some ⟨slot, .awaitJournal sum⟩ →
      (s.billing.outside sum.seq = true → exec .closeSessionComplete s = .next s)
      ∧ (s.billing.outside sum.seq = false →
        (slot = none → exec .closeSessionComplete s =
          .next (s.withBilling { s.billing with close := none }))
        ∧ ∀ n p, slot = some n → s.slot n = ⟨.running, some p⟩ → s.queue .billing = [] →
          ∃ t, exec .closeSessionComplete s = .next t
            ∧ Ended t n p ⟨.ok, 0x00, beBytes 2 sum.number ++ beBytes 2 sum.written
                ++ beBytes 2 sum.seq.toNat ++ packedCarries sum.carries ++ catBytes 3 sum.wh
                ++ catBytes 3 sum.cost⟩
            ∧ t.billing = { s.billing with close := none } ∧ OrderFrame n [.billing] s t))
    ∧ ∀ (n : SlotNo) (ph : ClosePhase), slot = some n → s.billing.close = some ⟨slot, ph⟩ →
      (∃ t, exec .closeSessionEndClose s = .next t ∧ Drained .billing s t)
      ∧ ∃ t, exec .closeSessionComplete s = .next t ∧ Drained .billing s t
        ∧ ∀ sum, ph = .awaitJournal sum → s.billing.outside sum.seq = false →
          n ∉ s.queue .billing → ∀ ph', t.billing.close ≠ some ⟨some n, ph'⟩

/-- CALIBRATE METER is BAD_PARAMETER for a channel above 3, and NOT_NOW with a session, a detached
close, an orphan interval or a held record. Otherwise, with room, the channel takes the clamped gain and offset with
residue 0 and loses UNCALIBRATED, and a CALIBRATION record is written (R36, R60, R61, R92).
The meter the record and the result show is the one last taken in a report, log entry 19. -/
def Obligations.CalibrateMeterSets : Prop :=
  ∀ (s : State) (n : SlotNo) (tag : Half) (channel : Byte) (gain : Word) (offset : Half),
    TakesAtOnce s n .billing →
    let c := Instr.calibrateMeter n tag channel gain offset
    let posted : Posted := ⟨tag, .calibrateMeter channel gain offset⟩
    let g := clampNat 0 131071 gain.toNat
    let q := clampInt (-2048) 2047 offset.toInt
    (4 ≤ channel.toNat → Refuses c s n posted .badParameter)
    ∧ (channel.toNat < 4 → s.billing.session.isSome = true ∨ s.billing.detachedClose = true
        ∨ s.billing.orphan.isSome = true ∨ s.billing.held.isSome = true →
      Refuses c s n posted .notNow)
    ∧ ∀ old : Channel,
      old = (match channel.toNat with
        | 0 => s.metering.inlet
        | 1 => s.metering.pack
        | 2 => s.metering.heater
        | _ => s.metering.auxc) →
      channel.toNat < 4 → s.billing.session = none → s.billing.detachedClose = false →
      s.billing.orphan = none → Room s 1 →
      let new : Channel := ⟨g, q, 0, false⟩
      let r : Record :=
        { seq := s.billing.nextSeq, cause := .none, flags := RecFlags.clear, sessionNo := 0,
          intervalNo := 0, start := s.billing.partTime, stop := s.billing.partTime,
          bandStart := s.billing.band, bandEnd := s.billing.band,
          meterStart := s.billing.journalMeter, meterEnd := s.billing.meter,
          body := .calibration channel.toNat old.gain g old.offset q old.uncalibrated
            s.metering.reverse }
      ∃ t, exec c s = .next t
        ∧ Ended t n posted ⟨.ok, if g = gain.toNat ∧ q = offset.toInt then 0x00 else 0x01,
            [channel] ++ beBytes 4 old.gain ++ beInt 2 old.offset ++ beBytes 4 g ++ beInt 2 q
              ++ [if old.uncalibrated then 0x01 else 0x00] ++ beBytes 4 s.metering.reverse
              ++ beBytes 4 s.billing.meter.toNat⟩
        ∧ t.metering = { s.metering with
            inlet := if channel = 0 then new else s.metering.inlet
            pack := if channel = 1 then new else s.metering.pack
            heater := if channel = 2 then new else s.metering.heater
            auxc := if channel = 3 then new else s.metering.auxc }
        ∧ RecordAt t s.billing.w r ∧ t.attn.journalNew = true
        ∧ t.billing = { s.billing with
            nextSeq := s.billing.nextSeq + 1, journalMeter := s.billing.meter,
            w := s.billing.w + 1 }
        ∧ ReadsSameBut (fun a => engineBytes n a ∨ journalHeader a ∨ recordBytes s.billing.w a) s t
        ∧ OtherSlots n s t ∧ OtherCauses [.orderDone, .journalNew] s t
        ∧ SameBut [.mem, .orders, .attn, .billing, .metering] s t

/-- SET JOURNAL LEVELS is BAD_PARAMETER when the resume level is not at least 8 below the clamped
halt level. Otherwise both levels are in force and in the header and the hold is tested again:
it begins at or above the halt level, with the HOLD record of an open interval, and ends at or
below the resume level. With the journal full the HOLD record becomes the held record, and with a
record held the interval goes on merged (R36, R98 to R101, R103).
The HOLD record's meter at end is the one last taken in a report, log entry 19. -/
def Obligations.SetJournalLevelsSets : Prop :=
  ∀ (s : State) (n : SlotNo) (tag : Half) (halt resume : Byte), TakesAtOnce s n .billing →
    let c := Instr.setJournalLevels n tag halt resume
    let posted : Posted := ⟨tag, .setJournalLevels halt resume⟩
    let h := clampNat 8 124 halt.toNat
    let note : Byte := if h = halt.toNat then 0x00 else 0x01
    let begins := s.billing.hold = false ∧ h ≤ s.billing.fill
    let ends := s.billing.hold = true ∧ s.billing.fill ≤ resume.toNat
    (h < resume.toNat + 8 → Refuses c s n posted .badParameter)
    ∧ (resume.toNat + 8 ≤ h → ¬begins →
      let hold := s.billing.hold && !decide ends
      ∃ t, exec c s = .next t
        ∧ Ended t n posted ⟨.ok, note, beBytes 1 h ++ [resume] ++ beBytes 1 s.billing.fill
            ++ [if hold then 0x01 else 0x00]⟩
        ∧ t.billing = { s.billing with halt := h, resume := resume.toNat, hold := hold }
        ∧ t.mem.read 0x0008 = BitVec.ofNat 8 h ∧ t.mem.read 0x0009 = resume
        ∧ ReadsSameBut (fun a => engineBytes n a ∨ a = 0x0008 ∨ a = 0x0009) s t
        ∧ OtherSlots n s t ∧ t.attn.journalHalt = (s.attn.journalHalt && !decide ends)
        ∧ OtherCauses [.orderDone, .journalHalt] s t
        ∧ SameBut [.mem, .orders, .attn, .billing] s t)
    ∧ (resume.toNat + 8 ≤ h → begins →
      (s.billing.interval = none →
        ∃ t, exec c s = .next t
          ∧ Ended t n posted ⟨.ok, note, beBytes 1 h ++ [resume] ++ beBytes 1 s.billing.fill
              ++ [0x01]⟩
          ∧ t.billing = { s.billing with halt := h, resume := resume.toNat, hold := true }
          ∧ t.attn.journalHalt = true ∧ t.power.iDem = 0 ∧ t.power.need = false
          ∧ SameBut [.mem, .orders, .attn, .billing, .power, .relay, .insulation] s t)
      ∧ ∀ (ses : Session) (i : Interval), s.billing.session = some ses →
        s.billing.interval = some i →
        let ended (fill : Nat) : Ending :=
          ⟨.ok, note, beBytes 1 h ++ [resume] ++ beBytes 1 fill ++ [0x01]⟩
        let r : Record :=
          { seq := s.billing.nextSeq, cause := .hold, flags := i.flags, sessionNo := ses.number,
            intervalNo := ses.intervalNo, start := i.start, stop := s.billing.partTime,
            bandStart := i.bandStart, bandEnd := s.billing.band, meterStart := i.meterStart,
            meterEnd := s.billing.meter,
            body := .interval i.wh (PerCat.zip reportedCost i.cost ses.carries) i.merges }
        let held : Billing := { s.billing with halt := h, resume := resume.toNat, hold := true }
        let cut : Billing := { held with
          nextSeq := s.billing.nextSeq + 1
          journalMeter := s.billing.meter
          interval := some
            { start := s.billing.partTime, bandStart := s.billing.band,
              meterStart := s.billing.meter, wh := ⟨0, 0, 0⟩, cost := ⟨0, 0, 0⟩, merges := 0,
              flags := { RecFlags.clear with
                clockUnset := !s.billing.clockSet, tariffDefault := s.billing.defaultTable } }
          session := some { ses with
            carries := PerCat.zip nextCarry i.cost ses.carries
            wh := PerCat.zip (· + ·) ses.wh i.wh
            cost := PerCat.zip (· + ·) ses.cost (PerCat.zip reportedCost i.cost ses.carries)
            flags := ses.flags.union i.flags
            intervalNo := nextCount ses.intervalNo
            written := ses.written + 1 } }
        ∃ t, exec c s = .next t
          ∧ t.attn.journalHalt = true ∧ t.power.iDem = 0 ∧ t.power.need = false
          ∧ SameBut [.mem, .orders, .attn, .billing, .power, .relay, .insulation] s t
          ∧ (s.billing.held = none → s.billing.fill < 128 →
            Ended t n posted (ended (s.billing.fill + 1))
              ∧ RecordAt t s.billing.w r ∧ t.attn.journalNew = true
              ∧ t.billing = { cut with
                  w := s.billing.w + 1
                  flaggedMark := if i.flags.flagged then some s.billing.w
                    else s.billing.flaggedMark })
          ∧ (s.billing.held = none → s.billing.fill = 128 →
            Ended t n posted (ended 128) ∧ Holds t r
              ∧ t.attn.journalNew = s.attn.journalNew
              ∧ t.billing = { cut with held := some r })
          ∧ (s.billing.held.isSome = true →
            Ended t n posted (ended s.billing.fill)
              ∧ t.attn.journalNew = s.attn.journalNew
              ∧ t.billing = { held with interval := some { i with
                  flags := { i.flags with
                    merged := true
                    spansBands := i.flags.spansBands || decide (s.billing.band ≠ i.bandStart) }
                  merges := min 65535 (i.merges + 1) } }))

/-! ## Metering and pricing -/

/-- A metering frame. Stage 1 calibrates with carried residues, a counted inlet energy beyond
7 200 000 mJ is that limit, stage 3's shares and E_in enter the accumulators, whole Wh leave them,
reverse energy enters the reverse register, and the readings and the report follow. A frame that
INFB never showed closed counts no inlet energy (R44 to R57). The filter of R110 takes its inlet
voltage, the lowest phase above 500 dV, and a current wait ends below 5 dA: at OPEN, or in a new close
for a standing need, where INFB already shows open (R174, R175).
That a value beyond its range is delivered as the nearer end is the model's, log entry 21. -/
def Obligations.FrameMetered : Prop :=
  (∀ phases : List Phase,
    (∀ x : Nat, 0 < x → (inletVoltage phases = x ↔
      (∃ p ∈ phases, p.voltage = x) ∧ 500 < x
        ∧ ∀ p ∈ phases, 500 < p.voltage → x ≤ p.voltage))
    ∧ (inletVoltage phases = 0 ↔ ∀ p ∈ phases, p.voltage ≤ 500)
    ∧ (∀ p ∈ phases, p.current ≤ inletCurrent phases)
    ∧ (phases ≠ [] → ∃ p ∈ phases, p.current = inletCurrent phases))
  ∧ ∀ (s : State) (f : Frame),
    let m := s.metering
    let raw (c : RawChannel) : Int := clampInt (-8388607) 8388607 c.energy
    let past (c : RawChannel) : Bool := c.overrange || decide (raw c ≠ c.energy)
    let fixed (c : Channel) (r : RawChannel) : Int :=
      raw r * c.gain + c.offset * 65536 + c.residue
    let rest (c : Channel) (r : RawChannel) : Channel :=
      { c with residue := (fixed c r % 65536).toNat }
    let eRaw : Int := fixed m.inlet f.inlet / 65536
    let limited : Bool := decide (7200000 < eRaw)
    let eIn : Nat := if m.closedSeen then (if limited then 7200000 else eRaw.toNat) else 0
    let w : PerCat Nat := ⟨(fixed m.pack f.pack / 65536).toNat,
      (fixed m.heater f.heater / 65536).toNat, (fixed m.auxc f.aux / 65536).toNat⟩
    let sums : PerCat Nat := PerCat.zip (· + ·) m.acc (apportion eIn w)
    let dc : Metering := { m with
      pack := rest m.pack f.pack, heater := rest m.heater f.heater, auxc := rest m.auxc f.aux,
      closedSeen := s.pins.infb,
      readings :=
        { inletVoltage := min 3000 (inletVoltage f.phases),
          inletCurrent := min 800 (inletCurrent f.phases),
          packVoltage := (clampInt 0 9000 f.packVoltage).toNat,
          packCurrent := clampInt (-10000) 10000 f.packCurrent, inletPower := eIn / 100 } }
    let v := min 3000 (inletVoltage f.phases)
    let low := min 5 (s.power.lowCount + 1)
    let filtered : Power := if v < 1800 then
        { s.power with lowCount := low, supplyLow := s.power.supplyLow || decide (low = 5) }
      else if v < 1950 then { s.power with lowCount := 0 }
      else { s.power with lowCount := 0, supplyLow := false }
    ∃ t, exec (.meteringFrame f) s = .next t
      ∧ SameBut [.metering, .power, .relay, .insulation, .billing] s t
      ∧ (m.closedSeen = false → t.metering = { dc with
          reports := m.reports ++ [⟨false, 0, ⟨0, 0, 0⟩, 0, m.mWh, false, false, false⟩] })
      ∧ (m.closedSeen = true → t.metering = { dc with
          inlet := if limited then { m.inlet with residue := 0 } else rest m.inlet f.inlet
          acc := ⟨sums.battery % 3600000, sums.heating % 3600000, sums.aux % 3600000⟩
          wh := ⟨m.wh.battery + BitVec.ofNat 32 (sums.battery / 3600000),
            m.wh.heating + BitVec.ofNat 32 (sums.heating / 3600000),
            m.wh.aux + BitVec.ofNat 32 (sums.aux / 3600000)⟩
          accM := (m.accM + eIn) % 3600000
          mWh := m.mWh + BitVec.ofNat 32 ((m.accM + eIn) / 3600000)
          reverse := if eRaw < 0 then min 4294967295 (m.reverse + eRaw.natAbs) else m.reverse
          reports := m.reports ++
            [{ counted := true
               eIn := eIn
               carries := ⟨sums.battery / 3600000, sums.heating / 3600000, sums.aux / 3600000⟩
               meterCarries := (m.accM + eIn) / 3600000
               mWh := m.mWh + BitVec.ofNat 32 ((m.accM + eIn) / 3600000)
               reverse := decide (eRaw < 0)
               overrange := past f.inlet || past f.pack || past f.heater || past f.aux || limited
               uncalibrated := m.inlet.uncalibrated || m.pack.uncalibrated
                 || m.heater.uncalibrated || m.auxc.uncalibrated }] })
      ∧ (s.power.supplyLow = true ∨ filtered.supplyLow = false → t.power = filtered)
      ∧ (s.power.supplyLow = false → filtered.supplyLow = true →
          t.power.supplyLow = true ∧ t.power.iDem = 0 ∧ t.power.need = false)
      ∧ (s.relay.state ≠ .currentWait ∨ 5 ≤ min 800 (inletCurrent f.phases) →
          t.relay.state = s.relay.state ∧ t.billing = s.billing)
      ∧ (s.relay.state = .currentWait → min 800 (inletCurrent f.phases) < 5 →
          (s.pins.infb = true → t.relay = ⟨.release, some 0, s.relay.skips⟩
            ∧ t.billing = s.billing)
          ∧ (s.pins.infb = false →
            t.relay = (if t.power.need then ⟨.closing, some 0, false⟩ else ⟨.opened, none, false⟩)
            ∧ t.billing = (match s.billing.close with
              | some ⟨n, .awaitRelay⟩ => { s.billing with close := some ⟨n, .awaitHeld⟩ }
              | _ => s.billing)))
      ∧ (s.power.supplyLow = true ∨ filtered.supplyLow = false → t.power.need = s.power.need)

/-- R53 and R54: each share is a floor of its weight's part of E_in, the whole remainder goes to the
first largest weight in the order BATTERY, HEATING, AUX, the shares sum to E_in, a category of
weight 0 receives 0, and with no weight the whole goes to AUX. -/
def Obligations.SharesSumToInlet : Prop :=
  ∀ (eIn : Nat) (w : PerCat Nat),
    let total := w.battery + w.heating + w.aux
    let a := apportion eIn w
    let b : PerCat Nat :=
      ⟨eIn * w.battery / total, eIn * w.heating / total, eIn * w.aux / total⟩
    let r := eIn - (b.battery + b.heating + b.aux)
    a.battery + a.heating + a.aux = eIn
      ∧ (eIn = 0 → a = ⟨0, 0, 0⟩)
      ∧ (total = 0 → a = ⟨0, 0, eIn⟩)
      ∧ (0 < total → r ≤ 2 ∧ b.battery + b.heating + b.aux ≤ eIn
        ∧ a = (if w.heating ≤ w.battery ∧ w.aux ≤ w.battery then ⟨b.battery + r, b.heating, b.aux⟩
            else if w.aux ≤ w.heating then ⟨b.battery, b.heating + r, b.aux⟩
            else ⟨b.battery, b.heating, b.aux + r⟩)
        ∧ (w.battery = 0 → a.battery = 0) ∧ (w.heating = 0 → a.heating = 0)
        ∧ (w.aux = 0 → a.aux = 0))

/-- A frame report taken: M_Wh is kept, a counted report's carries are priced into the open interval,
or into the orphan interval, which opens first where none is, at the price of the band in force;
a report of a frame that did not count closes the orphan interval RELAY: unwritten when empty, merged
while a record is held, into the held record with the journal full, and else written. A write that
brings the fill to the halt level begins the hold (R71, R72, R83 to R85, R93, R98, R101, R103).
That the row does nothing without a report handed over is the model's, log entry 7. -/
def Obligations.ReportPriced : Prop :=
  (∀ (t : Tariff) (x : Nat),
    (∀ k b, t.bands[k]? = some b → b.start ≤ x → k ≤ t.bandAt x)
      ∧ (t.bandAt x = 0 ∨ ∃ b, t.bands[t.bandAt x]? = some b ∧ b.start ≤ x))
  ∧ ∀ s : State,
    (s.metering.reports = [] → exec .frameReport s = .next s)
    ∧ ∀ (r : FrameReport) (rest : List FrameReport), s.metering.reports = r :: rest →
      let band := if s.billing.clockSet then
          s.billing.table.bandAt (s.billing.partTime.toNat / 60 % 1440)
        else 0
      let price := match s.billing.table.bands[band]? with
        | some b => b.price
        | none => 0
      let priced (i : Interval) : Interval := { i with
        wh := ⟨i.wh.battery + r.carries.battery, i.wh.heating + r.carries.heating,
          i.wh.aux + r.carries.aux⟩
        cost := ⟨i.cost.battery + r.carries.battery * price,
          i.cost.heating + r.carries.heating * price, i.cost.aux + r.carries.aux * price⟩
        flags := { i.flags with
          reverse := i.flags.reverse || r.reverse
          overrange := i.flags.overrange || r.overrange
          uncalibrated := i.flags.uncalibrated || r.uncalibrated } }
      let taken : Metering := { s.metering with reports := rest }
      (∀ i, r.counted = true → s.billing.interval = some i →
        exec .frameReport s = .next ((s.withMetering taken).withBilling { s.billing with
          meter := r.mWh, interval := some (priced i) }))
      ∧ (∀ o, r.counted = true → s.billing.interval = none → s.billing.orphan = some o →
        exec .frameReport s = .next ((s.withMetering taken).withBilling { s.billing with
          meter := r.mWh, orphan := some { o with interval := priced o.interval } }))
      ∧ (r.counted = true → s.billing.interval = none → s.billing.orphan = none →
        exec .frameReport s = .next ((s.withMetering taken).withBilling { s.billing with
          meter := r.mWh
          orphan := some ⟨priced
            { start := s.billing.partTime, bandStart := band, meterStart := s.billing.journalMeter,
              wh := ⟨0, 0, 0⟩, cost := ⟨0, 0, 0⟩, merges := 0,
              flags := { RecFlags.clear with
                clockUnset := !s.billing.clockSet, tariffDefault := s.billing.defaultTable } },
            ⟨0, 0, 0⟩⟩ }))
      ∧ (r.counted = false → s.billing.orphan = none →
        exec .frameReport s =
          .next ((s.withMetering taken).withBilling { s.billing with meter := r.mWh }))
      ∧ (∀ o, r.counted = false → s.billing.orphan = some o → s.billing.held.isSome = true →
        exec .frameReport s = .next ((s.withMetering taken).withBilling { s.billing with
          meter := r.mWh, orphan := some { o with interval := { o.interval with
            flags := { o.interval.flags with
              merged := true
              spansBands := o.interval.flags.spansBands
                || decide (band ≠ o.interval.bandStart) }
            merges := min 65535 (o.interval.merges + 1) } } }))
      ∧ (∀ o, r.counted = false → s.billing.orphan = some o → s.billing.held = none →
        o.interval.isEmpty = true →
        exec .frameReport s = .next ((s.withMetering taken).withBilling { s.billing with
          meter := r.mWh, orphan := none }))
      ∧ (∀ o, r.counted = false → s.billing.orphan = some o → s.billing.held = none →
        o.interval.isEmpty = false → s.billing.fill ≤ 128 → s.mem.wf = true →
        let ro : Record :=
          { seq := s.billing.nextSeq, cause := .relay, flags := o.interval.flags, sessionNo := 0,
            intervalNo := 0, start := o.interval.start, stop := s.billing.partTime,
            bandStart := o.interval.bandStart, bandEnd := band,
            meterStart := s.billing.journalMeter, meterEnd := r.mWh,
            body := .orphan o.interval.wh (PerCat.zip reportedCost o.interval.cost o.carries)
              (PerCat.zip nextCarry o.interval.cost o.carries) o.interval.merges }
        let after : Billing := { s.billing with
          meter := r.mWh, journalMeter := r.mWh, nextSeq := s.billing.nextSeq + 1, orphan := none }
        let written : Billing := { after with
          w := s.billing.w + 1
          flaggedMark := if o.interval.flags.flagged then some s.billing.w
            else s.billing.flaggedMark }
        let begins := s.billing.hold = false ∧ s.billing.halt ≤ s.billing.fill + 1
        ∃ t, exec .frameReport s = .next t ∧ t.metering = taken
          ∧ (s.billing.fill = 128 → Holds t ro ∧ t.billing = { after with held := some ro }
              ∧ ReadsSameBut (fun a => a = 0x000B) s t ∧ SameBut [.mem, .metering, .billing] s t)
          ∧ (s.billing.fill < 128 → RecordAt t s.billing.w ro ∧ t.attn.journalNew = true)
          ∧ (s.billing.fill < 128 → ¬begins ∨ s.billing.interval = none →
              ReadsSameBut (fun a => journalHeader a ∨ recordBytes s.billing.w a) s t)
          ∧ (s.billing.fill < 128 → ¬begins → t.billing = written
              ∧ OtherCauses [.journalNew] s t ∧ SameBut [.mem, .attn, .metering, .billing] s t)
          ∧ (s.billing.fill < 128 → begins → s.billing.interval = none →
              t.billing = { written with hold := true } ∧ t.attn.journalHalt = true
              ∧ t.power.iDem = 0 ∧ t.power.need = false
              ∧ OtherCauses [.journalNew, .journalHalt] s t
              ∧ SameBut [.mem, .attn, .metering, .billing, .power, .relay, .insulation] s t))

/-- The cost reported for an accumulator and a carry rounds half up, and the carry that remains lies
in −500..499 and keeps the two together exact (R73). -/
def Obligations.CostRoundsHalfUp : Prop :=
  ∀ (acc : Nat) (carry : Int), -500 ≤ carry → carry ≤ 499 →
    (1000 * (reportedCost acc carry : Int) + nextCarry acc carry = (acc : Int) + carry)
      ∧ -500 ≤ nextCarry acc carry ∧ nextCarry acc carry ≤ 499

/-- PART_TIME_TICK advances part time by one second. At a minute start the open interval closes
TARIFF, BAND or BOUNDARY where one is due: written and begun again, inherited when empty, or merged
while a record is held; without an interval the orphan interval closes RELAY at a multiple of L.
With the journal full the record becomes the held record. A write that brings the fill to the halt
level begins the hold, which closes the new interval HOLD in turn (R63, R64, R70, R75 to R77, R82,
R93, R98, R101, R103).
The records' meter at end is the one last taken in a report, log entry 19. -/
def Obligations.SecondAdvances : Prop :=
  ∀ s : State,
    let now := s.billing.partTime + 1
    let b : Billing := { s.billing with partTime := now, secondPhase := 0 }
    let x := now.toNat / 60 % 1440
    let onL := x % s.billing.table.length = 0
    let onBand := s.billing.clockSet = true ∧ ∃ d ∈ s.billing.table.bands, d.start = x
    (now.toNat % 60 ≠ 0 → exec .partTimeTick s = .next (s.withBilling b))
    ∧ (now.toNat % 60 = 0 →
      (¬onL → ¬onBand → exec .partTimeTick s = .next (s.withBilling b))
      ∧ (s.billing.interval = none → s.billing.orphan = none →
        exec .partTimeTick s = .next (s.withBilling b))
      ∧ (∀ o, s.billing.interval = none → s.billing.orphan = some o → ¬onL → onBand →
        exec .partTimeTick s = .next (s.withBilling { b with orphan := some { o with
          interval := { o.interval with flags := { o.interval.flags with
            spansBands := true } } } }))
      ∧ (∀ o, s.billing.interval = none → s.billing.orphan = some o → onL →
        o.interval.isEmpty = true → s.billing.held = none →
        exec .partTimeTick s = .next (s.withBilling { b with orphan := none }))
      ∧ (∀ o, s.billing.interval = none → s.billing.orphan = some o → onL →
        s.billing.held.isSome = true →
        exec .partTimeTick s = .next (s.withBilling { b with orphan := some { o with
          interval := { o.interval with
            flags := { o.interval.flags with
              merged := true
              spansBands := o.interval.flags.spansBands
                || decide (b.band ≠ o.interval.bandStart) }
            merges := min 65535 (o.interval.merges + 1) } } }))
      ∧ (∀ o, s.billing.interval = none → s.billing.orphan = some o → onL →
        o.interval.isEmpty = false → Room s 1 → s.mem.wf = true →
        ∃ t, exec .partTimeTick s = .next t ∧ t.billing.orphan = none
          ∧ t.billing.w = s.billing.w + 1 ∧ t.attn.journalNew = true
          ∧ RecordAt t s.billing.w
              { seq := s.billing.nextSeq, cause := .relay, flags := o.interval.flags,
                sessionNo := 0, intervalNo := 0, start := o.interval.start, stop := now,
                bandStart := o.interval.bandStart, bandEnd := s.billing.band,
                meterStart := s.billing.journalMeter, meterEnd := s.billing.meter,
                body := .orphan o.interval.wh (PerCat.zip reportedCost o.interval.cost o.carries)
                  (PerCat.zip nextCarry o.interval.cost o.carries) o.interval.merges }
          ∧ SameBut [.mem, .attn, .billing] s t)
      ∧ ∀ (ses : Session) (i : Interval), s.billing.session = some ses →
        s.billing.interval = some i → onL ∨ onBand →
        let adopts := s.billing.pendingTable.isSome && decide onL
        let after : Billing := if adopts then
            { b with table := s.billing.pendingTable.getD b.table, pendingTable := none,
                     defaultTable := false }
          else b
        let cause : CloseCause := if adopts = true then .tariff
          else if s.billing.clockSet && s.billing.table.startsBand x then .band else .boundary
        let fresh (start meter : Word) : Interval :=
          { start := start, bandStart := after.band, meterStart := meter, wh := ⟨0, 0, 0⟩,
            cost := ⟨0, 0, 0⟩, merges := 0,
            flags := { RecFlags.clear with
              clockUnset := !s.billing.clockSet, tariffDefault := after.defaultTable } }
        (s.billing.held.isSome = true →
          exec .partTimeTick s = .next (s.withBilling { after with interval := some { i with
            flags := { i.flags with
              merged := true
              spansBands := i.flags.spansBands || adopts || decide (after.band ≠ i.bandStart) }
            merges := min 65535 (i.merges + 1) } }))
        ∧ (s.billing.held = none → i.isEmpty = true →
          exec .partTimeTick s = .next (s.withBilling { after with
            interval := some (fresh i.start i.meterStart) }))
        ∧ (s.billing.held = none → i.isEmpty = false → s.billing.fill ≤ 128 → s.mem.wf = true →
          let r : Record :=
            { seq := s.billing.nextSeq, cause := cause, flags := i.flags,
              sessionNo := ses.number, intervalNo := ses.intervalNo, start := i.start,
              stop := now, bandStart := i.bandStart, bandEnd := s.billing.band,
              meterStart := i.meterStart, meterEnd := s.billing.meter,
              body := .interval i.wh (PerCat.zip reportedCost i.cost ses.carries) i.merges }
          let cut : Session := { ses with
            carries := PerCat.zip nextCarry i.cost ses.carries
            wh := PerCat.zip (· + ·) ses.wh i.wh
            cost := PerCat.zip (· + ·) ses.cost (PerCat.zip reportedCost i.cost ses.carries)
            flags := ses.flags.union i.flags
            intervalNo := nextCount ses.intervalNo
            written := ses.written + 1 }
          let next : Billing := { after with
            interval := some (fresh now s.billing.meter)
            session := some cut
            nextSeq := s.billing.nextSeq + 1
            journalMeter := s.billing.meter }
          let begins := s.billing.hold = false ∧ s.billing.halt ≤ s.billing.fill + 1
          ∃ t, exec .partTimeTick s = .next t
            ∧ (s.billing.fill = 128 → Holds t r ∧ t.billing = { next with held := some r }
                ∧ ReadsSameBut (fun a => a = 0x000B) s t ∧ SameBut [.mem, .billing] s t)
            ∧ (s.billing.fill < 128 → RecordAt t s.billing.w r ∧ t.attn.journalNew = true)
            ∧ (s.billing.fill < 128 → ¬begins →
                t.billing = { next with
                  w := s.billing.w + 1
                  flaggedMark := if i.flags.flagged then some s.billing.w
                    else s.billing.flaggedMark }
                ∧ OtherCauses [.journalNew] s t
                ∧ ReadsSameBut (fun a => journalHeader a ∨ recordBytes s.billing.w a) s t
                ∧ SameBut [.mem, .attn, .billing] s t)
            ∧ (s.billing.fill < 127 → begins →
                let f := fresh now s.billing.meter
                RecordAt t (s.billing.w + 1) { r with
                  seq := s.billing.nextSeq + 1, cause := .hold, flags := f.flags,
                  intervalNo := cut.intervalNo, start := now, bandStart := after.band,
                  bandEnd := after.band, meterStart := s.billing.meter,
                  body := .interval ⟨0, 0, 0⟩
                    (PerCat.zip reportedCost ⟨0, 0, 0⟩ cut.carries) 0 }
                ∧ t.billing = { next with
                    hold := true
                    nextSeq := s.billing.nextSeq + 2
                    w := s.billing.w + 2
                    session := some { cut with
                      carries := PerCat.zip nextCarry ⟨0, 0, 0⟩ cut.carries
                      cost := PerCat.zip (· + ·) cut.cost
                        (PerCat.zip reportedCost ⟨0, 0, 0⟩ cut.carries)
                      flags := cut.flags.union f.flags
                      intervalNo := nextCount cut.intervalNo
                      written := cut.written + 1 }
                    flaggedMark := if f.flags.flagged then some (s.billing.w + 1)
                      else if i.flags.flagged then some s.billing.w
                      else s.billing.flaggedMark }
                ∧ t.attn.journalHalt = true ∧ t.power.iDem = 0 ∧ t.power.need = false
                ∧ OtherCauses [.journalNew, .journalHalt] s t
                ∧ SameBut [.mem, .attn, .billing, .power, .relay, .insulation] s t)))

/-! ## The power manager's events -/

/-- A control period forms its gates and inputs, splits the effective grant between heater and
charger in the policy's order, forms the target, slews the demand, and forms the heater power and
the duty; then a CHARGE's CV update, state and overvoltage count follow, a full CHARGE ends FULL and
a third overvoltage period reports PACK_OVERVOLTAGE (R113 to R126). -/
def Obligations.ControlPeriodAllocates : Prop :=
  ∀ s : State,
    let p := s.power
    let st := p.stage
    let v := s.metering.readings.packVoltage
    let gates := s.gates.all
    let g := if gates then p.effGrant else 0
    let ask (w : Nat) : Nat := (w * 1000 + st.eta - 1) / st.eta
    let demand := match s.heating.plan with
      | some pl => min pl.demand st.heaterMax
      | none => 0
    let fromSupply : Bool := match s.heating.plan with
      | some pl => pl.source != .pack
      | none => false
    let fromPack : Bool := match s.heating.plan with
      | some pl => pl.source != .supply
      | none => false
    let heatFirst : Bool := match s.heating.plan with
      | some pl => pl.policy == .heatFirst
      | none => true
    let cap := match p.charge with
      | some c => min (min s.heating.acceptance c.maxCurrent) (min c.cvCap st.stageMax)
      | none => 0
    let hAsk := if fromSupply then ask demand else 0
    let cAsk := ask (cap * v / 100)
    let hIn := if heatFirst then min hAsk g else min hAsk (g - min cAsk g)
    let cIn := if heatFirst then min cAsk (g - min hAsk g) else min cAsk g
    let iTgt := if v < 1000 then 0 else min ((cIn + hIn) * st.eta / (10 * v)) st.stageMax
    let iDem := if s.relay.state ≠ .closed then 0
      else if iTgt < p.iDem then iTgt
      else if s.insulation.quiet then p.iDem
      else min (p.iDem + st.sUp) iTgt
    let off := !s.trips.set.isEmpty || s.heating.packGuard || s.heating.plateGuard
      || s.heating.plateSensorGuard || s.heating.sensorLoss
    let supplyFed := min (hIn * st.eta / 1000) (iDem * v / 100)
    let packFed := if fromPack && s.pins.pkon && decide (cIn = 0) && !off then demand - supplyFed
      else 0
    let dutyTgt := if v < 1000 ∨ supplyFed + packFed = 0 then 0
      else min 1000 ((supplyFed + packFed) * st.rH * 10000 / (v * v))
    let duty := if off then 0
      else if dutyTgt < p.duty then dutyTgt
      else if s.insulation.quiet then p.duty
      else min dutyTgt (p.duty + 50)
    let need := gates && decide (0 < iTgt)
    let last : PeriodValues := ⟨p.effGrant, hIn, cIn, iTgt, iDem, duty, supplyFed + packFed⟩
    let update (c : Charge) : Charge :=
      let x := if gates = true ∧ c.vLim ≤ v then min c.cvCap (cIn * st.eta / (10 * v)) - 5
        else c.cvCap
      let state : ChargeState := if gates = false then .gated
        else if c.vLim ≤ v then .tapering
        else if iDem < iTgt then .ramping
        else .steady
      { c with
        cvCap := x, state := state, lastState := state
        ovCount := if c.vLim + 100 ≤ v then min 3 (c.ovCount + 1) else 0 }
    let full (c : Charge) : Prop := gates = true ∧ c.vLim ≤ v ∧ (update c).cvCap < c.endCurrent
    let third (c : Charge) : Prop := (update c).ovCount = 3 ∧ c.ovCount ≠ 3
    hIn + cIn ≤ p.effGrant
    ∧ ((∀ c, p.charge = some c → ¬full c ∧ ¬third c) →
      ∃ t, exec .controlPeriod s = .next t
        ∧ SameBut [.power, .relay, .insulation, .heating] s t
        ∧ t.power = { p with
            need := need, iDem := iDem, duty := duty, supplyFed := supplyFed,
            packFed := packFed, lastV := v, last := last, charge := p.charge.map update }
        ∧ t.heating = { s.heating with plan := s.heating.plan.map fun pl => { pl with
            blockedCount := if supplyFed + packFed = 0 ∧ 0 < pl.demand then
                min 10 (pl.blockedCount + 1)
              else 0 } }
        ∧ t.relay = (if need = true then
              (match s.relay.state with
                | .opened => if s.pins.infb then ⟨.closed, none, false⟩ else ⟨.closing, some 0, false⟩
                | .closed => ⟨.closed, none, s.relay.skips⟩
                | _ => s.relay)
            else if p.need = true ∧ s.relay.state = .closed then ⟨.closed, some 0, s.relay.skips⟩
            else s.relay)
        ∧ t.insulation = { s.insulation with half := s.insulation.half.map fun h => { h with
            dutyLow := min (min h.dutyLow p.duty) duty
            dutyHigh := max (max h.dutyHigh p.duty) duty
            demLow := min h.demLow iDem, demHigh := max h.demHigh iDem } })
    ∧ (∀ c, p.charge = some c → full c → ¬third c → s.mem.wf = true →
      ∃ t, exec .controlPeriod s = .next t ∧ t.power.charge = none
        ∧ (t.slot c.slot).state = .done
        ∧ t.mem.read (slotAddr c.slot + 32) = 0x0A ∧ t.mem.read (slotAddr c.slot + 33) = 0x10
        ∧ t.attn.orderDone = true ∧ t.power.iDem = iDem ∧ t.power.last = last
        ∧ ReadsSameBut (engineBytes c.slot) s t ∧ OtherSlots c.slot s t
        ∧ OtherCauses [.orderDone] s t)
    ∧ (∀ c, p.charge = some c → third c → s.trips.set.packOvervoltage = false →
      ∃ t, exec .controlPeriod s = .next t ∧ t.trips.set.packOvervoltage = true
        ∧ t.power.charge = none ∧ t.power.iDem = 0 ∧ t.power.duty = 0
        ∧ (t.slot c.slot).state = .done)

/-- KEEPALIVE_HALF_PERIOD reports GRANT_DUE once for each start or renewal when the count has reached
half the period, and KEEPALIVE_EXPIRY makes the keepalive EXPIRED when it has reached the period, with
the fallback in force at once. At a lower count, or without a running keepalive, neither event arises
(R106, R109, R112).
That the rows are the events of a count which the idle steps move is the model's, log entry 2. -/
def Obligations.KeepaliveEvents : Prop :=
  ∀ s : State,
    (∀ count, s.power.keepalive = .alive count false → 5 * s.power.period ≤ count →
      ∃ t, exec .keepaliveHalfPeriod s = .next t ∧ SameBut [.power, .attn] s t
        ∧ t.attn.grantDue = true ∧ OtherCauses [.grantDue] s t
        ∧ t.power = { s.power with keepalive := .alive count true })
    ∧ ((∀ count, s.power.keepalive = .alive count false → count < 5 * s.power.period) →
      exec .keepaliveHalfPeriod s = .next s)
    ∧ (∀ count half, s.power.keepalive = .alive count half → 10 * s.power.period ≤ count →
      ∃ t, exec .keepaliveExpiry s = .next t ∧ SameBut [.power, .relay, .insulation] s t
        ∧ t.power.keepalive = .expired
        ∧ t.power.effGrant = (if s.power.supplyLow then 0 else s.power.fallback)
        ∧ (s.power.effGrant = 0 ∨ 0 < t.power.effGrant →
            t.power = { s.power with keepalive := .expired } ∧ SameBut [.power] s t)
        ∧ (0 < s.power.effGrant → t.power.effGrant = 0 → t.power.iDem = 0
            ∧ t.power.need = false ∧ DrivesOnly s t))
    ∧ ((∀ count half, s.power.keepalive = .alive count half → count < 10 * s.power.period) →
      exec .keepaliveExpiry s = .next s)

/-- A step with no command waiting is one tick of the 100 ms timebase: the counts and timers that run
advance up to their limits, and nothing else changes (R63, R106, R122, R140, R151, R162, R164, R172).
While the result is fresh its age waits at 10 × the window for FRESHNESS_EXPIRY.
The model's choice, log entry 2. -/
def Obligations.IdleStepCounts : Prop :=
  ∀ s : State, s.pending = [] →
    let up (seconds tenths : Nat) : Nat × Nat :=
      if tenths < 9 then (seconds, tenths + 1) else (seconds + 1, 0)
    ∃ t, step s = .next t ∧ SameBut [.billing, .power, .heating, .insulation, .relay] s t
      ∧ t.billing = { s.billing with secondPhase := min 10 (s.billing.secondPhase + 1) }
      ∧ t.power = { s.power with
          keepalive := (match s.power.keepalive with
            | .alive count half => .alive (min (10 * s.power.period) (count + 1)) half
            | k => k)
          charge := s.power.charge.map fun c => { c with
            seconds := (up c.seconds c.tenths).1, tenths := (up c.seconds c.tenths).2 } }
      ∧ t.heating = { s.heating with plan := s.heating.plan.map fun p => { p with
          seconds := (up p.seconds p.tenths).1, tenths := (up p.seconds p.tenths).2 } }
      ∧ t.insulation = { s.insulation with
          half := s.insulation.half.map fun h => { h with
            elapsed := min (10 * 2 ^ h.stretch) (h.elapsed + 1) }
          last := s.insulation.last.map fun l => { l with
            age := if l.age < (if s.insulation.fresh then 10 * s.insulation.settings.window
                else 655350) then l.age + 1 else l.age }
          check := s.insulation.check.map fun c => { c with timer := min 600 (c.timer + 1) } }
      ∧ t.relay = { s.relay with timer := s.relay.timer.map fun x => min 100 (x + 1) }

/-- The edges of PMRDY, PMFLT and PKON act at once: the module gate fails, MODULE latches with its
trip effects, WARMUP begins, or IDLE is entered with the condition UNKNOWN and a running CHECK
INSULATION ended HV_DOWN, after which every order that waits for the monitor is taken. MODULE takes
the drives to 0, opens the relay without the current wait, ends a running CHARGE and HEAT TRIPPED, and
closes an open session interval TRIP, also when empty, where the next interval begins: into the
journal, into the held record at fill 128, or merged while a record is held (R32, R77, R82, R93, R98,
R101, R103, R111, R112, R127, R128, R145, R146, R148 to R150, R164, R173, R175, R178, R179, R181).
That a level that stays is no edge, that the TRIP record ends with the meter of the last report, and
that a passed step 2 of a close only frees it for its own row are log entries 7, 19 and 20. -/
def Obligations.PinEdgesActAtOnce : Prop :=
  ∀ s : State,
    let need := s.power.need && !s.trips.set.isEmpty
    let driven := s.relay.state = .closing ∨ s.relay.state = .closed ∨ s.relay.state = .currentWait
    let opens := s.relay.state = .opened ∨ driven ∧ s.pins.infb = false
    let relay : Relay := if driven then
        (if s.pins.infb then ⟨.release, some 0, true⟩
          else if need then ⟨.closing, some 0, false⟩ else ⟨.opened, none, false⟩)
      else s.relay
    let b : Billing := match s.billing.close with
      | some ⟨n, .awaitRelay⟩ =>
          if opens then { s.billing with close := some ⟨n, .awaitHeld⟩ } else s.billing
      | _ => s.billing
    (exec .pmrdyAsserted s = .next (s.withPins { s.pins with pmrdy := true }))
    ∧ (s.pins.pmrdy = false → exec .pmrdyNegated s = .next s)
    ∧ (s.pins.pmrdy = true → ∃ t, exec .pmrdyNegated s = .next t
        ∧ t.pins = { s.pins with pmrdy := false } ∧ t.power.iDem = 0 ∧ t.power.need = false
        ∧ t.power.supplyFed = 0 ∧ t.power.duty ≤ s.power.duty ∧ DrivesOnly s t
        ∧ SameBut [.pins, .power, .relay, .insulation] s t)
    ∧ (exec .pmfltNegated s = .next (s.withPins { s.pins with pmflt := false }))
    ∧ (s.pins.pmflt = true → exec .pmfltAsserted s = .next s)
    ∧ (s.pins.pmflt = false → s.trips.set.module = true →
      exec .pmfltAsserted s = .next (s.withPins { s.pins with pmflt := true }))
    ∧ (s.pins.pmflt = false → s.trips.set.module = false →
      ∃ t, exec .pmfltAsserted s = .next t ∧ t.pins = { s.pins with pmflt := true }
        ∧ t.trips.set = { s.trips.set with module := true }
        ∧ t.power.iDem = 0 ∧ t.power.duty = 0 ∧ t.power.supplyFed = 0 ∧ t.power.packFed = 0
        ∧ t.power.charge = none ∧ t.heating.plan = none
        ∧ (s.trips.set.isEmpty = true →
            t.trips.first = some ⟨.module, s.billing.partTime⟩ ∧ t.attn.trip = true
            ∧ t.power.need = false ∧ t.inrlyPin = false)
        ∧ (s.trips.set.isEmpty = false → t.trips.first = s.trips.first
            ∧ t.attn.trip = s.attn.trip)
        ∧ t.relay = relay
        ∧ SameBut [.mem, .pins, .attn, .orders, .billing, .power, .heating, .insulation, .relay,
            .trips] s t
        ∧ OtherCauses [.trip, .orderDone, .planEvent, .journalNew, .journalHalt] s t
        ∧ (s.mem.wf = true → ReadsSameBut (fun a =>
            (∃ c, s.power.charge = some c ∧ engineBytes c.slot a)
              ∨ (∃ pl, s.heating.plan = some pl ∧ engineBytes pl.slot a)
              ∨ (s.billing.interval.isSome = true ∧ (journalHeader a ∨ recordBytes s.billing.w a
                ∨ recordBytes (s.billing.w + 1) a))) s t)
        ∧ (∀ c, s.power.charge = some c →
            (∀ pl, s.heating.plan = some pl → pl.slot ≠ c.slot) → s.mem.wf = true →
            (t.slot c.slot).state = .done ∧ t.mem.read (slotAddr c.slot + 32) = 0x08
            ∧ ∀ p, s.slot c.slot = ⟨.running, some p⟩ →
                Ended t c.slot p ⟨.tripped, if c.clamped then 0x01 else 0x00,
                  beBytes 2 c.maxCurrent ++ beBytes 2 c.vLim ++ beBytes 2 c.endCurrent
                    ++ beBytes 1 c.lastState.code ++ beBytes 2 c.cvCap ++ [0x00, 0x00]
                    ++ beBytes 4 c.seconds⟩)
        ∧ (∀ pl, s.heating.plan = some pl → t.attn.planEvent = true
            ∧ (s.mem.wf = true →
              (t.slot pl.slot).state = .done ∧ t.mem.read (slotAddr pl.slot + 32) = 0x08
              ∧ ∀ p, s.slot pl.slot = ⟨.running, some p⟩ →
                (∀ c, s.power.charge = some c → c.slot ≠ pl.slot) →
                Ended t pl.slot p ⟨.tripped, if pl.clamped then 0x01 else 0x00,
                  beInt 2 pl.target ++ beBytes 2 pl.band ++ beBytes 2 pl.hysteresis
                    ++ beBytes 2 pl.pMax ++ [pl.source.code, pl.policy.code, pl.mode.code]
                    ++ beBytes 1 pl.lastState.code ++ tempBytes s.heating.tMin
                    ++ [flagByte pl.reachedHolding] ++ beBytes 4 pl.seconds⟩))
        ∧ (s.billing.session = none ∨ s.billing.interval = none → t.billing = b)
        ∧ ∀ (ses : Session) (i : Interval), s.billing.session = some ses →
          s.billing.interval = some i →
          let r : Record :=
            { seq := s.billing.nextSeq, cause := .trip, flags := i.flags, sessionNo := ses.number,
              intervalNo := ses.intervalNo, start := i.start, stop := s.billing.partTime,
              bandStart := i.bandStart, bandEnd := s.billing.band, meterStart := i.meterStart,
              meterEnd := s.billing.meter,
              body := .interval i.wh (PerCat.zip reportedCost i.cost ses.carries) i.merges }
          let cut : Session := { ses with
            carries := PerCat.zip nextCarry i.cost ses.carries
            wh := PerCat.zip (· + ·) ses.wh i.wh
            cost := PerCat.zip (· + ·) ses.cost (PerCat.zip reportedCost i.cost ses.carries)
            flags := ses.flags.union i.flags
            intervalNo := nextCount ses.intervalNo
            written := ses.written + 1 }
          let f : Interval :=
            { start := s.billing.partTime, bandStart := s.billing.band,
              meterStart := s.billing.meter, wh := ⟨0, 0, 0⟩, cost := ⟨0, 0, 0⟩, merges := 0,
              flags := { RecFlags.clear with
                clockUnset := !s.billing.clockSet, tariffDefault := s.billing.defaultTable } }
          let next : Billing := { b with
            interval := some f, session := some cut, nextSeq := s.billing.nextSeq + 1
            journalMeter := s.billing.meter }
          let begins := s.billing.hold = false ∧ s.billing.halt ≤ s.billing.fill + 1
          (s.billing.held.isSome = true → t.billing = { b with interval := some { i with
              flags := { i.flags with
                merged := true
                spansBands := i.flags.spansBands || decide (s.billing.band ≠ i.bandStart) }
              merges := min 65535 (i.merges + 1) } })
          ∧ (s.billing.held = none → s.billing.fill = 128 → s.mem.wf = true →
            Holds t r ∧ t.billing = { next with held := some r })
          ∧ (s.billing.held = none → s.billing.fill < 128 → s.mem.wf = true →
            RecordAt t s.billing.w r ∧ t.attn.journalNew = true)
          ∧ (s.billing.held = none → s.billing.fill < 128 → ¬begins →
            t.billing = { next with
                w := s.billing.w + 1
                flaggedMark := if i.flags.flagged then some s.billing.w
                  else s.billing.flaggedMark }
            ∧ OtherCauses [.trip, .orderDone, .planEvent, .journalNew] s t)
          ∧ (s.billing.held = none → s.billing.fill < 127 → begins →
            (s.mem.wf = true → RecordAt t (s.billing.w + 1) { r with
              seq := s.billing.nextSeq + 1, cause := .hold, flags := f.flags,
              intervalNo := cut.intervalNo, start := s.billing.partTime,
              bandStart := s.billing.band, meterStart := s.billing.meter,
              body := .interval ⟨0, 0, 0⟩ (PerCat.zip reportedCost ⟨0, 0, 0⟩ cut.carries) 0 })
            ∧ t.attn.journalHalt = true
            ∧ t.billing = { next with
                hold := true
                nextSeq := s.billing.nextSeq + 2
                w := s.billing.w + 2
                session := some { cut with
                  carries := PerCat.zip nextCarry ⟨0, 0, 0⟩ cut.carries
                  cost := PerCat.zip (· + ·) cut.cost
                    (PerCat.zip reportedCost ⟨0, 0, 0⟩ cut.carries)
                  flags := cut.flags.union f.flags
                  intervalNo := nextCount cut.intervalNo
                  written := cut.written + 1 }
                flaggedMark := if f.flags.flagged then some (s.billing.w + 1)
                  else if i.flags.flagged then some s.billing.w
                  else s.billing.flaggedMark }))
    ∧ (s.pins.pkon = true → exec .pkonAsserted s = .next s)
    ∧ (s.pins.pkon = false → ∃ t, exec .pkonAsserted s = .next t
        ∧ SameBut [.pins, .insulation] s t ∧ t.pins = { s.pins with pkon := true }
        ∧ t.insulation = { s.insulation with
            state := .warmup, samplePos := none, sampleNeg := none, prevDelta := none,
            unsettled := 0, settled := 0, invalid := 0, quiet := false
            half := some
              { positive := true, stretch := s.insulation.stretch,
                uInj := s.insulation.settings.uInj, elapsed := 0, dutyLow := s.power.duty,
                dutyHigh := s.power.duty, demLow := s.power.iDem, demHigh := s.power.iDem,
                infbChanged := false } })
    ∧ (s.pins.pkon = false → exec .pkonNegated s = .next s)
    ∧ (s.pins.pkon = true → s.insulation.check = none ∨ s.queue .insulation = [] →
      ∃ t, exec .pkonNegated s = .next t
        ∧ t.pins = { s.pins with pkon := false } ∧ t.power.iDem = 0 ∧ t.power.need = false
        ∧ t.insulation.state = .idle ∧ t.insulation.condition = .unknown
        ∧ t.insulation.streak = 0 ∧ t.insulation.fresh = false ∧ t.insulation.half = none
        ∧ t.insulation.samplePos = none ∧ t.insulation.sampleNeg = none
        ∧ t.insulation.quiet = false ∧ t.insulation.check = none
        ∧ t.insulation.last = s.insulation.last
        ∧ (s.insulation.condition = .warning ∨ s.insulation.condition = .fault →
            t.attn.insulationWarn = false)
        ∧ (s.insulation.check = none → SameBut [.pins, .power, .relay, .insulation, .attn] s t
            ∧ OtherCauses [.insulationWarn] s t ∧ t.insulation.settings = s.insulation.settings
            ∧ t.insulation.history = s.insulation.history
            ∧ t.insulation.stretch = s.insulation.stretch)
        ∧ ∀ ck, s.insulation.check = some ck → s.mem.wf = true →
            (t.slot ck.slot).state = .done ∧ t.mem.read (slotAddr ck.slot + 32) = 0x0A
            ∧ t.mem.read (slotAddr ck.slot + 33) = 0x14)
    ∧ ∀ ck, OrdersShow s → s.pins.pkon = true → s.insulation.check = some ck →
      ∃ t, exec .pkonNegated s = .next t ∧ Drained .insulation s t ∧ t.queue .insulation = []
        ∧ t.pins = { s.pins with pkon := false } ∧ t.power.iDem = 0 ∧ t.power.need = false
        ∧ t.insulation.state = .idle ∧ t.insulation.condition = .unknown
        ∧ t.insulation.fresh = false ∧ t.insulation.half = none ∧ t.insulation.check = none
        ∧ t.insulation.last = s.insulation.last
        ∧ (t.slot ck.slot).state = .done ∧ t.mem.read (slotAddr ck.slot + 32) = 0x0A
        ∧ t.mem.read (slotAddr ck.slot + 33) = 0x14

/-! ## Temperatures and heating -/

/-- A temperature scan forms the sensor table, SENSOR_LOSS, the guards, the overtemperature counts
and the acceptance current, and evaluates a running plan. A count that reaches 2 latches its trip; a
SENSOR_LOSS that begins ends the plan SENSORS (R130 to R135, R138, R141 to R146). -/
def Obligations.ScanFormsTable : Prop :=
  ∀ (s : State) (scan : Scan),
    let sense (x : Int) : Sensor := if x < -400 then .short else if 1250 < x then .opened else .valid x
    let h : Heating := { s.heating with
      pack := scan.pack.map sense, plate := sense scan.plate }
    let inc (k : Fin 8) (x : Int) : Prop :=
      h.mask.getLsbD k.val = false ∧ sense scan.pack[k] = .valid x
    let loss := decide (h.count < 3)
    let packHot := match h.tMax with
      | some x => decide (600 ≤ x)
      | none => false
    let plateHot := match h.plate with
      | .valid x => decide (950 ≤ x)
      | _ => false
    let pc := if packHot then min 2 (h.packCount + 1) else 0
    let pl := if plateHot then min 2 (h.plateCount + 1) else 0
    let guarded := h.testPackGuard || h.testPlateGuard || h.testPlateSensor
    let trips := (pc = 2 ∧ h.packCount ≠ 2) ∨ (pl = 2 ∧ h.plateCount ≠ 2)
    (∀ x, h.tMin = some x ↔ (∃ k, inc k x) ∧ ∀ k y, inc k y → x ≤ y)
    ∧ (∀ x, h.tMax = some x ↔ (∃ k, inc k x) ∧ ∀ k y, inc k y → y ≤ x)
    ∧ ∃ t, exec (.temperatureScan scan) s = .next t
      ∧ t.heating.pack = h.pack ∧ t.heating.plate = h.plate
      ∧ t.heating.mask = h.mask ∧ t.heating.packCap = h.packCap
      ∧ t.heating.plateLimit = h.plateLimit ∧ t.heating.table = h.table
      ∧ t.heating.sensorLoss = loss ∧ t.heating.packGuard = h.testPackGuard
      ∧ t.heating.plateGuard = h.testPlateGuard ∧ t.heating.plateSensorGuard = h.testPlateSensor
      ∧ t.heating.packCount = pc ∧ t.heating.plateCount = pl
      ∧ t.heating.acceptance = Heating.formAcceptance { h with sensorLoss := loss }
      ∧ (loss = true → s.heating.sensorLoss = false → t.power.duty = 0 ∧ t.heating.plan = none)
      ∧ (guarded = true → s.heating.guarded = false → t.power.duty = 0)
      ∧ (pc = 2 → h.packCount ≠ 2 → t.trips.set.packOvertemp = true)
      ∧ (pl = 2 → h.plateCount ≠ 2 → t.trips.set.heaterOvertemp = true)
      ∧ (¬trips → t.trips = s.trips ∧ t.relay = s.relay ∧ t.billing = s.billing)
      ∧ (trips → s.trips.set.isEmpty = true → t.power.iDem = 0 ∧ t.power.duty = 0
          ∧ t.heating.plan = none ∧ t.power.charge = none)
      ∧ (¬trips → s.heating.plan = none → SameBut [.heating, .power, .insulation] s t
          ∧ t.heating.plan = none)
      ∧ ∀ p x, ¬trips → s.heating.plan = some p → h.tMin = some x →
        loss = false ∨ s.heating.sensorLoss = true →
        let e := p.target - x
        let warm : Nat := if (p.band : Int) ≤ e then p.pMax else p.pMax * e.toNat / p.band
        let goes (phase : PlanPhase) (demand : Nat) : Prop :=
          t.heating.plan = some { p with
              phase := phase
              demand := if guarded then 0 else demand
              reachedHolding := p.reachedHolding || phase == .holding
              lastState := if guarded then .guarded
                else if p.blockedCount = 10 then .blocked
                else if phase = .warming then .warming else .holding }
            ∧ SameBut [.heating, .power, .insulation, .attn] s t
            ∧ OtherCauses [.planEvent] s t
            ∧ t.attn.planEvent
                = (s.attn.planEvent || (phase == .holding && !p.reachedHolding))
        (p.phase = .warming → 0 < e → goes .warming warm)
        ∧ (p.phase = .warming → e ≤ 0 → p.mode = .keep → goes .holding 0)
        ∧ (p.phase = .warming → e ≤ 0 → p.mode = .once → s.mem.wf = true →
            t.heating.plan = none ∧ (t.slot p.slot).state = .done
              ∧ t.mem.read (slotAddr p.slot + 32) = 0x0A
              ∧ t.mem.read (slotAddr p.slot + 33) = 0x12
              ∧ t.attn.planEvent = true ∧ t.attn.orderDone = true
              ∧ ReadsSameBut (engineBytes p.slot) s t ∧ OtherSlots p.slot s t)
        ∧ (p.phase = .holding → (p.hysteresis : Int) ≤ e → goes .warming warm)
        ∧ (p.phase = .holding → e < p.hysteresis → goes .holding 0)

/-! ## The insulation monitor -/

/-- The end of a half-period. One whose loads moved or INFB changed is invalid and is repeated, with
a quiet request after eight in a row. A valid one stores its sample; a result that settles against
the one before is valid, and brings R_iso, the verdict, the condition, freshness and a history
entry; one that does not may stretch the half-period. A valid result ends a running CHECK INSULATION,
and the orders that wait for the monitor are taken (R32, R151 to R165).
What the next half-period first sees, that a node voltage beyond its range is delivered as the nearer
end, and that nothing ends without a half-period are the model's, log entries 18, 21 and 7. -/
def Obligations.HalfPeriodJudged : Prop :=
  ∀ (s : State) (u : Int),
    (s.insulation.half = none → exec (.halfPeriodEnd u) s = .next s)
    ∧ ∀ h : HalfPeriod, s.insulation.half = some h →
      let i := s.insulation
      let bad := 100 < h.dutyHigh - h.dutyLow ∨ 50 < h.demHigh - h.demLow ∨ h.infbChanged = true
      let begun (positive : Bool) (stretch : Nat) : HalfPeriod :=
        { positive := positive, stretch := stretch, uInj := i.settings.uInj, elapsed := 0,
          dutyLow := s.power.duty, dutyHigh := s.power.duty, demLow := s.power.iDem,
          demHigh := s.power.iDem, infbChanged := false }
      (bad → exec (.halfPeriodEnd u) s = .next (s.withInsulation { i with
        invalid := if i.invalid + 1 = 8 then 0 else i.invalid + 1
        quiet := decide (i.invalid + 1 = 8)
        half := some (begun h.positive i.stretch) }))
      ∧ (¬bad →
        let x := clampInt (-20000) 20000 u
        let pos := if h.positive then some x else i.samplePos
        let neg := if h.positive then i.sampleNeg else some x
        let base : Insulation := { i with
          invalid := 0, quiet := false, samplePos := pos, sampleNeg := neg }
        (pos = none ∨ neg = none →
          exec (.halfPeriodEnd u) s = .next (s.withInsulation { base with
            half := some (begun (!h.positive) i.stretch) }))
        ∧ ∀ a b : Int, pos = some a → neg = some b →
          (i.prevDelta = none →
            exec (.halfPeriodEnd u) s = .next (s.withInsulation { base with
              prevDelta := some (a - b), half := some (begun (!h.positive) i.stretch) }))
          ∧ ∀ prev : Int, i.prevDelta = some prev →
            let settles := ((a - b - prev).natAbs : Int) ≤ max (prev.tdiv 32) 20
            let longer := 2 ≤ i.unsettled + 1
            let far := if longer then min 3 (i.stretch + 1) else i.stretch
            (¬settles → exec (.halfPeriodEnd u) s = .next (s.withInsulation { base with
              prevDelta := some (a - b), settled := 0
              unsettled := if longer then 0 else i.unsettled + 1
              stretch := far, half := some (begun (!h.positive) far) }))
            ∧ (settles → i.check = none ∨ s.queue .insulation = [] →
              let n := min 4 (i.settled + 1)
              let shorter := n = 4 ∧ 0 < i.stretch
              let v := s.metering.readings.packVoltage
              let w := i.settings.warn * v / 10000
              let f := i.settings.fault * v / 10000
              let r := rIsoOf i.settings.rM i.settings.uInj (a - b)
              let verdict : Verdict := if r < f then .belowFault
                else if r < w then .belowWarn else .clear
              let streak := if r < f then min 8 (i.streak + 1) else 0
              let cond : Condition :=
                if i.condition = .fault then
                  (if r < 2 * f then .fault else if w + w / 4 ≤ r then .ok else .warning)
                else if r < f then (if i.settings.k ≤ streak then .fault else .warning)
                else if r < w then .warning
                else if i.condition = .warning ∧ r < w + w / 4 then .warning
                else .ok
              ∃ t, exec (.halfPeriodEnd u) s = .next t
                ∧ t.insulation.state = .measuring ∧ t.insulation.prevDelta = some (a - b)
                ∧ t.insulation.samplePos = pos ∧ t.insulation.sampleNeg = neg
                ∧ t.insulation.invalid = 0 ∧ t.insulation.quiet = false
                ∧ t.insulation.unsettled = 0
                ∧ t.insulation.settled = (if shorter then 0 else n)
                ∧ t.insulation.stretch = (if shorter then i.stretch - 1 else i.stretch)
                ∧ t.insulation.condition = cond ∧ t.insulation.streak = streak
                ∧ t.insulation.fresh = decide (cond = .ok ∨ cond = .warning)
                ∧ t.insulation.last = some ⟨r, 0, w, f⟩
                ∧ t.insulation.history
                    = (⟨s.billing.partTime, r, h.stretch, v, verdict⟩ :: i.history).take 8
                ∧ t.insulation.settings = i.settings ∧ t.insulation.check = none
                ∧ (∃ next, t.insulation.half = some next ∧ next.positive = !h.positive
                    ∧ next.elapsed = 0 ∧ next.stretch = t.insulation.stretch)
                ∧ (cond = .fault → i.condition ≠ .fault → t.trips.set.insulation = true
                    ∧ t.power.duty = 0 ∨ s.trips.set.insulation = true)
                ∧ (cond = .fault → i.fresh = true → t.power.iDem = 0 ∧ t.power.need = false)
                ∧ (cond = .warning ∨ cond = .fault → i.condition = .unknown ∨ i.condition = .ok →
                    t.attn.insulationWarn = true)
                ∧ (cond = .ok → i.condition = .warning ∨ i.condition = .fault →
                    t.attn.insulationWarn = false)
                ∧ (i.check = none → cond ≠ .fault ∨ i.condition = .fault →
                    i.fresh = false ∨ cond ≠ .fault →
                    SameBut [.insulation, .attn] s t ∧ OtherCauses [.insulationWarn] s t)
                ∧ ∀ ck, i.check = some ck → s.mem.wf = true →
                    cond ≠ .fault ∨ i.condition = .fault →
                    (t.slot ck.slot).state = .done
                      ∧ t.mem.read (slotAddr ck.slot + 32) = 0x00
                      ∧ t.attn.orderDone = true)
            ∧ ∀ ck, settles → OrdersShow s → i.check = some ck →
              ∃ t, exec (.halfPeriodEnd u) s = .next t ∧ Drained .insulation s t
                ∧ (t.slot ck.slot).state = .done
                ∧ t.mem.read (slotAddr ck.slot + 32) = 0x00
                ∧ (s.queue .insulation = [] → t.insulation.check = none)
                ∧ t.insulation.last.isSome = true ∧ t.insulation.history.length ≤ 8)

/-- R157: R_iso of a valid result in kΩ, with its three limits; ABOVE_RANGE is 65 535, above every
threshold a pack voltage of 9 000 dV or less can give. -/
def Obligations.ResistanceComputed : Prop :=
  ∀ (rM uInj : Nat) (delta : Int),
    let den : Int := 2 * uInj - delta
    let q : Int := rM * delta / den
    (delta ≤ 0 → rIsoOf rM uInj delta = 0)
    ∧ (0 < delta → den ≤ 0 → rIsoOf rM uInj delta = 65535)
    ∧ (0 < delta → 0 < den → q ≤ 65534 → (rIsoOf rM uInj delta : Int) = q)
    ∧ (0 < delta → 0 < den → 65534 < q → rIsoOf rM uInj delta = 65535)
    ∧ (∀ level v : Nat, level ≤ 2000 → v ≤ 9000 →
        warnRelease (threshold level v) < 65535 ∧ faultRelease (threshold level v) < 65535)

/-- FRESHNESS_EXPIRY ends a standing freshness whose age has reached 10 × the window: the age passes it
and the insulation gate fails. At a lower age no expiry occurs. CHECK_INSULATION_TIMEOUT ends a check
that has run for 60 s TIMED_OUT with no result, and the orders that wait for the monitor are taken
(R32, R111, R112, R162, R165).
That the rows are the events of counts which the idle steps move is the model's, log entry 2. -/
def Obligations.FreshnessAndCheckTimeLimits : Prop :=
  ∀ s : State,
    (s.insulation.fresh = false ∨ s.insulation.last = none →
      exec .freshnessExpiry s = .next s)
    ∧ (∀ l, s.insulation.last = some l →
      (l.age < 10 * s.insulation.settings.window → exec .freshnessExpiry s = .next s)
      ∧ (s.insulation.fresh = true → l.age = 10 * s.insulation.settings.window →
        ∃ t, exec .freshnessExpiry s = .next t
          ∧ t.insulation.fresh = false ∧ t.power.iDem = 0 ∧ t.power.need = false
          ∧ t.insulation.condition = s.insulation.condition
          ∧ t.insulation.last = some { l with age := 10 * s.insulation.settings.window + 1 }
          ∧ SameBut [.power, .relay, .insulation] s t))
    ∧ (s.insulation.check = none → exec .checkInsulationTimeout s = .next s)
    ∧ ∀ ck : Check, s.insulation.check = some ck →
      (ck.timer < 600 → exec .checkInsulationTimeout s = .next s)
      ∧ (∀ p, 600 ≤ ck.timer → s.slot ck.slot = ⟨.running, some p⟩ →
        s.queue .insulation = [] → s.mem.wf = true →
        ∃ t, exec .checkInsulationTimeout s = .next t
          ∧ Ended t ck.slot p ⟨.timedOut, 0x00, List.replicate 10 0 ++ s.insulation.checkMiddle
              ++ fourEntries s.insulation.history⟩
          ∧ t.insulation = { s.insulation with check := none }
          ∧ OrderFrame ck.slot [.insulation] s t)
      ∧ (600 ≤ ck.timer → OrdersShow s →
        ∃ t, exec .checkInsulationTimeout s = .next t ∧ Drained .insulation s t
          ∧ (t.slot ck.slot).state = .done ∧ t.mem.read (slotAddr ck.slot + 32) = 0x09)

/-! ## The live status copies -/

/-- A status period writes the copy that 000Ah does not name, with the next sequence number at both
ends and the blocks' fields between them, and names it (R21, R22).
The grant shown is the last period's, the model's choice, log entry 15. -/
def Obligations.StatusCopyWritten : Prop :=
  ∀ s : State, s.mem.wf = true →
    let base := if s.mem.read 0x000A = 0 then 0x0540 else 0x0440
    let index : Byte := if s.mem.read 0x000A = 0 then 0x01 else 0x00
    let seq : Word := if s.statusSeq = 0xFFFFFFFF then 1 else s.statusSeq + 1
    ∃ t, exec .statusPeriod s = .next t ∧ t.statusSeq = seq ∧ t.mem.read 0x000A = index
      ∧ SameBut [.mem, .statusSeq] s t
      ∧ ReadsSameBut (fun a => a = 0x000A ∨ (base ≤ a ∧ a < base + 256)) s t
      ∧ t.mem.readAll base 4 = beBytes 4 seq.toNat
      ∧ t.mem.readAll (base + 252) 4 = beBytes 4 seq.toNat
      ∧ t.mem.readAll (base + 4) 4 = beBytes 4 s.billing.partTime.toNat
      ∧ t.mem.read (base + 8) = flagByte s.billing.clockSet
      ∧ t.mem.readAll (base + 9) 2 = beBytes 2 s.metering.readings.inletVoltage
      ∧ t.mem.readAll (base + 11) 2 = beBytes 2 s.metering.readings.inletCurrent
      ∧ t.mem.readAll (base + 13) 4 = beBytes 4 s.metering.readings.inletPower
      ∧ t.mem.readAll (base + 17) 2 = beBytes 2 s.metering.readings.packVoltage
      ∧ t.mem.readAll (base + 19) 2 = beInt 2 s.metering.readings.packCurrent
      ∧ t.mem.readAll (base + 21) 2 = beBytes 2 s.power.last.duty
      ∧ t.mem.readAll (base + 25) 2 = beBytes 2 s.power.last.grant
      ∧ t.mem.readAll (base + 33) 2 = beBytes 2 s.power.last.iDem
      ∧ t.mem.read (base + 35) = s.gates.byte
      ∧ t.mem.read (base + 36) = BitVec.ofNat 8 s.relay.state.code
      ∧ t.mem.readAll (base + 39) 2 = tempBytes s.heating.tMin
      ∧ t.mem.readAll (base + 41) 2 = tempBytes s.heating.tMax
      ∧ t.mem.readAll (base + 55) 2 = beBytes 2 s.heating.acceptance
      ∧ t.mem.read (base + 57) = BitVec.ofNat 8 s.insulation.condition.code
      ∧ t.mem.read (base + 63) = s.trips.set.byte
      ∧ t.mem.read (base + 69) = BitVec.ofNat 8 s.billing.fill
      ∧ t.mem.read (base + 71) = BitVec.ofNat 8 s.power.keepalive.code

/-! ## The relay and the trips -/

/-- INFB showing closed confirms a close, or starts the uncommanded-closure timer while OPEN, and
opens the metering gate. A close timer that expires latches CONTACT and leaves the relay open, and an
uncommanded closure latches WELD and enters STUCK; a timer that was cancelled or stands below its limit
does not expire (R50, R152, R169 to R172, R176, R178, R179).
That an INFB named at its level is no edge, that the rows are the events of timers which the idle steps
move, and that a passed step 2 only frees its close for its own row are log entries 7, 2 and 20. -/
def Obligations.RelayCloses : Prop :=
  ∀ s : State,
    let runsOut (st : RelayState) (limit : Nat) : Prop :=
      s.relay.state = st ∧ ∃ x, s.relay.timer = some x ∧ limit ≤ x
    (s.pins.infb = true → exec .infbShowsClosed s = .next s)
    ∧ (s.pins.infb = false → ∃ t, exec .infbShowsClosed s = .next t
        ∧ SameBut [.pins, .metering, .insulation, .relay] s t
        ∧ t.pins = { s.pins with infb := true }
        ∧ t.metering = { s.metering with closedSeen := true }
        ∧ t.insulation = { s.insulation with
            half := s.insulation.half.map fun h => { h with infbChanged := true } }
        ∧ t.relay = (match s.relay.state with
            | .closing => ⟨.closed, if s.power.need then none else some 0, false⟩
            | .opened => ⟨.opened, some 0, false⟩
            | _ => s.relay))
    ∧ (¬runsOut .closing 2 → exec .closeTimerExpiry s = .next s)
    ∧ (runsOut .closing 2 → s.pins.infb = false →
      (s.trips.set.isEmpty = true →
        ∃ t, exec .closeTimerExpiry s = .next t
          ∧ t.trips = ⟨{ TripSet.empty with contact := true },
              some ⟨.contact, s.billing.partTime⟩⟩
          ∧ t.attn.trip = true ∧ t.relay = ⟨.opened, none, false⟩ ∧ t.inrlyPin = false
          ∧ t.power.iDem = 0 ∧ t.power.duty = 0 ∧ t.power.supplyFed = 0 ∧ t.power.packFed = 0
          ∧ t.power.need = false ∧ t.power.charge = none ∧ t.heating.plan = none
          ∧ t.pins = s.pins)
      ∧ (s.trips.set.contact = true → s.power.need = false →
        ∃ t, exec .closeTimerExpiry s = .next t ∧ t.relay = ⟨.opened, none, false⟩
          ∧ t.trips = s.trips))
    ∧ (¬runsOut .opened 3 → exec .uncommandedClosureExpiry s = .next s)
    ∧ (runsOut .opened 3 →
      ∃ t, exec .uncommandedClosureExpiry s = .next t ∧ t.relay = ⟨.stuck, none, false⟩
        ∧ t.trips.set = { s.trips.set with weld := true } ∧ t.inrlyPin = false
        ∧ (s.trips.set.weld = false → t.power.iDem = 0 ∧ t.power.duty = 0
            ∧ t.power.charge = none ∧ t.heating.plan = none)
        ∧ (s.trips.set.isEmpty = true →
            t.trips.first = some ⟨.weld, s.billing.partTime⟩ ∧ t.attn.trip = true)
        ∧ ∀ n, s.trips.set.weld = false → s.billing.close = some ⟨n, .awaitRelay⟩ →
            t.billing.close = some ⟨n, .awaitHeld⟩)

/-- The opening of the relay. A no-need timer takes the demand to 0 and begins a current wait; the
wait's time limit enters the release phase; INFB showing open ends it at OPEN, where a standing need
closes again; a release that times out with INFB still closed latches WELD; and a contact that drops
out in CLOSED or while it is driven latches CONTACT. A timer that was cancelled or stands below its
limit does not expire (R86, R169 to R176).
That an INFB named at its level is no edge, that the rows are the events of timers which the idle steps
move, and that a passed step 2 only frees its close for its own row are log entries 7, 2 and 20. -/
def Obligations.RelayOpens : Prop :=
  ∀ s : State,
    let runsOut (st : RelayState) (limit : Nat) : Prop :=
      s.relay.state = st ∧ ∃ x, s.relay.timer = some x ∧ limit ≤ x
    let passed (b : Billing) : Billing := match b.close with
      | some ⟨n, .awaitRelay⟩ => { b with close := some ⟨n, .awaitHeld⟩ }
      | _ => b
    let opens (need : Bool) : Relay := if need then ⟨.closing, some 0, false⟩
      else ⟨.opened, none, false⟩
    (¬runsOut .closed 100 → exec .noNeedTimerExpiry s = .next s)
    ∧ (runsOut .closed 100 →
      ∃ t, exec .noNeedTimerExpiry s = .next t ∧ SameBut [.power, .insulation, .relay] s t
        ∧ t.power = { s.power with iDem := 0 } ∧ t.relay = ⟨.currentWait, some 0, false⟩)
    ∧ (¬runsOut .currentWait 20 → exec .currentWaitTimeout s = .next s)
    ∧ (runsOut .currentWait 20 →
      (s.pins.infb = true → exec .currentWaitTimeout s =
        .next (s.withRelay ⟨.release, some 0, s.relay.skips⟩))
      ∧ (s.pins.infb = false → exec .currentWaitTimeout s =
        .next ((s.withRelay (opens s.power.need)).withBilling (passed s.billing))))
    ∧ (¬runsOut .release 3 → exec .releaseTimerExpiry s = .next s)
    ∧ (runsOut .release 3 → s.pins.infb = true →
      ∃ t, exec .releaseTimerExpiry s = .next t ∧ t.relay = ⟨.stuck, none, false⟩
        ∧ t.trips.set = { s.trips.set with weld := true }
        ∧ (s.trips.set.weld = false → t.power.iDem = 0 ∧ t.power.duty = 0
            ∧ t.power.charge = none ∧ t.heating.plan = none)
        ∧ (s.trips.set.isEmpty = true →
            t.trips.first = some ⟨.weld, s.billing.partTime⟩ ∧ t.attn.trip = true)
        ∧ ∀ n, s.trips.set.weld = false → s.billing.close = some ⟨n, .awaitRelay⟩ →
            t.billing.close = some ⟨n, .awaitHeld⟩)
    ∧ (runsOut .release 3 → s.pins.infb = false → exec .releaseTimerExpiry s =
        .next ((s.withRelay (opens s.power.need)).withBilling (passed s.billing)))
    ∧ (s.pins.infb = false → exec .infbShowsOpen s = .next s)
    ∧ (s.pins.infb = true →
      let low : State := (s.withPins { s.pins with infb := false }).withInsulation { s.insulation with
        half := s.insulation.half.map fun h => { h with infbChanged := true } }
      (s.relay.state = .release ∨ s.relay.state = .stuck → exec .infbShowsOpen s =
        .next ((low.withRelay (opens s.power.need)).withBilling (passed s.billing)))
      ∧ (s.relay.state = .opened → exec .infbShowsOpen s =
        .next (low.withRelay ⟨.opened, none, false⟩))
      ∧ (s.relay.state = .closing → exec .infbShowsOpen s = .next low)
      ∧ (s.relay.state = .closed ∨ s.relay.state = .currentWait → s.trips.set.isEmpty = true →
        ∃ t, exec .infbShowsOpen s = .next t
          ∧ t.trips = ⟨{ TripSet.empty with contact := true },
              some ⟨.contact, s.billing.partTime⟩⟩
          ∧ t.attn.trip = true ∧ t.relay = ⟨.opened, none, false⟩ ∧ t.pins = low.pins
          ∧ t.power.iDem = 0 ∧ t.power.duty = 0 ∧ t.power.need = false
          ∧ t.power.charge = none ∧ t.heating.plan = none
          ∧ ∀ n, s.billing.close = some ⟨n, .awaitRelay⟩ →
              t.billing.close = some ⟨n, .awaitHeld⟩))

/-! ## Power-on reset -/

/-- A power-on reset puts every block at its power-on state, with the part number and the START
record in a memory that reads 00h elsewhere. WARMUP begins where PKON is asserted, MODULE latches
where PMFLT is, and INFB that shows closed starts the uncommanded-closure timer (R2, R20, R43,
R62, R94, R104, R129, R147, R148, R168, R176, R181, R186). The queue of waiting commands stays
(log entry 1), and the frame in progress sees the level of INFB (log entry 6). -/
def Obligations.PowerOnResetState : Prop :=
  ∀ (s : State) (l : Pins), ∃ t, exec (.powerOnReset l) s = .next t
    ∧ t.pins = l ∧ t.pending = s.pending ∧ t.mem.wf = true
    ∧ t.mem.readAll 0x0000 16 = [0x4B, 0x34, 0x36, 0x01, 0x00, 0x01, 0x00, 0x00, 120, 96, 0, 0, 0,
        0, 0, 0]
    ∧ t.mem.readAll 0x2000 64 = [0, 0, 0, 0, 0x10] ++ List.replicate 22 0
        ++ [0x4B, 0x34, 0x36, 0x01] ++ List.replicate 33 0
    ∧ (∀ a, 0x0010 ≤ a → a < 0x2000 ∨ 0x2040 ≤ a → t.mem.read a = 0)
    ∧ t.link.phase = .idle ∧ t.link.pointer = 0 ∧ t.link.latch = 0 ∧ t.link.refused = false
    ∧ t.link.resetDue = false
    ∧ t.attn = ⟨l.pmflt, false, false, false, false, false, false, false, 0xFF⟩
    ∧ t.attnPin = false
    ∧ (∀ n, t.slot n = ⟨.free, none⟩) ∧ t.orders.queues = ⟨[], [], [], [], []⟩
    ∧ t.orders.notices = []
    ∧ (∀ c, t.metering.channel c = if c < 4 then some ⟨65536, 0, 0, true⟩ else none)
    ∧ t.metering.counters = (⟨0, 0, 0⟩, 0, ⟨0, 0, 0⟩, 0, 0, ⟨0, 0, 0, 0, 0⟩)
    ∧ t.metering.closedSeen = l.infb ∧ t.metering.reports = []
    ∧ t.billing = Billing.reset ∧ t.billing.table = ⟨15, [⟨0, 0⟩]⟩ ∧ t.billing.clockSet = false
    ∧ t.billing.partTime = 0 ∧ t.billing.w = 1 ∧ t.billing.rd = 0 ∧ t.billing.nextSeq = 1
    ∧ t.billing.halt = 120 ∧ t.billing.resume = 96 ∧ t.billing.fill = 1
    ∧ t.power.grant = 0 ∧ t.power.fallback = 0 ∧ t.power.period = 10
    ∧ t.power.keepalive = .stopped ∧ t.power.stage = ⟨930, 400, 10, 480, 3000⟩
    ∧ t.power.iDem = 0 ∧ t.power.duty = 0 ∧ t.power.need = false ∧ t.power.charge = none
    ∧ t.heating = Heating.reset ∧ t.heating.mask = 0 ∧ t.heating.sensorLoss = true
    ∧ t.heating.packCap = 450 ∧ t.heating.plateLimit = 800 ∧ t.heating.table = none
    ∧ t.insulation.condition = .unknown ∧ t.insulation.fresh = false
    ∧ t.insulation.settings = ⟨470, 12000, 500, 100, 3, 30⟩ ∧ t.insulation.history = []
    ∧ t.insulation.last = none
    ∧ t.insulation.state = (if l.pkon then .warmup else .idle)
    ∧ (t.insulation.half.isSome = l.pkon)
    ∧ t.relay = ⟨.opened, if l.infb then some 0 else none, false⟩
    ∧ t.trips = (if l.pmflt then ⟨{ TripSet.empty with module := true }, some ⟨.module, 0⟩⟩
        else ⟨TripSet.empty, none⟩)
    ∧ t.statusSeq = 0
end

