-- ==== Sys2Proof/Laws/State.lean ====
section
/-! SUPPORT. One lemma per field per update of State: each is true by unfolding one record
update, and no later proof unfolds one again. -/

namespace Sys2Proof.Machine

variable (s : State)

/-! ## withMem -/

@[simp] theorem State.withMem_mem (x : Memory) : (s.withMem x).mem = x := rfl
@[simp] theorem State.withMem_pins (x : Memory) : (s.withMem x).pins = s.pins := rfl
@[simp] theorem State.withMem_link (x : Memory) : (s.withMem x).link = s.link := rfl
@[simp] theorem State.withMem_attn (x : Memory) : (s.withMem x).attn = s.attn := rfl
@[simp] theorem State.withMem_orders (x : Memory) : (s.withMem x).orders = s.orders := rfl
@[simp] theorem State.withMem_metering (x : Memory) : (s.withMem x).metering = s.metering := rfl
@[simp] theorem State.withMem_billing (x : Memory) : (s.withMem x).billing = s.billing := rfl
@[simp] theorem State.withMem_power (x : Memory) : (s.withMem x).power = s.power := rfl
@[simp] theorem State.withMem_heating (x : Memory) : (s.withMem x).heating = s.heating := rfl
@[simp] theorem State.withMem_insulation (x : Memory) : (s.withMem x).insulation = s.insulation := rfl
@[simp] theorem State.withMem_relay (x : Memory) : (s.withMem x).relay = s.relay := rfl
@[simp] theorem State.withMem_trips (x : Memory) : (s.withMem x).trips = s.trips := rfl
@[simp] theorem State.withMem_statusSeq (x : Memory) : (s.withMem x).statusSeq = s.statusSeq := rfl
@[simp] theorem State.withMem_pending (x : Memory) : (s.withMem x).pending = s.pending := rfl

/-! ## withPins -/

@[simp] theorem State.withPins_mem (x : Pins) : (s.withPins x).mem = s.mem := rfl
@[simp] theorem State.withPins_pins (x : Pins) : (s.withPins x).pins = x := rfl
@[simp] theorem State.withPins_link (x : Pins) : (s.withPins x).link = s.link := rfl
@[simp] theorem State.withPins_attn (x : Pins) : (s.withPins x).attn = s.attn := rfl
@[simp] theorem State.withPins_orders (x : Pins) : (s.withPins x).orders = s.orders := rfl
@[simp] theorem State.withPins_metering (x : Pins) : (s.withPins x).metering = s.metering := rfl
@[simp] theorem State.withPins_billing (x : Pins) : (s.withPins x).billing = s.billing := rfl
@[simp] theorem State.withPins_power (x : Pins) : (s.withPins x).power = s.power := rfl
@[simp] theorem State.withPins_heating (x : Pins) : (s.withPins x).heating = s.heating := rfl
@[simp] theorem State.withPins_insulation (x : Pins) : (s.withPins x).insulation = s.insulation := rfl
@[simp] theorem State.withPins_relay (x : Pins) : (s.withPins x).relay = s.relay := rfl
@[simp] theorem State.withPins_trips (x : Pins) : (s.withPins x).trips = s.trips := rfl
@[simp] theorem State.withPins_statusSeq (x : Pins) : (s.withPins x).statusSeq = s.statusSeq := rfl
@[simp] theorem State.withPins_pending (x : Pins) : (s.withPins x).pending = s.pending := rfl

/-! ## withLink -/

@[simp] theorem State.withLink_mem (x : Link) : (s.withLink x).mem = s.mem := rfl
@[simp] theorem State.withLink_pins (x : Link) : (s.withLink x).pins = s.pins := rfl
@[simp] theorem State.withLink_link (x : Link) : (s.withLink x).link = x := rfl
@[simp] theorem State.withLink_attn (x : Link) : (s.withLink x).attn = s.attn := rfl
@[simp] theorem State.withLink_orders (x : Link) : (s.withLink x).orders = s.orders := rfl
@[simp] theorem State.withLink_metering (x : Link) : (s.withLink x).metering = s.metering := rfl
@[simp] theorem State.withLink_billing (x : Link) : (s.withLink x).billing = s.billing := rfl
@[simp] theorem State.withLink_power (x : Link) : (s.withLink x).power = s.power := rfl
@[simp] theorem State.withLink_heating (x : Link) : (s.withLink x).heating = s.heating := rfl
@[simp] theorem State.withLink_insulation (x : Link) : (s.withLink x).insulation = s.insulation := rfl
@[simp] theorem State.withLink_relay (x : Link) : (s.withLink x).relay = s.relay := rfl
@[simp] theorem State.withLink_trips (x : Link) : (s.withLink x).trips = s.trips := rfl
@[simp] theorem State.withLink_statusSeq (x : Link) : (s.withLink x).statusSeq = s.statusSeq := rfl
@[simp] theorem State.withLink_pending (x : Link) : (s.withLink x).pending = s.pending := rfl

/-! ## withAttn -/

@[simp] theorem State.withAttn_mem (x : Attention) : (s.withAttn x).mem = s.mem := rfl
@[simp] theorem State.withAttn_pins (x : Attention) : (s.withAttn x).pins = s.pins := rfl
@[simp] theorem State.withAttn_link (x : Attention) : (s.withAttn x).link = s.link := rfl
@[simp] theorem State.withAttn_attn (x : Attention) : (s.withAttn x).attn = x := rfl
@[simp] theorem State.withAttn_orders (x : Attention) : (s.withAttn x).orders = s.orders := rfl
@[simp] theorem State.withAttn_metering (x : Attention) : (s.withAttn x).metering = s.metering := rfl
@[simp] theorem State.withAttn_billing (x : Attention) : (s.withAttn x).billing = s.billing := rfl
@[simp] theorem State.withAttn_power (x : Attention) : (s.withAttn x).power = s.power := rfl
@[simp] theorem State.withAttn_heating (x : Attention) : (s.withAttn x).heating = s.heating := rfl
@[simp] theorem State.withAttn_insulation (x : Attention) : (s.withAttn x).insulation = s.insulation := rfl
@[simp] theorem State.withAttn_relay (x : Attention) : (s.withAttn x).relay = s.relay := rfl
@[simp] theorem State.withAttn_trips (x : Attention) : (s.withAttn x).trips = s.trips := rfl
@[simp] theorem State.withAttn_statusSeq (x : Attention) : (s.withAttn x).statusSeq = s.statusSeq := rfl
@[simp] theorem State.withAttn_pending (x : Attention) : (s.withAttn x).pending = s.pending := rfl

/-! ## withOrders -/

@[simp] theorem State.withOrders_mem (x : Orders) : (s.withOrders x).mem = s.mem := rfl
@[simp] theorem State.withOrders_pins (x : Orders) : (s.withOrders x).pins = s.pins := rfl
@[simp] theorem State.withOrders_link (x : Orders) : (s.withOrders x).link = s.link := rfl
@[simp] theorem State.withOrders_attn (x : Orders) : (s.withOrders x).attn = s.attn := rfl
@[simp] theorem State.withOrders_orders (x : Orders) : (s.withOrders x).orders = x := rfl
@[simp] theorem State.withOrders_metering (x : Orders) : (s.withOrders x).metering = s.metering := rfl
@[simp] theorem State.withOrders_billing (x : Orders) : (s.withOrders x).billing = s.billing := rfl
@[simp] theorem State.withOrders_power (x : Orders) : (s.withOrders x).power = s.power := rfl
@[simp] theorem State.withOrders_heating (x : Orders) : (s.withOrders x).heating = s.heating := rfl
@[simp] theorem State.withOrders_insulation (x : Orders) : (s.withOrders x).insulation = s.insulation := rfl
@[simp] theorem State.withOrders_relay (x : Orders) : (s.withOrders x).relay = s.relay := rfl
@[simp] theorem State.withOrders_trips (x : Orders) : (s.withOrders x).trips = s.trips := rfl
@[simp] theorem State.withOrders_statusSeq (x : Orders) : (s.withOrders x).statusSeq = s.statusSeq := rfl
@[simp] theorem State.withOrders_pending (x : Orders) : (s.withOrders x).pending = s.pending := rfl

/-! ## withMetering -/

@[simp] theorem State.withMetering_mem (x : Metering) : (s.withMetering x).mem = s.mem := rfl
@[simp] theorem State.withMetering_pins (x : Metering) : (s.withMetering x).pins = s.pins := rfl
@[simp] theorem State.withMetering_link (x : Metering) : (s.withMetering x).link = s.link := rfl
@[simp] theorem State.withMetering_attn (x : Metering) : (s.withMetering x).attn = s.attn := rfl
@[simp] theorem State.withMetering_orders (x : Metering) : (s.withMetering x).orders = s.orders := rfl
@[simp] theorem State.withMetering_metering (x : Metering) : (s.withMetering x).metering = x := rfl
@[simp] theorem State.withMetering_billing (x : Metering) : (s.withMetering x).billing = s.billing := rfl
@[simp] theorem State.withMetering_power (x : Metering) : (s.withMetering x).power = s.power := rfl
@[simp] theorem State.withMetering_heating (x : Metering) : (s.withMetering x).heating = s.heating := rfl
@[simp] theorem State.withMetering_insulation (x : Metering) : (s.withMetering x).insulation = s.insulation := rfl
@[simp] theorem State.withMetering_relay (x : Metering) : (s.withMetering x).relay = s.relay := rfl
@[simp] theorem State.withMetering_trips (x : Metering) : (s.withMetering x).trips = s.trips := rfl
@[simp] theorem State.withMetering_statusSeq (x : Metering) : (s.withMetering x).statusSeq = s.statusSeq := rfl
@[simp] theorem State.withMetering_pending (x : Metering) : (s.withMetering x).pending = s.pending := rfl

/-! ## withBilling -/

@[simp] theorem State.withBilling_mem (x : Billing) : (s.withBilling x).mem = s.mem := rfl
@[simp] theorem State.withBilling_pins (x : Billing) : (s.withBilling x).pins = s.pins := rfl
@[simp] theorem State.withBilling_link (x : Billing) : (s.withBilling x).link = s.link := rfl
@[simp] theorem State.withBilling_attn (x : Billing) : (s.withBilling x).attn = s.attn := rfl
@[simp] theorem State.withBilling_orders (x : Billing) : (s.withBilling x).orders = s.orders := rfl
@[simp] theorem State.withBilling_metering (x : Billing) : (s.withBilling x).metering = s.metering := rfl
@[simp] theorem State.withBilling_billing (x : Billing) : (s.withBilling x).billing = x := rfl
@[simp] theorem State.withBilling_power (x : Billing) : (s.withBilling x).power = s.power := rfl
@[simp] theorem State.withBilling_heating (x : Billing) : (s.withBilling x).heating = s.heating := rfl
@[simp] theorem State.withBilling_insulation (x : Billing) : (s.withBilling x).insulation = s.insulation := rfl
@[simp] theorem State.withBilling_relay (x : Billing) : (s.withBilling x).relay = s.relay := rfl
@[simp] theorem State.withBilling_trips (x : Billing) : (s.withBilling x).trips = s.trips := rfl
@[simp] theorem State.withBilling_statusSeq (x : Billing) : (s.withBilling x).statusSeq = s.statusSeq := rfl
@[simp] theorem State.withBilling_pending (x : Billing) : (s.withBilling x).pending = s.pending := rfl

/-! ## withPower -/

@[simp] theorem State.withPower_mem (x : Power) : (s.withPower x).mem = s.mem := rfl
@[simp] theorem State.withPower_pins (x : Power) : (s.withPower x).pins = s.pins := rfl
@[simp] theorem State.withPower_link (x : Power) : (s.withPower x).link = s.link := rfl
@[simp] theorem State.withPower_attn (x : Power) : (s.withPower x).attn = s.attn := rfl
@[simp] theorem State.withPower_orders (x : Power) : (s.withPower x).orders = s.orders := rfl
@[simp] theorem State.withPower_metering (x : Power) : (s.withPower x).metering = s.metering := rfl
@[simp] theorem State.withPower_billing (x : Power) : (s.withPower x).billing = s.billing := rfl
@[simp] theorem State.withPower_power (x : Power) : (s.withPower x).power = x := rfl
@[simp] theorem State.withPower_heating (x : Power) : (s.withPower x).heating = s.heating := rfl
@[simp] theorem State.withPower_insulation (x : Power) : (s.withPower x).insulation = s.insulation := rfl
@[simp] theorem State.withPower_relay (x : Power) : (s.withPower x).relay = s.relay := rfl
@[simp] theorem State.withPower_trips (x : Power) : (s.withPower x).trips = s.trips := rfl
@[simp] theorem State.withPower_statusSeq (x : Power) : (s.withPower x).statusSeq = s.statusSeq := rfl
@[simp] theorem State.withPower_pending (x : Power) : (s.withPower x).pending = s.pending := rfl

/-! ## withHeating -/

@[simp] theorem State.withHeating_mem (x : Heating) : (s.withHeating x).mem = s.mem := rfl
@[simp] theorem State.withHeating_pins (x : Heating) : (s.withHeating x).pins = s.pins := rfl
@[simp] theorem State.withHeating_link (x : Heating) : (s.withHeating x).link = s.link := rfl
@[simp] theorem State.withHeating_attn (x : Heating) : (s.withHeating x).attn = s.attn := rfl
@[simp] theorem State.withHeating_orders (x : Heating) : (s.withHeating x).orders = s.orders := rfl
@[simp] theorem State.withHeating_metering (x : Heating) : (s.withHeating x).metering = s.metering := rfl
@[simp] theorem State.withHeating_billing (x : Heating) : (s.withHeating x).billing = s.billing := rfl
@[simp] theorem State.withHeating_power (x : Heating) : (s.withHeating x).power = s.power := rfl
@[simp] theorem State.withHeating_heating (x : Heating) : (s.withHeating x).heating = x := rfl
@[simp] theorem State.withHeating_insulation (x : Heating) : (s.withHeating x).insulation = s.insulation := rfl
@[simp] theorem State.withHeating_relay (x : Heating) : (s.withHeating x).relay = s.relay := rfl
@[simp] theorem State.withHeating_trips (x : Heating) : (s.withHeating x).trips = s.trips := rfl
@[simp] theorem State.withHeating_statusSeq (x : Heating) : (s.withHeating x).statusSeq = s.statusSeq := rfl
@[simp] theorem State.withHeating_pending (x : Heating) : (s.withHeating x).pending = s.pending := rfl

/-! ## withInsulation -/

@[simp] theorem State.withInsulation_mem (x : Insulation) : (s.withInsulation x).mem = s.mem := rfl
@[simp] theorem State.withInsulation_pins (x : Insulation) : (s.withInsulation x).pins = s.pins := rfl
@[simp] theorem State.withInsulation_link (x : Insulation) : (s.withInsulation x).link = s.link := rfl
@[simp] theorem State.withInsulation_attn (x : Insulation) : (s.withInsulation x).attn = s.attn := rfl
@[simp] theorem State.withInsulation_orders (x : Insulation) : (s.withInsulation x).orders = s.orders := rfl
@[simp] theorem State.withInsulation_metering (x : Insulation) : (s.withInsulation x).metering = s.metering := rfl
@[simp] theorem State.withInsulation_billing (x : Insulation) : (s.withInsulation x).billing = s.billing := rfl
@[simp] theorem State.withInsulation_power (x : Insulation) : (s.withInsulation x).power = s.power := rfl
@[simp] theorem State.withInsulation_heating (x : Insulation) : (s.withInsulation x).heating = s.heating := rfl
@[simp] theorem State.withInsulation_insulation (x : Insulation) : (s.withInsulation x).insulation = x := rfl
@[simp] theorem State.withInsulation_relay (x : Insulation) : (s.withInsulation x).relay = s.relay := rfl
@[simp] theorem State.withInsulation_trips (x : Insulation) : (s.withInsulation x).trips = s.trips := rfl
@[simp] theorem State.withInsulation_statusSeq (x : Insulation) : (s.withInsulation x).statusSeq = s.statusSeq := rfl
@[simp] theorem State.withInsulation_pending (x : Insulation) : (s.withInsulation x).pending = s.pending := rfl

/-! ## withRelay -/

@[simp] theorem State.withRelay_mem (x : Relay) : (s.withRelay x).mem = s.mem := rfl
@[simp] theorem State.withRelay_pins (x : Relay) : (s.withRelay x).pins = s.pins := rfl
@[simp] theorem State.withRelay_link (x : Relay) : (s.withRelay x).link = s.link := rfl
@[simp] theorem State.withRelay_attn (x : Relay) : (s.withRelay x).attn = s.attn := rfl
@[simp] theorem State.withRelay_orders (x : Relay) : (s.withRelay x).orders = s.orders := rfl
@[simp] theorem State.withRelay_metering (x : Relay) : (s.withRelay x).metering = s.metering := rfl
@[simp] theorem State.withRelay_billing (x : Relay) : (s.withRelay x).billing = s.billing := rfl
@[simp] theorem State.withRelay_power (x : Relay) : (s.withRelay x).power = s.power := rfl
@[simp] theorem State.withRelay_heating (x : Relay) : (s.withRelay x).heating = s.heating := rfl
@[simp] theorem State.withRelay_insulation (x : Relay) : (s.withRelay x).insulation = s.insulation := rfl
@[simp] theorem State.withRelay_relay (x : Relay) : (s.withRelay x).relay = x := rfl
@[simp] theorem State.withRelay_trips (x : Relay) : (s.withRelay x).trips = s.trips := rfl
@[simp] theorem State.withRelay_statusSeq (x : Relay) : (s.withRelay x).statusSeq = s.statusSeq := rfl
@[simp] theorem State.withRelay_pending (x : Relay) : (s.withRelay x).pending = s.pending := rfl

/-! ## withTrips -/

@[simp] theorem State.withTrips_mem (x : Trips) : (s.withTrips x).mem = s.mem := rfl
@[simp] theorem State.withTrips_pins (x : Trips) : (s.withTrips x).pins = s.pins := rfl
@[simp] theorem State.withTrips_link (x : Trips) : (s.withTrips x).link = s.link := rfl
@[simp] theorem State.withTrips_attn (x : Trips) : (s.withTrips x).attn = s.attn := rfl
@[simp] theorem State.withTrips_orders (x : Trips) : (s.withTrips x).orders = s.orders := rfl
@[simp] theorem State.withTrips_metering (x : Trips) : (s.withTrips x).metering = s.metering := rfl
@[simp] theorem State.withTrips_billing (x : Trips) : (s.withTrips x).billing = s.billing := rfl
@[simp] theorem State.withTrips_power (x : Trips) : (s.withTrips x).power = s.power := rfl
@[simp] theorem State.withTrips_heating (x : Trips) : (s.withTrips x).heating = s.heating := rfl
@[simp] theorem State.withTrips_insulation (x : Trips) : (s.withTrips x).insulation = s.insulation := rfl
@[simp] theorem State.withTrips_relay (x : Trips) : (s.withTrips x).relay = s.relay := rfl
@[simp] theorem State.withTrips_trips (x : Trips) : (s.withTrips x).trips = x := rfl
@[simp] theorem State.withTrips_statusSeq (x : Trips) : (s.withTrips x).statusSeq = s.statusSeq := rfl
@[simp] theorem State.withTrips_pending (x : Trips) : (s.withTrips x).pending = s.pending := rfl

/-! ## withStatusSeq -/

@[simp] theorem State.withStatusSeq_mem (x : Word) : (s.withStatusSeq x).mem = s.mem := rfl
@[simp] theorem State.withStatusSeq_pins (x : Word) : (s.withStatusSeq x).pins = s.pins := rfl
@[simp] theorem State.withStatusSeq_link (x : Word) : (s.withStatusSeq x).link = s.link := rfl
@[simp] theorem State.withStatusSeq_attn (x : Word) : (s.withStatusSeq x).attn = s.attn := rfl
@[simp] theorem State.withStatusSeq_orders (x : Word) : (s.withStatusSeq x).orders = s.orders := rfl
@[simp] theorem State.withStatusSeq_metering (x : Word) : (s.withStatusSeq x).metering = s.metering := rfl
@[simp] theorem State.withStatusSeq_billing (x : Word) : (s.withStatusSeq x).billing = s.billing := rfl
@[simp] theorem State.withStatusSeq_power (x : Word) : (s.withStatusSeq x).power = s.power := rfl
@[simp] theorem State.withStatusSeq_heating (x : Word) : (s.withStatusSeq x).heating = s.heating := rfl
@[simp] theorem State.withStatusSeq_insulation (x : Word) : (s.withStatusSeq x).insulation = s.insulation := rfl
@[simp] theorem State.withStatusSeq_relay (x : Word) : (s.withStatusSeq x).relay = s.relay := rfl
@[simp] theorem State.withStatusSeq_trips (x : Word) : (s.withStatusSeq x).trips = s.trips := rfl
@[simp] theorem State.withStatusSeq_statusSeq (x : Word) : (s.withStatusSeq x).statusSeq = x := rfl
@[simp] theorem State.withStatusSeq_pending (x : Word) : (s.withStatusSeq x).pending = s.pending := rfl

/-! ## withPending -/

@[simp] theorem State.withPending_mem (x : List Instr) : (s.withPending x).mem = s.mem := rfl
@[simp] theorem State.withPending_pins (x : List Instr) : (s.withPending x).pins = s.pins := rfl
@[simp] theorem State.withPending_link (x : List Instr) : (s.withPending x).link = s.link := rfl
@[simp] theorem State.withPending_attn (x : List Instr) : (s.withPending x).attn = s.attn := rfl
@[simp] theorem State.withPending_orders (x : List Instr) : (s.withPending x).orders = s.orders := rfl
@[simp] theorem State.withPending_metering (x : List Instr) : (s.withPending x).metering = s.metering := rfl
@[simp] theorem State.withPending_billing (x : List Instr) : (s.withPending x).billing = s.billing := rfl
@[simp] theorem State.withPending_power (x : List Instr) : (s.withPending x).power = s.power := rfl
@[simp] theorem State.withPending_heating (x : List Instr) : (s.withPending x).heating = s.heating := rfl
@[simp] theorem State.withPending_insulation (x : List Instr) : (s.withPending x).insulation = s.insulation := rfl
@[simp] theorem State.withPending_relay (x : List Instr) : (s.withPending x).relay = s.relay := rfl
@[simp] theorem State.withPending_trips (x : List Instr) : (s.withPending x).trips = s.trips := rfl
@[simp] theorem State.withPending_statusSeq (x : List Instr) : (s.withPending x).statusSeq = s.statusSeq := rfl
@[simp] theorem State.withPending_pending (x : List Instr) : (s.withPending x).pending = x := rfl

end Sys2Proof.Machine
end

