-- ==== Sys2Proof/Laws/Memory.lean ====
section
/-! SUPPORT. The exchange memory: the canonical form is kept by every write, a byte written reads
back, and every other byte reads as before. -/

namespace Sys2Proof.Machine

/-! ## The canonical form -/

theorem Memory.wfFrom_cons (lo a : Nat) (v : Byte) (m : Memory) :
    Memory.wfFrom lo ((a, v) :: m) = true ↔
      lo ≤ a ∧ a < Config.memSize ∧ v ≠ 0 ∧ Memory.wfFrom (a + 1) m = true := by
  simp [Memory.wfFrom, and_assoc]

theorem Memory.wfFrom_mono {lo lo' : Nat} {m : Memory} (h : lo' ≤ lo)
    (hm : Memory.wfFrom lo m = true) : Memory.wfFrom lo' m = true := by
  cases m with
  | nil => rfl
  | cons c m =>
    obtain ⟨a, v⟩ := c
    rw [Memory.wfFrom_cons] at hm ⊢
    exact ⟨h.trans hm.1, hm.2⟩

/-- An address below the first listed one reads 00h. -/
theorem Memory.read_below {lo a : Nat} {m : Memory} (hm : Memory.wfFrom lo m = true)
    (h : a < lo) : Memory.read m a = 0 := by
  induction m generalizing lo with
  | nil => rfl
  | cons c m ih =>
    obtain ⟨b, v⟩ := c
    rw [Memory.wfFrom_cons] at hm
    have hb : b ≠ a := by omega
    simp only [Memory.read, if_neg hb]
    exact ih hm.2.2.2 (by omega)

theorem Memory.insert_wfFrom {lo a : Nat} {m : Memory} (v : Byte)
    (hm : Memory.wfFrom lo m = true) (hlo : lo ≤ a) (ha : a < Config.memSize) :
    Memory.wfFrom lo (Memory.insert m a v) = true := by
  induction m generalizing lo with
  | nil =>
    unfold Memory.insert
    split
    · rfl
    · rename_i hv
      exact (Memory.wfFrom_cons _ _ _ _).2 ⟨hlo, ha, hv, rfl⟩
  | cons c m ih =>
    obtain ⟨b, w⟩ := c
    rw [Memory.wfFrom_cons] at hm
    obtain ⟨h1, h2, h3, h4⟩ := hm
    unfold Memory.insert
    split
    · rename_i hab
      split
      · exact (Memory.wfFrom_cons _ _ _ _).2 ⟨h1, h2, h3, h4⟩
      · rename_i hv
        exact (Memory.wfFrom_cons _ _ _ _).2
          ⟨hlo, ha, hv, (Memory.wfFrom_cons _ _ _ _).2 ⟨by omega, h2, h3, h4⟩⟩
    · split
      · rename_i hab
        subst hab
        split
        · exact Memory.wfFrom_mono (by omega) h4
        · rename_i hv
          exact (Memory.wfFrom_cons _ _ _ _).2 ⟨hlo, ha, hv, h4⟩
      · exact (Memory.wfFrom_cons _ _ _ _).2 ⟨h1, h2, h3, ih h4 (by omega)⟩

/-- One part write keeps the canonical form. -/
theorem Memory.write_wf {m : Memory} (a : Nat) (v : Byte) (hm : m.wf = true) :
    (m.write a v).wf = true := by
  unfold Memory.write
  split
  · exact Memory.insert_wfFrom v hm (Nat.zero_le _) ‹_›
  · exact hm

/-- A write of consecutive bytes keeps the canonical form. -/
theorem Memory.writeAll_wf {m : Memory} (a : Nat) (vs : List Byte) (hm : m.wf = true) :
    (m.writeAll a vs).wf = true := by
  induction vs generalizing m a with
  | nil => exact hm
  | cons v vs ih => exact ih (a + 1) (Memory.write_wf a v hm)

/-- The memory after a power-on reset has the canonical form. -/
theorem resetMemory_wf : Memory.wf resetMemory = true := by decide

/-! ## Reading back -/

theorem Memory.read_insert_same {lo a : Nat} {m : Memory} (v : Byte)
    (hm : Memory.wfFrom lo m = true) : Memory.read (Memory.insert m a v) a = v := by
  induction m generalizing lo with
  | nil =>
    unfold Memory.insert
    split
    · exact (‹v = 0› : v = 0).symm
    · simp [Memory.read]
  | cons c m ih =>
    obtain ⟨b, w⟩ := c
    rw [Memory.wfFrom_cons] at hm
    obtain ⟨-, -, -, h4⟩ := hm
    unfold Memory.insert
    split
    · rename_i hab
      split
      · rename_i hv
        have : b ≠ a := by omega
        simp only [Memory.read, if_neg this, hv]
        exact Memory.read_below h4 (by omega)
      · simp [Memory.read]
    · split
      · rename_i hab
        subst hab
        split
        · rename_i hv
          rw [hv]
          exact Memory.read_below h4 (by omega)
        · simp [Memory.read]
      · rename_i h1 h2
        have : b ≠ a := fun h => h2 h.symm
        simp only [Memory.read, if_neg this]
        exact ih h4

theorem Memory.read_insert_other {a c : Nat} (m : Memory) (v : Byte) (h : c ≠ a) :
    Memory.read (Memory.insert m a v) c = Memory.read m c := by
  induction m with
  | nil =>
    unfold Memory.insert
    split
    · rfl
    · simp [Memory.read, h.symm]
  | cons x m ih =>
    obtain ⟨b, w⟩ := x
    unfold Memory.insert
    split
    · split
      · rfl
      · simp only [Memory.read, if_neg h.symm]
    · split
      · rename_i hab
        subst hab
        split
        · simp only [Memory.read, if_neg h.symm]
        · simp only [Memory.read, if_neg h.symm]
      · simp only [Memory.read, ih]

/-- A byte written inside the memory reads back. -/
theorem Memory.read_write_same {m : Memory} {a : Nat} (v : Byte) (hm : m.wf = true)
    (ha : a < Config.memSize) : (m.write a v).read a = v := by
  unfold Memory.write
  rw [if_pos ha]
  exact Memory.read_insert_same v hm

/-- A write leaves every other byte as it was. -/
theorem Memory.read_write_other {a c : Nat} (m : Memory) (v : Byte) (h : c ≠ a) :
    (m.write a v).read c = m.read c := by
  unfold Memory.write
  split
  · exact Memory.read_insert_other m v h
  · rfl

/-- A write of consecutive bytes leaves every byte outside them as it was. -/
theorem Memory.read_writeAll_other {c : Nat} (m : Memory) (a : Nat) (vs : List Byte)
    (h : c < a ∨ a + vs.length ≤ c) : (m.writeAll a vs).read c = m.read c := by
  induction vs generalizing m a with
  | nil => rfl
  | cons v vs ih =>
    simp only [List.length_cons] at h
    have h1 : c < a + 1 ∨ a + 1 + vs.length ≤ c := by omega
    rw [Memory.writeAll, ih _ _ h1, Memory.read_write_other _ _ (by omega)]

/-- Consecutive bytes written inside the memory read back. -/
theorem Memory.readAll_writeAll {m : Memory} (a : Nat) (vs : List Byte) (hm : m.wf = true)
    (h : a + vs.length ≤ Config.memSize) : (m.writeAll a vs).readAll a vs.length = vs := by
  induction vs generalizing m a with
  | nil => rfl
  | cons v vs ih =>
    simp only [List.length_cons] at h
    simp only [List.length_cons, Memory.readAll, Memory.writeAll]
    rw [ih (a + 1) (Memory.write_wf a v hm) (by omega),
      Memory.read_writeAll_other _ _ _ (Or.inl (by omega)),
      Memory.read_write_same v hm (by omega)]

/-- Reads of a run of bytes agree where every byte of the run does. -/
theorem Memory.readAll_congr {m m' : Memory} (a n : Nat)
    (h : ∀ c, a ≤ c → c < a + n → m.read c = m'.read c) : m.readAll a n = m'.readAll a n := by
  induction n generalizing a with
  | zero => rfl
  | succ n ih =>
    simp only [Memory.readAll]
    rw [h a (by omega) (by omega), ih (a + 1) fun c h1 h2 => h c (by omega) (by omega)]

/-- A write of consecutive bytes leaves a run of bytes outside them as it was. -/
theorem Memory.readAll_writeAll_other (m : Memory) (a n b : Nat) (vs : List Byte)
    (h : b + n ≤ a ∨ a + vs.length ≤ b) : (m.writeAll a vs).readAll b n = m.readAll b n :=
  Memory.readAll_congr b n fun c h1 h2 =>
    Memory.read_writeAll_other m a vs (by omega)

/-- A write leaves a run of bytes outside it as it was. -/
theorem Memory.readAll_write_other (m : Memory) (a n b : Nat) (v : Byte)
    (h : b + n ≤ a ∨ a < b) : (m.write a v).readAll b n = m.readAll b n :=
  Memory.readAll_congr b n fun c h1 h2 => Memory.read_write_other m v (by omega)

end Sys2Proof.Machine
end

