-- ==== Sys2Proof/Laws/FramesOps.lean ====
section
/-! SUPPORT. Frames: which parts of State each shared operation of these machine files leaves as
they were, one lemma per operation per part. -/

namespace Sys2Proof.Machine

/-! ## Machine/Ops.lean -/

@[simp] theorem State.poke_pins (s : State) (a : Nat) (v : Byte) :
    (State.poke s a v).pins = s.pins := by simp [State.poke]
@[simp] theorem State.poke_link (s : State) (a : Nat) (v : Byte) :
    (State.poke s a v).link = s.link := by simp [State.poke]
@[simp] theorem State.poke_attn (s : State) (a : Nat) (v : Byte) :
    (State.poke s a v).attn = s.attn := by simp [State.poke]
@[simp] theorem State.poke_orders (s : State) (a : Nat) (v : Byte) :
    (State.poke s a v).orders = s.orders := by simp [State.poke]
@[simp] theorem State.poke_metering (s : State) (a : Nat) (v : Byte) :
    (State.poke s a v).metering = s.metering := by simp [State.poke]
@[simp] theorem State.poke_billing (s : State) (a : Nat) (v : Byte) :
    (State.poke s a v).billing = s.billing := by simp [State.poke]
@[simp] theorem State.poke_power (s : State) (a : Nat) (v : Byte) :
    (State.poke s a v).power = s.power := by simp [State.poke]
@[simp] theorem State.poke_heating (s : State) (a : Nat) (v : Byte) :
    (State.poke s a v).heating = s.heating := by simp [State.poke]
@[simp] theorem State.poke_insulation (s : State) (a : Nat) (v : Byte) :
    (State.poke s a v).insulation = s.insulation := by simp [State.poke]
@[simp] theorem State.poke_relay (s : State) (a : Nat) (v : Byte) :
    (State.poke s a v).relay = s.relay := by simp [State.poke]
@[simp] theorem State.poke_trips (s : State) (a : Nat) (v : Byte) :
    (State.poke s a v).trips = s.trips := by simp [State.poke]
@[simp] theorem State.poke_statusSeq (s : State) (a : Nat) (v : Byte) :
    (State.poke s a v).statusSeq = s.statusSeq := by simp [State.poke]
@[simp] theorem State.poke_pending (s : State) (a : Nat) (v : Byte) :
    (State.poke s a v).pending = s.pending := by simp [State.poke]

@[simp] theorem State.pokeAll_pins (s : State) (a : Nat) (vs : List Byte) :
    (State.pokeAll s a vs).pins = s.pins := by simp [State.pokeAll]
@[simp] theorem State.pokeAll_link (s : State) (a : Nat) (vs : List Byte) :
    (State.pokeAll s a vs).link = s.link := by simp [State.pokeAll]
@[simp] theorem State.pokeAll_attn (s : State) (a : Nat) (vs : List Byte) :
    (State.pokeAll s a vs).attn = s.attn := by simp [State.pokeAll]
@[simp] theorem State.pokeAll_orders (s : State) (a : Nat) (vs : List Byte) :
    (State.pokeAll s a vs).orders = s.orders := by simp [State.pokeAll]
@[simp] theorem State.pokeAll_metering (s : State) (a : Nat) (vs : List Byte) :
    (State.pokeAll s a vs).metering = s.metering := by simp [State.pokeAll]
@[simp] theorem State.pokeAll_billing (s : State) (a : Nat) (vs : List Byte) :
    (State.pokeAll s a vs).billing = s.billing := by simp [State.pokeAll]
@[simp] theorem State.pokeAll_power (s : State) (a : Nat) (vs : List Byte) :
    (State.pokeAll s a vs).power = s.power := by simp [State.pokeAll]
@[simp] theorem State.pokeAll_heating (s : State) (a : Nat) (vs : List Byte) :
    (State.pokeAll s a vs).heating = s.heating := by simp [State.pokeAll]
@[simp] theorem State.pokeAll_insulation (s : State) (a : Nat) (vs : List Byte) :
    (State.pokeAll s a vs).insulation = s.insulation := by simp [State.pokeAll]
@[simp] theorem State.pokeAll_relay (s : State) (a : Nat) (vs : List Byte) :
    (State.pokeAll s a vs).relay = s.relay := by simp [State.pokeAll]
@[simp] theorem State.pokeAll_trips (s : State) (a : Nat) (vs : List Byte) :
    (State.pokeAll s a vs).trips = s.trips := by simp [State.pokeAll]
@[simp] theorem State.pokeAll_statusSeq (s : State) (a : Nat) (vs : List Byte) :
    (State.pokeAll s a vs).statusSeq = s.statusSeq := by simp [State.pokeAll]
@[simp] theorem State.pokeAll_pending (s : State) (a : Nat) (vs : List Byte) :
    (State.pokeAll s a vs).pending = s.pending := by simp [State.pokeAll]

@[simp] theorem State.raise_mem (s : State) (c : Cause) :
    (State.raise s c).mem = s.mem := by simp [State.raise]
@[simp] theorem State.raise_pins (s : State) (c : Cause) :
    (State.raise s c).pins = s.pins := by simp [State.raise]
@[simp] theorem State.raise_link (s : State) (c : Cause) :
    (State.raise s c).link = s.link := by simp [State.raise]
@[simp] theorem State.raise_orders (s : State) (c : Cause) :
    (State.raise s c).orders = s.orders := by simp [State.raise]
@[simp] theorem State.raise_metering (s : State) (c : Cause) :
    (State.raise s c).metering = s.metering := by simp [State.raise]
@[simp] theorem State.raise_billing (s : State) (c : Cause) :
    (State.raise s c).billing = s.billing := by simp [State.raise]
@[simp] theorem State.raise_power (s : State) (c : Cause) :
    (State.raise s c).power = s.power := by simp [State.raise]
@[simp] theorem State.raise_heating (s : State) (c : Cause) :
    (State.raise s c).heating = s.heating := by simp [State.raise]
@[simp] theorem State.raise_insulation (s : State) (c : Cause) :
    (State.raise s c).insulation = s.insulation := by simp [State.raise]
@[simp] theorem State.raise_relay (s : State) (c : Cause) :
    (State.raise s c).relay = s.relay := by simp [State.raise]
@[simp] theorem State.raise_trips (s : State) (c : Cause) :
    (State.raise s c).trips = s.trips := by simp [State.raise]
@[simp] theorem State.raise_statusSeq (s : State) (c : Cause) :
    (State.raise s c).statusSeq = s.statusSeq := by simp [State.raise]
@[simp] theorem State.raise_pending (s : State) (c : Cause) :
    (State.raise s c).pending = s.pending := by simp [State.raise]

@[simp] theorem State.clear_mem (s : State) (c : Cause) :
    (State.clear s c).mem = s.mem := by simp [State.clear]
@[simp] theorem State.clear_pins (s : State) (c : Cause) :
    (State.clear s c).pins = s.pins := by simp [State.clear]
@[simp] theorem State.clear_link (s : State) (c : Cause) :
    (State.clear s c).link = s.link := by simp [State.clear]
@[simp] theorem State.clear_orders (s : State) (c : Cause) :
    (State.clear s c).orders = s.orders := by simp [State.clear]
@[simp] theorem State.clear_metering (s : State) (c : Cause) :
    (State.clear s c).metering = s.metering := by simp [State.clear]
@[simp] theorem State.clear_billing (s : State) (c : Cause) :
    (State.clear s c).billing = s.billing := by simp [State.clear]
@[simp] theorem State.clear_power (s : State) (c : Cause) :
    (State.clear s c).power = s.power := by simp [State.clear]
@[simp] theorem State.clear_heating (s : State) (c : Cause) :
    (State.clear s c).heating = s.heating := by simp [State.clear]
@[simp] theorem State.clear_insulation (s : State) (c : Cause) :
    (State.clear s c).insulation = s.insulation := by simp [State.clear]
@[simp] theorem State.clear_relay (s : State) (c : Cause) :
    (State.clear s c).relay = s.relay := by simp [State.clear]
@[simp] theorem State.clear_trips (s : State) (c : Cause) :
    (State.clear s c).trips = s.trips := by simp [State.clear]
@[simp] theorem State.clear_statusSeq (s : State) (c : Cause) :
    (State.clear s c).statusSeq = s.statusSeq := by simp [State.clear]
@[simp] theorem State.clear_pending (s : State) (c : Cause) :
    (State.clear s c).pending = s.pending := by simp [State.clear]

@[simp] theorem State.setSlot_mem (s : State) (n : SlotNo) (r : Slot) :
    (State.setSlot s n r).mem = s.mem := by simp [State.setSlot]
@[simp] theorem State.setSlot_pins (s : State) (n : SlotNo) (r : Slot) :
    (State.setSlot s n r).pins = s.pins := by simp [State.setSlot]
@[simp] theorem State.setSlot_link (s : State) (n : SlotNo) (r : Slot) :
    (State.setSlot s n r).link = s.link := by simp [State.setSlot]
@[simp] theorem State.setSlot_attn (s : State) (n : SlotNo) (r : Slot) :
    (State.setSlot s n r).attn = s.attn := by simp [State.setSlot]
@[simp] theorem State.setSlot_metering (s : State) (n : SlotNo) (r : Slot) :
    (State.setSlot s n r).metering = s.metering := by simp [State.setSlot]
@[simp] theorem State.setSlot_billing (s : State) (n : SlotNo) (r : Slot) :
    (State.setSlot s n r).billing = s.billing := by simp [State.setSlot]
@[simp] theorem State.setSlot_power (s : State) (n : SlotNo) (r : Slot) :
    (State.setSlot s n r).power = s.power := by simp [State.setSlot]
@[simp] theorem State.setSlot_heating (s : State) (n : SlotNo) (r : Slot) :
    (State.setSlot s n r).heating = s.heating := by simp [State.setSlot]
@[simp] theorem State.setSlot_insulation (s : State) (n : SlotNo) (r : Slot) :
    (State.setSlot s n r).insulation = s.insulation := by simp [State.setSlot]
@[simp] theorem State.setSlot_relay (s : State) (n : SlotNo) (r : Slot) :
    (State.setSlot s n r).relay = s.relay := by simp [State.setSlot]
@[simp] theorem State.setSlot_trips (s : State) (n : SlotNo) (r : Slot) :
    (State.setSlot s n r).trips = s.trips := by simp [State.setSlot]
@[simp] theorem State.setSlot_statusSeq (s : State) (n : SlotNo) (r : Slot) :
    (State.setSlot s n r).statusSeq = s.statusSeq := by simp [State.setSlot]
@[simp] theorem State.setSlot_pending (s : State) (n : SlotNo) (r : Slot) :
    (State.setSlot s n r).pending = s.pending := by simp [State.setSlot]

@[simp] theorem State.setSlotState_pins (s : State) (n : SlotNo) (st : SlotState) :
    (State.setSlotState s n st).pins = s.pins := by simp [State.setSlotState]
@[simp] theorem State.setSlotState_link (s : State) (n : SlotNo) (st : SlotState) :
    (State.setSlotState s n st).link = s.link := by simp [State.setSlotState]
@[simp] theorem State.setSlotState_attn (s : State) (n : SlotNo) (st : SlotState) :
    (State.setSlotState s n st).attn = s.attn := by simp [State.setSlotState]
@[simp] theorem State.setSlotState_metering (s : State) (n : SlotNo) (st : SlotState) :
    (State.setSlotState s n st).metering = s.metering := by simp [State.setSlotState]
@[simp] theorem State.setSlotState_billing (s : State) (n : SlotNo) (st : SlotState) :
    (State.setSlotState s n st).billing = s.billing := by simp [State.setSlotState]
@[simp] theorem State.setSlotState_power (s : State) (n : SlotNo) (st : SlotState) :
    (State.setSlotState s n st).power = s.power := by simp [State.setSlotState]
@[simp] theorem State.setSlotState_heating (s : State) (n : SlotNo) (st : SlotState) :
    (State.setSlotState s n st).heating = s.heating := by simp [State.setSlotState]
@[simp] theorem State.setSlotState_insulation (s : State) (n : SlotNo) (st : SlotState) :
    (State.setSlotState s n st).insulation = s.insulation := by simp [State.setSlotState]
@[simp] theorem State.setSlotState_relay (s : State) (n : SlotNo) (st : SlotState) :
    (State.setSlotState s n st).relay = s.relay := by simp [State.setSlotState]
@[simp] theorem State.setSlotState_trips (s : State) (n : SlotNo) (st : SlotState) :
    (State.setSlotState s n st).trips = s.trips := by simp [State.setSlotState]
@[simp] theorem State.setSlotState_statusSeq (s : State) (n : SlotNo) (st : SlotState) :
    (State.setSlotState s n st).statusSeq = s.statusSeq := by simp [State.setSlotState]
@[simp] theorem State.setSlotState_pending (s : State) (n : SlotNo) (st : SlotState) :
    (State.setSlotState s n st).pending = s.pending := by simp [State.setSlotState]

@[simp] theorem State.setQueue_mem (s : State) (b : Block) (l : List SlotNo) :
    (State.setQueue s b l).mem = s.mem := by simp [State.setQueue]
@[simp] theorem State.setQueue_pins (s : State) (b : Block) (l : List SlotNo) :
    (State.setQueue s b l).pins = s.pins := by simp [State.setQueue]
@[simp] theorem State.setQueue_link (s : State) (b : Block) (l : List SlotNo) :
    (State.setQueue s b l).link = s.link := by simp [State.setQueue]
@[simp] theorem State.setQueue_attn (s : State) (b : Block) (l : List SlotNo) :
    (State.setQueue s b l).attn = s.attn := by simp [State.setQueue]
@[simp] theorem State.setQueue_metering (s : State) (b : Block) (l : List SlotNo) :
    (State.setQueue s b l).metering = s.metering := by simp [State.setQueue]
@[simp] theorem State.setQueue_billing (s : State) (b : Block) (l : List SlotNo) :
    (State.setQueue s b l).billing = s.billing := by simp [State.setQueue]
@[simp] theorem State.setQueue_power (s : State) (b : Block) (l : List SlotNo) :
    (State.setQueue s b l).power = s.power := by simp [State.setQueue]
@[simp] theorem State.setQueue_heating (s : State) (b : Block) (l : List SlotNo) :
    (State.setQueue s b l).heating = s.heating := by simp [State.setQueue]
@[simp] theorem State.setQueue_insulation (s : State) (b : Block) (l : List SlotNo) :
    (State.setQueue s b l).insulation = s.insulation := by simp [State.setQueue]
@[simp] theorem State.setQueue_relay (s : State) (b : Block) (l : List SlotNo) :
    (State.setQueue s b l).relay = s.relay := by simp [State.setQueue]
@[simp] theorem State.setQueue_trips (s : State) (b : Block) (l : List SlotNo) :
    (State.setQueue s b l).trips = s.trips := by simp [State.setQueue]
@[simp] theorem State.setQueue_statusSeq (s : State) (b : Block) (l : List SlotNo) :
    (State.setQueue s b l).statusSeq = s.statusSeq := by simp [State.setQueue]
@[simp] theorem State.setQueue_pending (s : State) (b : Block) (l : List SlotNo) :
    (State.setQueue s b l).pending = s.pending := by simp [State.setQueue]

@[simp] theorem State.finish_pins (s : State) (n : SlotNo) (e : Ending) :
    (State.finish s n e).pins = s.pins := by simp [State.finish]
@[simp] theorem State.finish_link (s : State) (n : SlotNo) (e : Ending) :
    (State.finish s n e).link = s.link := by simp [State.finish]
@[simp] theorem State.finish_metering (s : State) (n : SlotNo) (e : Ending) :
    (State.finish s n e).metering = s.metering := by simp [State.finish]
@[simp] theorem State.finish_billing (s : State) (n : SlotNo) (e : Ending) :
    (State.finish s n e).billing = s.billing := by simp [State.finish]
@[simp] theorem State.finish_power (s : State) (n : SlotNo) (e : Ending) :
    (State.finish s n e).power = s.power := by simp [State.finish]
@[simp] theorem State.finish_heating (s : State) (n : SlotNo) (e : Ending) :
    (State.finish s n e).heating = s.heating := by simp [State.finish]
@[simp] theorem State.finish_insulation (s : State) (n : SlotNo) (e : Ending) :
    (State.finish s n e).insulation = s.insulation := by simp [State.finish]
@[simp] theorem State.finish_relay (s : State) (n : SlotNo) (e : Ending) :
    (State.finish s n e).relay = s.relay := by simp [State.finish]
@[simp] theorem State.finish_trips (s : State) (n : SlotNo) (e : Ending) :
    (State.finish s n e).trips = s.trips := by simp [State.finish]
@[simp] theorem State.finish_statusSeq (s : State) (n : SlotNo) (e : Ending) :
    (State.finish s n e).statusSeq = s.statusSeq := by simp [State.finish]
@[simp] theorem State.finish_pending (s : State) (n : SlotNo) (e : Ending) :
    (State.finish s n e).pending = s.pending := by simp [State.finish]

/-! ## Machine/Drive.lean -/

@[simp] theorem State.watchDrives_mem (s : State) :
    (State.watchDrives s).mem = s.mem := by simp [State.watchDrives]
@[simp] theorem State.watchDrives_pins (s : State) :
    (State.watchDrives s).pins = s.pins := by simp [State.watchDrives]
@[simp] theorem State.watchDrives_link (s : State) :
    (State.watchDrives s).link = s.link := by simp [State.watchDrives]
@[simp] theorem State.watchDrives_attn (s : State) :
    (State.watchDrives s).attn = s.attn := by simp [State.watchDrives]
@[simp] theorem State.watchDrives_orders (s : State) :
    (State.watchDrives s).orders = s.orders := by simp [State.watchDrives]
@[simp] theorem State.watchDrives_metering (s : State) :
    (State.watchDrives s).metering = s.metering := by simp [State.watchDrives]
@[simp] theorem State.watchDrives_billing (s : State) :
    (State.watchDrives s).billing = s.billing := by simp [State.watchDrives]
@[simp] theorem State.watchDrives_power (s : State) :
    (State.watchDrives s).power = s.power := by simp [State.watchDrives]
@[simp] theorem State.watchDrives_heating (s : State) :
    (State.watchDrives s).heating = s.heating := by simp [State.watchDrives]
@[simp] theorem State.watchDrives_relay (s : State) :
    (State.watchDrives s).relay = s.relay := by simp [State.watchDrives]
@[simp] theorem State.watchDrives_trips (s : State) :
    (State.watchDrives s).trips = s.trips := by simp [State.watchDrives]
@[simp] theorem State.watchDrives_statusSeq (s : State) :
    (State.watchDrives s).statusSeq = s.statusSeq := by simp [State.watchDrives]
@[simp] theorem State.watchDrives_pending (s : State) :
    (State.watchDrives s).pending = s.pending := by simp [State.watchDrives]

@[simp] theorem State.setDemand_mem (s : State) (d : Nat) :
    (State.setDemand s d).mem = s.mem := by simp [State.setDemand]
@[simp] theorem State.setDemand_pins (s : State) (d : Nat) :
    (State.setDemand s d).pins = s.pins := by simp [State.setDemand]
@[simp] theorem State.setDemand_link (s : State) (d : Nat) :
    (State.setDemand s d).link = s.link := by simp [State.setDemand]
@[simp] theorem State.setDemand_attn (s : State) (d : Nat) :
    (State.setDemand s d).attn = s.attn := by simp [State.setDemand]
@[simp] theorem State.setDemand_orders (s : State) (d : Nat) :
    (State.setDemand s d).orders = s.orders := by simp [State.setDemand]
@[simp] theorem State.setDemand_metering (s : State) (d : Nat) :
    (State.setDemand s d).metering = s.metering := by simp [State.setDemand]
@[simp] theorem State.setDemand_billing (s : State) (d : Nat) :
    (State.setDemand s d).billing = s.billing := by simp [State.setDemand]
@[simp] theorem State.setDemand_heating (s : State) (d : Nat) :
    (State.setDemand s d).heating = s.heating := by simp [State.setDemand]
@[simp] theorem State.setDemand_relay (s : State) (d : Nat) :
    (State.setDemand s d).relay = s.relay := by simp [State.setDemand]
@[simp] theorem State.setDemand_trips (s : State) (d : Nat) :
    (State.setDemand s d).trips = s.trips := by simp [State.setDemand]
@[simp] theorem State.setDemand_statusSeq (s : State) (d : Nat) :
    (State.setDemand s d).statusSeq = s.statusSeq := by simp [State.setDemand]
@[simp] theorem State.setDemand_pending (s : State) (d : Nat) :
    (State.setDemand s d).pending = s.pending := by simp [State.setDemand]

@[simp] theorem State.setDuty_mem (s : State) (d : Nat) :
    (State.setDuty s d).mem = s.mem := by simp [State.setDuty]
@[simp] theorem State.setDuty_pins (s : State) (d : Nat) :
    (State.setDuty s d).pins = s.pins := by simp [State.setDuty]
@[simp] theorem State.setDuty_link (s : State) (d : Nat) :
    (State.setDuty s d).link = s.link := by simp [State.setDuty]
@[simp] theorem State.setDuty_attn (s : State) (d : Nat) :
    (State.setDuty s d).attn = s.attn := by simp [State.setDuty]
@[simp] theorem State.setDuty_orders (s : State) (d : Nat) :
    (State.setDuty s d).orders = s.orders := by simp [State.setDuty]
@[simp] theorem State.setDuty_metering (s : State) (d : Nat) :
    (State.setDuty s d).metering = s.metering := by simp [State.setDuty]
@[simp] theorem State.setDuty_billing (s : State) (d : Nat) :
    (State.setDuty s d).billing = s.billing := by simp [State.setDuty]
@[simp] theorem State.setDuty_heating (s : State) (d : Nat) :
    (State.setDuty s d).heating = s.heating := by simp [State.setDuty]
@[simp] theorem State.setDuty_relay (s : State) (d : Nat) :
    (State.setDuty s d).relay = s.relay := by simp [State.setDuty]
@[simp] theorem State.setDuty_trips (s : State) (d : Nat) :
    (State.setDuty s d).trips = s.trips := by simp [State.setDuty]
@[simp] theorem State.setDuty_statusSeq (s : State) (d : Nat) :
    (State.setDuty s d).statusSeq = s.statusSeq := by simp [State.setDuty]
@[simp] theorem State.setDuty_pending (s : State) (d : Nat) :
    (State.setDuty s d).pending = s.pending := by simp [State.setDuty]

@[simp] theorem State.setRelay_mem (s : State) (st : RelayState) (timer : Option Nat) (skips : Bool) :
    (State.setRelay s st timer skips).mem = s.mem := by simp [State.setRelay]
@[simp] theorem State.setRelay_pins (s : State) (st : RelayState) (timer : Option Nat) (skips : Bool) :
    (State.setRelay s st timer skips).pins = s.pins := by simp [State.setRelay]
@[simp] theorem State.setRelay_link (s : State) (st : RelayState) (timer : Option Nat) (skips : Bool) :
    (State.setRelay s st timer skips).link = s.link := by simp [State.setRelay]
@[simp] theorem State.setRelay_attn (s : State) (st : RelayState) (timer : Option Nat) (skips : Bool) :
    (State.setRelay s st timer skips).attn = s.attn := by simp [State.setRelay]
@[simp] theorem State.setRelay_orders (s : State) (st : RelayState) (timer : Option Nat) (skips : Bool) :
    (State.setRelay s st timer skips).orders = s.orders := by simp [State.setRelay]
@[simp] theorem State.setRelay_metering (s : State) (st : RelayState) (timer : Option Nat) (skips : Bool) :
    (State.setRelay s st timer skips).metering = s.metering := by simp [State.setRelay]
@[simp] theorem State.setRelay_billing (s : State) (st : RelayState) (timer : Option Nat) (skips : Bool) :
    (State.setRelay s st timer skips).billing = s.billing := by simp [State.setRelay]
@[simp] theorem State.setRelay_power (s : State) (st : RelayState) (timer : Option Nat) (skips : Bool) :
    (State.setRelay s st timer skips).power = s.power := by simp [State.setRelay]
@[simp] theorem State.setRelay_heating (s : State) (st : RelayState) (timer : Option Nat) (skips : Bool) :
    (State.setRelay s st timer skips).heating = s.heating := by simp [State.setRelay]
@[simp] theorem State.setRelay_insulation (s : State) (st : RelayState) (timer : Option Nat) (skips : Bool) :
    (State.setRelay s st timer skips).insulation = s.insulation := by simp [State.setRelay]
@[simp] theorem State.setRelay_trips (s : State) (st : RelayState) (timer : Option Nat) (skips : Bool) :
    (State.setRelay s st timer skips).trips = s.trips := by simp [State.setRelay]
@[simp] theorem State.setRelay_statusSeq (s : State) (st : RelayState) (timer : Option Nat) (skips : Bool) :
    (State.setRelay s st timer skips).statusSeq = s.statusSeq := by simp [State.setRelay]
@[simp] theorem State.setRelay_pending (s : State) (st : RelayState) (timer : Option Nat) (skips : Bool) :
    (State.setRelay s st timer skips).pending = s.pending := by simp [State.setRelay]

@[simp] theorem State.passStep2_mem (s : State) :
    (State.passStep2 s).mem = s.mem := by
  unfold State.passStep2
  split <;> simp
@[simp] theorem State.passStep2_pins (s : State) :
    (State.passStep2 s).pins = s.pins := by
  unfold State.passStep2
  split <;> simp
@[simp] theorem State.passStep2_link (s : State) :
    (State.passStep2 s).link = s.link := by
  unfold State.passStep2
  split <;> simp
@[simp] theorem State.passStep2_attn (s : State) :
    (State.passStep2 s).attn = s.attn := by
  unfold State.passStep2
  split <;> simp
@[simp] theorem State.passStep2_orders (s : State) :
    (State.passStep2 s).orders = s.orders := by
  unfold State.passStep2
  split <;> simp
@[simp] theorem State.passStep2_metering (s : State) :
    (State.passStep2 s).metering = s.metering := by
  unfold State.passStep2
  split <;> simp
@[simp] theorem State.passStep2_power (s : State) :
    (State.passStep2 s).power = s.power := by
  unfold State.passStep2
  split <;> simp
@[simp] theorem State.passStep2_heating (s : State) :
    (State.passStep2 s).heating = s.heating := by
  unfold State.passStep2
  split <;> simp
@[simp] theorem State.passStep2_insulation (s : State) :
    (State.passStep2 s).insulation = s.insulation := by
  unfold State.passStep2
  split <;> simp
@[simp] theorem State.passStep2_relay (s : State) :
    (State.passStep2 s).relay = s.relay := by
  unfold State.passStep2
  split <;> simp
@[simp] theorem State.passStep2_trips (s : State) :
    (State.passStep2 s).trips = s.trips := by
  unfold State.passStep2
  split <;> simp
@[simp] theorem State.passStep2_statusSeq (s : State) :
    (State.passStep2 s).statusSeq = s.statusSeq := by
  unfold State.passStep2
  split <;> simp
@[simp] theorem State.passStep2_pending (s : State) :
    (State.passStep2 s).pending = s.pending := by
  unfold State.passStep2
  split <;> simp

@[simp] theorem State.enterClosed_mem (s : State) :
    (State.enterClosed s).mem = s.mem := by simp [State.enterClosed]
@[simp] theorem State.enterClosed_pins (s : State) :
    (State.enterClosed s).pins = s.pins := by simp [State.enterClosed]
@[simp] theorem State.enterClosed_link (s : State) :
    (State.enterClosed s).link = s.link := by simp [State.enterClosed]
@[simp] theorem State.enterClosed_attn (s : State) :
    (State.enterClosed s).attn = s.attn := by simp [State.enterClosed]
@[simp] theorem State.enterClosed_orders (s : State) :
    (State.enterClosed s).orders = s.orders := by simp [State.enterClosed]
@[simp] theorem State.enterClosed_metering (s : State) :
    (State.enterClosed s).metering = s.metering := by simp [State.enterClosed]
@[simp] theorem State.enterClosed_billing (s : State) :
    (State.enterClosed s).billing = s.billing := by simp [State.enterClosed]
@[simp] theorem State.enterClosed_power (s : State) :
    (State.enterClosed s).power = s.power := by simp [State.enterClosed]
@[simp] theorem State.enterClosed_heating (s : State) :
    (State.enterClosed s).heating = s.heating := by simp [State.enterClosed]
@[simp] theorem State.enterClosed_insulation (s : State) :
    (State.enterClosed s).insulation = s.insulation := by simp [State.enterClosed]
@[simp] theorem State.enterClosed_trips (s : State) :
    (State.enterClosed s).trips = s.trips := by simp [State.enterClosed]
@[simp] theorem State.enterClosed_statusSeq (s : State) :
    (State.enterClosed s).statusSeq = s.statusSeq := by simp [State.enterClosed]
@[simp] theorem State.enterClosed_pending (s : State) :
    (State.enterClosed s).pending = s.pending := by simp [State.enterClosed]

@[simp] theorem State.enterClosing_mem (s : State) :
    (State.enterClosing s).mem = s.mem := by
  unfold State.enterClosing
  split <;> simp
@[simp] theorem State.enterClosing_pins (s : State) :
    (State.enterClosing s).pins = s.pins := by
  unfold State.enterClosing
  split <;> simp
@[simp] theorem State.enterClosing_link (s : State) :
    (State.enterClosing s).link = s.link := by
  unfold State.enterClosing
  split <;> simp
@[simp] theorem State.enterClosing_attn (s : State) :
    (State.enterClosing s).attn = s.attn := by
  unfold State.enterClosing
  split <;> simp
@[simp] theorem State.enterClosing_orders (s : State) :
    (State.enterClosing s).orders = s.orders := by
  unfold State.enterClosing
  split <;> simp
@[simp] theorem State.enterClosing_metering (s : State) :
    (State.enterClosing s).metering = s.metering := by
  unfold State.enterClosing
  split <;> simp
@[simp] theorem State.enterClosing_billing (s : State) :
    (State.enterClosing s).billing = s.billing := by
  unfold State.enterClosing
  split <;> simp
@[simp] theorem State.enterClosing_power (s : State) :
    (State.enterClosing s).power = s.power := by
  unfold State.enterClosing
  split <;> simp
@[simp] theorem State.enterClosing_heating (s : State) :
    (State.enterClosing s).heating = s.heating := by
  unfold State.enterClosing
  split <;> simp
@[simp] theorem State.enterClosing_insulation (s : State) :
    (State.enterClosing s).insulation = s.insulation := by
  unfold State.enterClosing
  split <;> simp
@[simp] theorem State.enterClosing_trips (s : State) :
    (State.enterClosing s).trips = s.trips := by
  unfold State.enterClosing
  split <;> simp
@[simp] theorem State.enterClosing_statusSeq (s : State) :
    (State.enterClosing s).statusSeq = s.statusSeq := by
  unfold State.enterClosing
  split <;> simp
@[simp] theorem State.enterClosing_pending (s : State) :
    (State.enterClosing s).pending = s.pending := by
  unfold State.enterClosing
  split <;> simp

@[simp] theorem State.enterOpen_mem (s : State) :
    (State.enterOpen s).mem = s.mem := by
  simp only [State.enterOpen]
  repeat' split
  all_goals simp
@[simp] theorem State.enterOpen_pins (s : State) :
    (State.enterOpen s).pins = s.pins := by
  simp only [State.enterOpen]
  repeat' split
  all_goals simp
@[simp] theorem State.enterOpen_link (s : State) :
    (State.enterOpen s).link = s.link := by
  simp only [State.enterOpen]
  repeat' split
  all_goals simp
@[simp] theorem State.enterOpen_attn (s : State) :
    (State.enterOpen s).attn = s.attn := by
  simp only [State.enterOpen]
  repeat' split
  all_goals simp
@[simp] theorem State.enterOpen_orders (s : State) :
    (State.enterOpen s).orders = s.orders := by
  simp only [State.enterOpen]
  repeat' split
  all_goals simp
@[simp] theorem State.enterOpen_metering (s : State) :
    (State.enterOpen s).metering = s.metering := by
  simp only [State.enterOpen]
  repeat' split
  all_goals simp
@[simp] theorem State.enterOpen_power (s : State) :
    (State.enterOpen s).power = s.power := by
  simp only [State.enterOpen]
  repeat' split
  all_goals simp
@[simp] theorem State.enterOpen_heating (s : State) :
    (State.enterOpen s).heating = s.heating := by
  simp only [State.enterOpen]
  repeat' split
  all_goals simp
@[simp] theorem State.enterOpen_insulation (s : State) :
    (State.enterOpen s).insulation = s.insulation := by
  simp only [State.enterOpen]
  repeat' split
  all_goals simp
@[simp] theorem State.enterOpen_trips (s : State) :
    (State.enterOpen s).trips = s.trips := by
  simp only [State.enterOpen]
  repeat' split
  all_goals simp
@[simp] theorem State.enterOpen_statusSeq (s : State) :
    (State.enterOpen s).statusSeq = s.statusSeq := by
  simp only [State.enterOpen]
  repeat' split
  all_goals simp
@[simp] theorem State.enterOpen_pending (s : State) :
    (State.enterOpen s).pending = s.pending := by
  simp only [State.enterOpen]
  repeat' split
  all_goals simp

@[simp] theorem State.endReleaseIfOpen_mem (s : State) :
    (State.endReleaseIfOpen s).mem = s.mem := by
  unfold State.endReleaseIfOpen
  split <;> simp
@[simp] theorem State.endReleaseIfOpen_pins (s : State) :
    (State.endReleaseIfOpen s).pins = s.pins := by
  unfold State.endReleaseIfOpen
  split <;> simp
@[simp] theorem State.endReleaseIfOpen_link (s : State) :
    (State.endReleaseIfOpen s).link = s.link := by
  unfold State.endReleaseIfOpen
  split <;> simp
@[simp] theorem State.endReleaseIfOpen_attn (s : State) :
    (State.endReleaseIfOpen s).attn = s.attn := by
  unfold State.endReleaseIfOpen
  split <;> simp
@[simp] theorem State.endReleaseIfOpen_orders (s : State) :
    (State.endReleaseIfOpen s).orders = s.orders := by
  unfold State.endReleaseIfOpen
  split <;> simp
@[simp] theorem State.endReleaseIfOpen_metering (s : State) :
    (State.endReleaseIfOpen s).metering = s.metering := by
  unfold State.endReleaseIfOpen
  split <;> simp
@[simp] theorem State.endReleaseIfOpen_power (s : State) :
    (State.endReleaseIfOpen s).power = s.power := by
  unfold State.endReleaseIfOpen
  split <;> simp
@[simp] theorem State.endReleaseIfOpen_heating (s : State) :
    (State.endReleaseIfOpen s).heating = s.heating := by
  unfold State.endReleaseIfOpen
  split <;> simp
@[simp] theorem State.endReleaseIfOpen_insulation (s : State) :
    (State.endReleaseIfOpen s).insulation = s.insulation := by
  unfold State.endReleaseIfOpen
  split <;> simp
@[simp] theorem State.endReleaseIfOpen_trips (s : State) :
    (State.endReleaseIfOpen s).trips = s.trips := by
  unfold State.endReleaseIfOpen
  split <;> simp
@[simp] theorem State.endReleaseIfOpen_statusSeq (s : State) :
    (State.endReleaseIfOpen s).statusSeq = s.statusSeq := by
  unfold State.endReleaseIfOpen
  split <;> simp
@[simp] theorem State.endReleaseIfOpen_pending (s : State) :
    (State.endReleaseIfOpen s).pending = s.pending := by
  unfold State.endReleaseIfOpen
  split <;> simp

@[simp] theorem State.enterRelease_mem (s : State) (skips : Bool) :
    (State.enterRelease s skips).mem = s.mem := by simp [State.enterRelease]
@[simp] theorem State.enterRelease_pins (s : State) (skips : Bool) :
    (State.enterRelease s skips).pins = s.pins := by simp [State.enterRelease]
@[simp] theorem State.enterRelease_link (s : State) (skips : Bool) :
    (State.enterRelease s skips).link = s.link := by simp [State.enterRelease]
@[simp] theorem State.enterRelease_attn (s : State) (skips : Bool) :
    (State.enterRelease s skips).attn = s.attn := by simp [State.enterRelease]
@[simp] theorem State.enterRelease_orders (s : State) (skips : Bool) :
    (State.enterRelease s skips).orders = s.orders := by simp [State.enterRelease]
@[simp] theorem State.enterRelease_metering (s : State) (skips : Bool) :
    (State.enterRelease s skips).metering = s.metering := by simp [State.enterRelease]
@[simp] theorem State.enterRelease_power (s : State) (skips : Bool) :
    (State.enterRelease s skips).power = s.power := by simp [State.enterRelease]
@[simp] theorem State.enterRelease_heating (s : State) (skips : Bool) :
    (State.enterRelease s skips).heating = s.heating := by simp [State.enterRelease]
@[simp] theorem State.enterRelease_insulation (s : State) (skips : Bool) :
    (State.enterRelease s skips).insulation = s.insulation := by simp [State.enterRelease]
@[simp] theorem State.enterRelease_trips (s : State) (skips : Bool) :
    (State.enterRelease s skips).trips = s.trips := by simp [State.enterRelease]
@[simp] theorem State.enterRelease_statusSeq (s : State) (skips : Bool) :
    (State.enterRelease s skips).statusSeq = s.statusSeq := by simp [State.enterRelease]
@[simp] theorem State.enterRelease_pending (s : State) (skips : Bool) :
    (State.enterRelease s skips).pending = s.pending := by simp [State.enterRelease]

@[simp] theorem State.leaveClosed_mem (s : State) :
    (State.leaveClosed s).mem = s.mem := by simp [State.leaveClosed]
@[simp] theorem State.leaveClosed_pins (s : State) :
    (State.leaveClosed s).pins = s.pins := by simp [State.leaveClosed]
@[simp] theorem State.leaveClosed_link (s : State) :
    (State.leaveClosed s).link = s.link := by simp [State.leaveClosed]
@[simp] theorem State.leaveClosed_attn (s : State) :
    (State.leaveClosed s).attn = s.attn := by simp [State.leaveClosed]
@[simp] theorem State.leaveClosed_orders (s : State) :
    (State.leaveClosed s).orders = s.orders := by simp [State.leaveClosed]
@[simp] theorem State.leaveClosed_metering (s : State) :
    (State.leaveClosed s).metering = s.metering := by simp [State.leaveClosed]
@[simp] theorem State.leaveClosed_billing (s : State) :
    (State.leaveClosed s).billing = s.billing := by simp [State.leaveClosed]
@[simp] theorem State.leaveClosed_heating (s : State) :
    (State.leaveClosed s).heating = s.heating := by simp [State.leaveClosed]
@[simp] theorem State.leaveClosed_relay (s : State) :
    (State.leaveClosed s).relay = s.relay := by simp [State.leaveClosed]
@[simp] theorem State.leaveClosed_trips (s : State) :
    (State.leaveClosed s).trips = s.trips := by simp [State.leaveClosed]
@[simp] theorem State.leaveClosed_statusSeq (s : State) :
    (State.leaveClosed s).statusSeq = s.statusSeq := by simp [State.leaveClosed]
@[simp] theorem State.leaveClosed_pending (s : State) :
    (State.leaveClosed s).pending = s.pending := by simp [State.leaveClosed]

@[simp] theorem State.openRequest_mem (s : State) (skip : Bool) :
    (State.openRequest s skip).mem = s.mem := by
  simp only [State.openRequest]
  repeat' split
  all_goals simp
@[simp] theorem State.openRequest_pins (s : State) (skip : Bool) :
    (State.openRequest s skip).pins = s.pins := by
  simp only [State.openRequest]
  repeat' split
  all_goals simp
@[simp] theorem State.openRequest_link (s : State) (skip : Bool) :
    (State.openRequest s skip).link = s.link := by
  simp only [State.openRequest]
  repeat' split
  all_goals simp
@[simp] theorem State.openRequest_attn (s : State) (skip : Bool) :
    (State.openRequest s skip).attn = s.attn := by
  simp only [State.openRequest]
  repeat' split
  all_goals simp
@[simp] theorem State.openRequest_orders (s : State) (skip : Bool) :
    (State.openRequest s skip).orders = s.orders := by
  simp only [State.openRequest]
  repeat' split
  all_goals simp
@[simp] theorem State.openRequest_metering (s : State) (skip : Bool) :
    (State.openRequest s skip).metering = s.metering := by
  simp only [State.openRequest]
  repeat' split
  all_goals simp
@[simp] theorem State.openRequest_heating (s : State) (skip : Bool) :
    (State.openRequest s skip).heating = s.heating := by
  simp only [State.openRequest]
  repeat' split
  all_goals simp
@[simp] theorem State.openRequest_trips (s : State) (skip : Bool) :
    (State.openRequest s skip).trips = s.trips := by
  simp only [State.openRequest]
  repeat' split
  all_goals simp
@[simp] theorem State.openRequest_statusSeq (s : State) (skip : Bool) :
    (State.openRequest s skip).statusSeq = s.statusSeq := by
  simp only [State.openRequest]
  repeat' split
  all_goals simp
@[simp] theorem State.openRequest_pending (s : State) (skip : Bool) :
    (State.openRequest s skip).pending = s.pending := by
  simp only [State.openRequest]
  repeat' split
  all_goals simp

@[simp] theorem State.setNeed_mem (s : State) :
    (State.setNeed s).mem = s.mem := by
  unfold State.setNeed
  split <;> simp
@[simp] theorem State.setNeed_pins (s : State) :
    (State.setNeed s).pins = s.pins := by
  unfold State.setNeed
  split <;> simp
@[simp] theorem State.setNeed_link (s : State) :
    (State.setNeed s).link = s.link := by
  unfold State.setNeed
  split <;> simp
@[simp] theorem State.setNeed_attn (s : State) :
    (State.setNeed s).attn = s.attn := by
  unfold State.setNeed
  split <;> simp
@[simp] theorem State.setNeed_orders (s : State) :
    (State.setNeed s).orders = s.orders := by
  unfold State.setNeed
  split <;> simp
@[simp] theorem State.setNeed_metering (s : State) :
    (State.setNeed s).metering = s.metering := by
  unfold State.setNeed
  split <;> simp
@[simp] theorem State.setNeed_billing (s : State) :
    (State.setNeed s).billing = s.billing := by
  unfold State.setNeed
  split <;> simp
@[simp] theorem State.setNeed_heating (s : State) :
    (State.setNeed s).heating = s.heating := by
  unfold State.setNeed
  split <;> simp
@[simp] theorem State.setNeed_insulation (s : State) :
    (State.setNeed s).insulation = s.insulation := by
  unfold State.setNeed
  split <;> simp
@[simp] theorem State.setNeed_trips (s : State) :
    (State.setNeed s).trips = s.trips := by
  unfold State.setNeed
  split <;> simp
@[simp] theorem State.setNeed_statusSeq (s : State) :
    (State.setNeed s).statusSeq = s.statusSeq := by
  unfold State.setNeed
  split <;> simp
@[simp] theorem State.setNeed_pending (s : State) :
    (State.setNeed s).pending = s.pending := by
  unfold State.setNeed
  split <;> simp

@[simp] theorem State.withdrawNeed_mem (s : State) :
    (State.withdrawNeed s).mem = s.mem := by
  simp only [State.withdrawNeed]
  repeat' split
  all_goals simp
@[simp] theorem State.withdrawNeed_pins (s : State) :
    (State.withdrawNeed s).pins = s.pins := by
  simp only [State.withdrawNeed]
  repeat' split
  all_goals simp
@[simp] theorem State.withdrawNeed_link (s : State) :
    (State.withdrawNeed s).link = s.link := by
  simp only [State.withdrawNeed]
  repeat' split
  all_goals simp
@[simp] theorem State.withdrawNeed_attn (s : State) :
    (State.withdrawNeed s).attn = s.attn := by
  simp only [State.withdrawNeed]
  repeat' split
  all_goals simp
@[simp] theorem State.withdrawNeed_orders (s : State) :
    (State.withdrawNeed s).orders = s.orders := by
  simp only [State.withdrawNeed]
  repeat' split
  all_goals simp
@[simp] theorem State.withdrawNeed_metering (s : State) :
    (State.withdrawNeed s).metering = s.metering := by
  simp only [State.withdrawNeed]
  repeat' split
  all_goals simp
@[simp] theorem State.withdrawNeed_billing (s : State) :
    (State.withdrawNeed s).billing = s.billing := by
  simp only [State.withdrawNeed]
  repeat' split
  all_goals simp
@[simp] theorem State.withdrawNeed_heating (s : State) :
    (State.withdrawNeed s).heating = s.heating := by
  simp only [State.withdrawNeed]
  repeat' split
  all_goals simp
@[simp] theorem State.withdrawNeed_insulation (s : State) :
    (State.withdrawNeed s).insulation = s.insulation := by
  simp only [State.withdrawNeed]
  repeat' split
  all_goals simp
@[simp] theorem State.withdrawNeed_trips (s : State) :
    (State.withdrawNeed s).trips = s.trips := by
  simp only [State.withdrawNeed]
  repeat' split
  all_goals simp
@[simp] theorem State.withdrawNeed_statusSeq (s : State) :
    (State.withdrawNeed s).statusSeq = s.statusSeq := by
  simp only [State.withdrawNeed]
  repeat' split
  all_goals simp
@[simp] theorem State.withdrawNeed_pending (s : State) :
    (State.withdrawNeed s).pending = s.pending := by
  simp only [State.withdrawNeed]
  repeat' split
  all_goals simp

@[simp] theorem State.failGate_mem (s : State) :
    (State.failGate s).mem = s.mem := by simp [State.failGate]
@[simp] theorem State.failGate_pins (s : State) :
    (State.failGate s).pins = s.pins := by simp [State.failGate]
@[simp] theorem State.failGate_link (s : State) :
    (State.failGate s).link = s.link := by simp [State.failGate]
@[simp] theorem State.failGate_attn (s : State) :
    (State.failGate s).attn = s.attn := by simp [State.failGate]
@[simp] theorem State.failGate_orders (s : State) :
    (State.failGate s).orders = s.orders := by simp [State.failGate]
@[simp] theorem State.failGate_metering (s : State) :
    (State.failGate s).metering = s.metering := by simp [State.failGate]
@[simp] theorem State.failGate_billing (s : State) :
    (State.failGate s).billing = s.billing := by simp [State.failGate]
@[simp] theorem State.failGate_heating (s : State) :
    (State.failGate s).heating = s.heating := by simp [State.failGate]
@[simp] theorem State.failGate_trips (s : State) :
    (State.failGate s).trips = s.trips := by simp [State.failGate]
@[simp] theorem State.failGate_statusSeq (s : State) :
    (State.failGate s).statusSeq = s.statusSeq := by simp [State.failGate]
@[simp] theorem State.failGate_pending (s : State) :
    (State.failGate s).pending = s.pending := by simp [State.failGate]

@[simp] theorem State.failGateIf_mem (s : State) (held now : Bool) :
    (State.failGateIf s held now).mem = s.mem := by
  unfold State.failGateIf
  split <;> simp
@[simp] theorem State.failGateIf_pins (s : State) (held now : Bool) :
    (State.failGateIf s held now).pins = s.pins := by
  unfold State.failGateIf
  split <;> simp
@[simp] theorem State.failGateIf_link (s : State) (held now : Bool) :
    (State.failGateIf s held now).link = s.link := by
  unfold State.failGateIf
  split <;> simp
@[simp] theorem State.failGateIf_attn (s : State) (held now : Bool) :
    (State.failGateIf s held now).attn = s.attn := by
  unfold State.failGateIf
  split <;> simp
@[simp] theorem State.failGateIf_orders (s : State) (held now : Bool) :
    (State.failGateIf s held now).orders = s.orders := by
  unfold State.failGateIf
  split <;> simp
@[simp] theorem State.failGateIf_metering (s : State) (held now : Bool) :
    (State.failGateIf s held now).metering = s.metering := by
  unfold State.failGateIf
  split <;> simp
@[simp] theorem State.failGateIf_billing (s : State) (held now : Bool) :
    (State.failGateIf s held now).billing = s.billing := by
  unfold State.failGateIf
  split <;> simp
@[simp] theorem State.failGateIf_heating (s : State) (held now : Bool) :
    (State.failGateIf s held now).heating = s.heating := by
  unfold State.failGateIf
  split <;> simp
@[simp] theorem State.failGateIf_trips (s : State) (held now : Bool) :
    (State.failGateIf s held now).trips = s.trips := by
  unfold State.failGateIf
  split <;> simp
@[simp] theorem State.failGateIf_statusSeq (s : State) (held now : Bool) :
    (State.failGateIf s held now).statusSeq = s.statusSeq := by
  unfold State.failGateIf
  split <;> simp
@[simp] theorem State.failGateIf_pending (s : State) (held now : Bool) :
    (State.failGateIf s held now).pending = s.pending := by
  unfold State.failGateIf
  split <;> simp

@[simp] theorem State.tripDrives_mem (s : State) :
    (State.tripDrives s).mem = s.mem := by simp [State.tripDrives]
@[simp] theorem State.tripDrives_pins (s : State) :
    (State.tripDrives s).pins = s.pins := by simp [State.tripDrives]
@[simp] theorem State.tripDrives_link (s : State) :
    (State.tripDrives s).link = s.link := by simp [State.tripDrives]
@[simp] theorem State.tripDrives_attn (s : State) :
    (State.tripDrives s).attn = s.attn := by simp [State.tripDrives]
@[simp] theorem State.tripDrives_orders (s : State) :
    (State.tripDrives s).orders = s.orders := by simp [State.tripDrives]
@[simp] theorem State.tripDrives_metering (s : State) :
    (State.tripDrives s).metering = s.metering := by simp [State.tripDrives]
@[simp] theorem State.tripDrives_billing (s : State) :
    (State.tripDrives s).billing = s.billing := by simp [State.tripDrives]
@[simp] theorem State.tripDrives_heating (s : State) :
    (State.tripDrives s).heating = s.heating := by simp [State.tripDrives]
@[simp] theorem State.tripDrives_relay (s : State) :
    (State.tripDrives s).relay = s.relay := by simp [State.tripDrives]
@[simp] theorem State.tripDrives_trips (s : State) :
    (State.tripDrives s).trips = s.trips := by simp [State.tripDrives]
@[simp] theorem State.tripDrives_statusSeq (s : State) :
    (State.tripDrives s).statusSeq = s.statusSeq := by simp [State.tripDrives]
@[simp] theorem State.tripDrives_pending (s : State) :
    (State.tripDrives s).pending = s.pending := by simp [State.tripDrives]

@[simp] theorem State.dutyOff_mem (s : State) :
    (State.dutyOff s).mem = s.mem := by simp [State.dutyOff]
@[simp] theorem State.dutyOff_pins (s : State) :
    (State.dutyOff s).pins = s.pins := by simp [State.dutyOff]
@[simp] theorem State.dutyOff_link (s : State) :
    (State.dutyOff s).link = s.link := by simp [State.dutyOff]
@[simp] theorem State.dutyOff_attn (s : State) :
    (State.dutyOff s).attn = s.attn := by simp [State.dutyOff]
@[simp] theorem State.dutyOff_orders (s : State) :
    (State.dutyOff s).orders = s.orders := by simp [State.dutyOff]
@[simp] theorem State.dutyOff_metering (s : State) :
    (State.dutyOff s).metering = s.metering := by simp [State.dutyOff]
@[simp] theorem State.dutyOff_billing (s : State) :
    (State.dutyOff s).billing = s.billing := by simp [State.dutyOff]
@[simp] theorem State.dutyOff_heating (s : State) :
    (State.dutyOff s).heating = s.heating := by simp [State.dutyOff]
@[simp] theorem State.dutyOff_relay (s : State) :
    (State.dutyOff s).relay = s.relay := by simp [State.dutyOff]
@[simp] theorem State.dutyOff_trips (s : State) :
    (State.dutyOff s).trips = s.trips := by simp [State.dutyOff]
@[simp] theorem State.dutyOff_statusSeq (s : State) :
    (State.dutyOff s).statusSeq = s.statusSeq := by simp [State.dutyOff]
@[simp] theorem State.dutyOff_pending (s : State) :
    (State.dutyOff s).pending = s.pending := by simp [State.dutyOff]

@[simp] theorem State.setKeepalive_mem (s : State) (k : Keepalive) :
    (State.setKeepalive s k).mem = s.mem := by simp [State.setKeepalive]
@[simp] theorem State.setKeepalive_pins (s : State) (k : Keepalive) :
    (State.setKeepalive s k).pins = s.pins := by simp [State.setKeepalive]
@[simp] theorem State.setKeepalive_link (s : State) (k : Keepalive) :
    (State.setKeepalive s k).link = s.link := by simp [State.setKeepalive]
@[simp] theorem State.setKeepalive_attn (s : State) (k : Keepalive) :
    (State.setKeepalive s k).attn = s.attn := by simp [State.setKeepalive]
@[simp] theorem State.setKeepalive_orders (s : State) (k : Keepalive) :
    (State.setKeepalive s k).orders = s.orders := by simp [State.setKeepalive]
@[simp] theorem State.setKeepalive_metering (s : State) (k : Keepalive) :
    (State.setKeepalive s k).metering = s.metering := by simp [State.setKeepalive]
@[simp] theorem State.setKeepalive_billing (s : State) (k : Keepalive) :
    (State.setKeepalive s k).billing = s.billing := by simp [State.setKeepalive]
@[simp] theorem State.setKeepalive_heating (s : State) (k : Keepalive) :
    (State.setKeepalive s k).heating = s.heating := by simp [State.setKeepalive]
@[simp] theorem State.setKeepalive_trips (s : State) (k : Keepalive) :
    (State.setKeepalive s k).trips = s.trips := by simp [State.setKeepalive]
@[simp] theorem State.setKeepalive_statusSeq (s : State) (k : Keepalive) :
    (State.setKeepalive s k).statusSeq = s.statusSeq := by simp [State.setKeepalive]
@[simp] theorem State.setKeepalive_pending (s : State) (k : Keepalive) :
    (State.setKeepalive s k).pending = s.pending := by simp [State.setKeepalive]

@[simp] theorem State.startKeepalive_mem (s : State) :
    (State.startKeepalive s).mem = s.mem := by simp [State.startKeepalive]
@[simp] theorem State.startKeepalive_pins (s : State) :
    (State.startKeepalive s).pins = s.pins := by simp [State.startKeepalive]
@[simp] theorem State.startKeepalive_link (s : State) :
    (State.startKeepalive s).link = s.link := by simp [State.startKeepalive]
@[simp] theorem State.startKeepalive_attn (s : State) :
    (State.startKeepalive s).attn = s.attn := by simp [State.startKeepalive]
@[simp] theorem State.startKeepalive_orders (s : State) :
    (State.startKeepalive s).orders = s.orders := by simp [State.startKeepalive]
@[simp] theorem State.startKeepalive_metering (s : State) :
    (State.startKeepalive s).metering = s.metering := by simp [State.startKeepalive]
@[simp] theorem State.startKeepalive_billing (s : State) :
    (State.startKeepalive s).billing = s.billing := by simp [State.startKeepalive]
@[simp] theorem State.startKeepalive_heating (s : State) :
    (State.startKeepalive s).heating = s.heating := by simp [State.startKeepalive]
@[simp] theorem State.startKeepalive_trips (s : State) :
    (State.startKeepalive s).trips = s.trips := by simp [State.startKeepalive]
@[simp] theorem State.startKeepalive_statusSeq (s : State) :
    (State.startKeepalive s).statusSeq = s.statusSeq := by simp [State.startKeepalive]
@[simp] theorem State.startKeepalive_pending (s : State) :
    (State.startKeepalive s).pending = s.pending := by simp [State.startKeepalive]

@[simp] theorem State.stopKeepalive_mem (s : State) :
    (State.stopKeepalive s).mem = s.mem := by simp [State.stopKeepalive]
@[simp] theorem State.stopKeepalive_pins (s : State) :
    (State.stopKeepalive s).pins = s.pins := by simp [State.stopKeepalive]
@[simp] theorem State.stopKeepalive_link (s : State) :
    (State.stopKeepalive s).link = s.link := by simp [State.stopKeepalive]
@[simp] theorem State.stopKeepalive_attn (s : State) :
    (State.stopKeepalive s).attn = s.attn := by simp [State.stopKeepalive]
@[simp] theorem State.stopKeepalive_orders (s : State) :
    (State.stopKeepalive s).orders = s.orders := by simp [State.stopKeepalive]
@[simp] theorem State.stopKeepalive_metering (s : State) :
    (State.stopKeepalive s).metering = s.metering := by simp [State.stopKeepalive]
@[simp] theorem State.stopKeepalive_billing (s : State) :
    (State.stopKeepalive s).billing = s.billing := by simp [State.stopKeepalive]
@[simp] theorem State.stopKeepalive_heating (s : State) :
    (State.stopKeepalive s).heating = s.heating := by simp [State.stopKeepalive]
@[simp] theorem State.stopKeepalive_trips (s : State) :
    (State.stopKeepalive s).trips = s.trips := by simp [State.stopKeepalive]
@[simp] theorem State.stopKeepalive_statusSeq (s : State) :
    (State.stopKeepalive s).statusSeq = s.statusSeq := by simp [State.stopKeepalive]
@[simp] theorem State.stopKeepalive_pending (s : State) :
    (State.stopKeepalive s).pending = s.pending := by simp [State.stopKeepalive]

/-! ## Machine/Journal.lean -/

@[simp] theorem State.showFlagged_pins (s : State) :
    (State.showFlagged s).pins = s.pins := by simp [State.showFlagged]
@[simp] theorem State.showFlagged_link (s : State) :
    (State.showFlagged s).link = s.link := by simp [State.showFlagged]
@[simp] theorem State.showFlagged_attn (s : State) :
    (State.showFlagged s).attn = s.attn := by simp [State.showFlagged]
@[simp] theorem State.showFlagged_orders (s : State) :
    (State.showFlagged s).orders = s.orders := by simp [State.showFlagged]
@[simp] theorem State.showFlagged_metering (s : State) :
    (State.showFlagged s).metering = s.metering := by simp [State.showFlagged]
@[simp] theorem State.showFlagged_billing (s : State) :
    (State.showFlagged s).billing = s.billing := by simp [State.showFlagged]
@[simp] theorem State.showFlagged_power (s : State) :
    (State.showFlagged s).power = s.power := by simp [State.showFlagged]
@[simp] theorem State.showFlagged_heating (s : State) :
    (State.showFlagged s).heating = s.heating := by simp [State.showFlagged]
@[simp] theorem State.showFlagged_insulation (s : State) :
    (State.showFlagged s).insulation = s.insulation := by simp [State.showFlagged]
@[simp] theorem State.showFlagged_relay (s : State) :
    (State.showFlagged s).relay = s.relay := by simp [State.showFlagged]
@[simp] theorem State.showFlagged_trips (s : State) :
    (State.showFlagged s).trips = s.trips := by simp [State.showFlagged]
@[simp] theorem State.showFlagged_statusSeq (s : State) :
    (State.showFlagged s).statusSeq = s.statusSeq := by simp [State.showFlagged]
@[simp] theorem State.showFlagged_pending (s : State) :
    (State.showFlagged s).pending = s.pending := by simp [State.showFlagged]

@[simp] theorem State.compose_mem (s : State) (r : Record) :
    (State.compose s r).2.mem = s.mem := by simp [State.compose]
@[simp] theorem State.compose_pins (s : State) (r : Record) :
    (State.compose s r).2.pins = s.pins := by simp [State.compose]
@[simp] theorem State.compose_link (s : State) (r : Record) :
    (State.compose s r).2.link = s.link := by simp [State.compose]
@[simp] theorem State.compose_attn (s : State) (r : Record) :
    (State.compose s r).2.attn = s.attn := by simp [State.compose]
@[simp] theorem State.compose_orders (s : State) (r : Record) :
    (State.compose s r).2.orders = s.orders := by simp [State.compose]
@[simp] theorem State.compose_metering (s : State) (r : Record) :
    (State.compose s r).2.metering = s.metering := by simp [State.compose]
@[simp] theorem State.compose_power (s : State) (r : Record) :
    (State.compose s r).2.power = s.power := by simp [State.compose]
@[simp] theorem State.compose_heating (s : State) (r : Record) :
    (State.compose s r).2.heating = s.heating := by simp [State.compose]
@[simp] theorem State.compose_insulation (s : State) (r : Record) :
    (State.compose s r).2.insulation = s.insulation := by simp [State.compose]
@[simp] theorem State.compose_relay (s : State) (r : Record) :
    (State.compose s r).2.relay = s.relay := by simp [State.compose]
@[simp] theorem State.compose_trips (s : State) (r : Record) :
    (State.compose s r).2.trips = s.trips := by simp [State.compose]
@[simp] theorem State.compose_statusSeq (s : State) (r : Record) :
    (State.compose s r).2.statusSeq = s.statusSeq := by simp [State.compose]
@[simp] theorem State.compose_pending (s : State) (r : Record) :
    (State.compose s r).2.pending = s.pending := by simp [State.compose]

@[simp] theorem State.journalWrite_pins (s : State) (r : Record) :
    (State.journalWrite s r).pins = s.pins := by simp [State.journalWrite]
@[simp] theorem State.journalWrite_link (s : State) (r : Record) :
    (State.journalWrite s r).link = s.link := by simp [State.journalWrite]
@[simp] theorem State.journalWrite_orders (s : State) (r : Record) :
    (State.journalWrite s r).orders = s.orders := by simp [State.journalWrite]
@[simp] theorem State.journalWrite_metering (s : State) (r : Record) :
    (State.journalWrite s r).metering = s.metering := by simp [State.journalWrite]
@[simp] theorem State.journalWrite_power (s : State) (r : Record) :
    (State.journalWrite s r).power = s.power := by simp [State.journalWrite]
@[simp] theorem State.journalWrite_heating (s : State) (r : Record) :
    (State.journalWrite s r).heating = s.heating := by simp [State.journalWrite]
@[simp] theorem State.journalWrite_insulation (s : State) (r : Record) :
    (State.journalWrite s r).insulation = s.insulation := by simp [State.journalWrite]
@[simp] theorem State.journalWrite_relay (s : State) (r : Record) :
    (State.journalWrite s r).relay = s.relay := by simp [State.journalWrite]
@[simp] theorem State.journalWrite_trips (s : State) (r : Record) :
    (State.journalWrite s r).trips = s.trips := by simp [State.journalWrite]
@[simp] theorem State.journalWrite_statusSeq (s : State) (r : Record) :
    (State.journalWrite s r).statusSeq = s.statusSeq := by simp [State.journalWrite]
@[simp] theorem State.journalWrite_pending (s : State) (r : Record) :
    (State.journalWrite s r).pending = s.pending := by simp [State.journalWrite]

@[simp] theorem State.placeRecord_pins (s : State) (r : Record) :
    (State.placeRecord s r).pins = s.pins := by
  simp only [State.placeRecord]
  repeat' split
  all_goals simp
@[simp] theorem State.placeRecord_link (s : State) (r : Record) :
    (State.placeRecord s r).link = s.link := by
  simp only [State.placeRecord]
  repeat' split
  all_goals simp
@[simp] theorem State.placeRecord_orders (s : State) (r : Record) :
    (State.placeRecord s r).orders = s.orders := by
  simp only [State.placeRecord]
  repeat' split
  all_goals simp
@[simp] theorem State.placeRecord_metering (s : State) (r : Record) :
    (State.placeRecord s r).metering = s.metering := by
  simp only [State.placeRecord]
  repeat' split
  all_goals simp
@[simp] theorem State.placeRecord_power (s : State) (r : Record) :
    (State.placeRecord s r).power = s.power := by
  simp only [State.placeRecord]
  repeat' split
  all_goals simp
@[simp] theorem State.placeRecord_heating (s : State) (r : Record) :
    (State.placeRecord s r).heating = s.heating := by
  simp only [State.placeRecord]
  repeat' split
  all_goals simp
@[simp] theorem State.placeRecord_insulation (s : State) (r : Record) :
    (State.placeRecord s r).insulation = s.insulation := by
  simp only [State.placeRecord]
  repeat' split
  all_goals simp
@[simp] theorem State.placeRecord_relay (s : State) (r : Record) :
    (State.placeRecord s r).relay = s.relay := by
  simp only [State.placeRecord]
  repeat' split
  all_goals simp
@[simp] theorem State.placeRecord_trips (s : State) (r : Record) :
    (State.placeRecord s r).trips = s.trips := by
  simp only [State.placeRecord]
  repeat' split
  all_goals simp
@[simp] theorem State.placeRecord_statusSeq (s : State) (r : Record) :
    (State.placeRecord s r).statusSeq = s.statusSeq := by
  simp only [State.placeRecord]
  repeat' split
  all_goals simp
@[simp] theorem State.placeRecord_pending (s : State) (r : Record) :
    (State.placeRecord s r).pending = s.pending := by
  simp only [State.placeRecord]
  repeat' split
  all_goals simp

@[simp] theorem State.cutInterval_mem (s : State) (ses : Session) (i : Interval) (cause : CloseCause) (bandEnd : Nat) :
    (State.cutInterval s ses i cause bandEnd).2.mem = s.mem := by simp [State.cutInterval]
@[simp] theorem State.cutInterval_pins (s : State) (ses : Session) (i : Interval) (cause : CloseCause) (bandEnd : Nat) :
    (State.cutInterval s ses i cause bandEnd).2.pins = s.pins := by simp [State.cutInterval]
@[simp] theorem State.cutInterval_link (s : State) (ses : Session) (i : Interval) (cause : CloseCause) (bandEnd : Nat) :
    (State.cutInterval s ses i cause bandEnd).2.link = s.link := by simp [State.cutInterval]
@[simp] theorem State.cutInterval_attn (s : State) (ses : Session) (i : Interval) (cause : CloseCause) (bandEnd : Nat) :
    (State.cutInterval s ses i cause bandEnd).2.attn = s.attn := by simp [State.cutInterval]
@[simp] theorem State.cutInterval_orders (s : State) (ses : Session) (i : Interval) (cause : CloseCause) (bandEnd : Nat) :
    (State.cutInterval s ses i cause bandEnd).2.orders = s.orders := by simp [State.cutInterval]
@[simp] theorem State.cutInterval_metering (s : State) (ses : Session) (i : Interval) (cause : CloseCause) (bandEnd : Nat) :
    (State.cutInterval s ses i cause bandEnd).2.metering = s.metering := by simp [State.cutInterval]
@[simp] theorem State.cutInterval_power (s : State) (ses : Session) (i : Interval) (cause : CloseCause) (bandEnd : Nat) :
    (State.cutInterval s ses i cause bandEnd).2.power = s.power := by simp [State.cutInterval]
@[simp] theorem State.cutInterval_heating (s : State) (ses : Session) (i : Interval) (cause : CloseCause) (bandEnd : Nat) :
    (State.cutInterval s ses i cause bandEnd).2.heating = s.heating := by simp [State.cutInterval]
@[simp] theorem State.cutInterval_insulation (s : State) (ses : Session) (i : Interval) (cause : CloseCause) (bandEnd : Nat) :
    (State.cutInterval s ses i cause bandEnd).2.insulation = s.insulation := by simp [State.cutInterval]
@[simp] theorem State.cutInterval_relay (s : State) (ses : Session) (i : Interval) (cause : CloseCause) (bandEnd : Nat) :
    (State.cutInterval s ses i cause bandEnd).2.relay = s.relay := by simp [State.cutInterval]
@[simp] theorem State.cutInterval_trips (s : State) (ses : Session) (i : Interval) (cause : CloseCause) (bandEnd : Nat) :
    (State.cutInterval s ses i cause bandEnd).2.trips = s.trips := by simp [State.cutInterval]
@[simp] theorem State.cutInterval_statusSeq (s : State) (ses : Session) (i : Interval) (cause : CloseCause) (bandEnd : Nat) :
    (State.cutInterval s ses i cause bandEnd).2.statusSeq = s.statusSeq := by simp [State.cutInterval]
@[simp] theorem State.cutInterval_pending (s : State) (ses : Session) (i : Interval) (cause : CloseCause) (bandEnd : Nat) :
    (State.cutInterval s ses i cause bandEnd).2.pending = s.pending := by simp [State.cutInterval]

@[simp] theorem State.beginInterval_mem (s : State) (meter : Word) :
    (State.beginInterval s meter).mem = s.mem := by simp [State.beginInterval]
@[simp] theorem State.beginInterval_pins (s : State) (meter : Word) :
    (State.beginInterval s meter).pins = s.pins := by simp [State.beginInterval]
@[simp] theorem State.beginInterval_link (s : State) (meter : Word) :
    (State.beginInterval s meter).link = s.link := by simp [State.beginInterval]
@[simp] theorem State.beginInterval_attn (s : State) (meter : Word) :
    (State.beginInterval s meter).attn = s.attn := by simp [State.beginInterval]
@[simp] theorem State.beginInterval_orders (s : State) (meter : Word) :
    (State.beginInterval s meter).orders = s.orders := by simp [State.beginInterval]
@[simp] theorem State.beginInterval_metering (s : State) (meter : Word) :
    (State.beginInterval s meter).metering = s.metering := by simp [State.beginInterval]
@[simp] theorem State.beginInterval_power (s : State) (meter : Word) :
    (State.beginInterval s meter).power = s.power := by simp [State.beginInterval]
@[simp] theorem State.beginInterval_heating (s : State) (meter : Word) :
    (State.beginInterval s meter).heating = s.heating := by simp [State.beginInterval]
@[simp] theorem State.beginInterval_insulation (s : State) (meter : Word) :
    (State.beginInterval s meter).insulation = s.insulation := by simp [State.beginInterval]
@[simp] theorem State.beginInterval_relay (s : State) (meter : Word) :
    (State.beginInterval s meter).relay = s.relay := by simp [State.beginInterval]
@[simp] theorem State.beginInterval_trips (s : State) (meter : Word) :
    (State.beginInterval s meter).trips = s.trips := by simp [State.beginInterval]
@[simp] theorem State.beginInterval_statusSeq (s : State) (meter : Word) :
    (State.beginInterval s meter).statusSeq = s.statusSeq := by simp [State.beginInterval]
@[simp] theorem State.beginInterval_pending (s : State) (meter : Word) :
    (State.beginInterval s meter).pending = s.pending := by simp [State.beginInterval]

/-- A close of the session interval keeps whatever billing updates and the placing of the record
keep. -/
theorem State.closeIntervalBy_keeps {α : Type} (f : State → α)
    (hb : ∀ (u : State) (b : Billing), f (u.withBilling b) = f u)
    (place : State → Record → State) (hp : ∀ (u : State) (r : Record), f (place u r) = f u)
    (s : State) (cause : CloseCause) (bandEnd : Nat) (adopted : Bool) :
    f (State.closeIntervalBy place s cause bandEnd adopted) = f s := by
  unfold State.closeIntervalBy
  split
  · split
    · exact hb _ _
    · split
      · exact hb _ _
      · simp only [State.cutInterval, State.compose, State.beginInterval, hp, hb]
  · rfl
@[simp] theorem State.closeIntervalBy_mem (place : State → Record → State) (s : State)
    (cause : CloseCause) (bandEnd : Nat) (adopted : Bool)
    (hp : ∀ (u : State) (r : Record), (place u r).mem = u.mem) :
    (State.closeIntervalBy place s cause bandEnd adopted).mem = s.mem :=
  State.closeIntervalBy_keeps State.mem (fun _ _ => rfl) place hp s cause bandEnd adopted
@[simp] theorem State.closeIntervalBy_pins (place : State → Record → State) (s : State)
    (cause : CloseCause) (bandEnd : Nat) (adopted : Bool)
    (hp : ∀ (u : State) (r : Record), (place u r).pins = u.pins) :
    (State.closeIntervalBy place s cause bandEnd adopted).pins = s.pins :=
  State.closeIntervalBy_keeps State.pins (fun _ _ => rfl) place hp s cause bandEnd adopted
@[simp] theorem State.closeIntervalBy_link (place : State → Record → State) (s : State)
    (cause : CloseCause) (bandEnd : Nat) (adopted : Bool)
    (hp : ∀ (u : State) (r : Record), (place u r).link = u.link) :
    (State.closeIntervalBy place s cause bandEnd adopted).link = s.link :=
  State.closeIntervalBy_keeps State.link (fun _ _ => rfl) place hp s cause bandEnd adopted
@[simp] theorem State.closeIntervalBy_attn (place : State → Record → State) (s : State)
    (cause : CloseCause) (bandEnd : Nat) (adopted : Bool)
    (hp : ∀ (u : State) (r : Record), (place u r).attn = u.attn) :
    (State.closeIntervalBy place s cause bandEnd adopted).attn = s.attn :=
  State.closeIntervalBy_keeps State.attn (fun _ _ => rfl) place hp s cause bandEnd adopted
@[simp] theorem State.closeIntervalBy_orders (place : State → Record → State) (s : State)
    (cause : CloseCause) (bandEnd : Nat) (adopted : Bool)
    (hp : ∀ (u : State) (r : Record), (place u r).orders = u.orders) :
    (State.closeIntervalBy place s cause bandEnd adopted).orders = s.orders :=
  State.closeIntervalBy_keeps State.orders (fun _ _ => rfl) place hp s cause bandEnd adopted
@[simp] theorem State.closeIntervalBy_metering (place : State → Record → State) (s : State)
    (cause : CloseCause) (bandEnd : Nat) (adopted : Bool)
    (hp : ∀ (u : State) (r : Record), (place u r).metering = u.metering) :
    (State.closeIntervalBy place s cause bandEnd adopted).metering = s.metering :=
  State.closeIntervalBy_keeps State.metering (fun _ _ => rfl) place hp s cause bandEnd adopted
@[simp] theorem State.closeIntervalBy_power (place : State → Record → State) (s : State)
    (cause : CloseCause) (bandEnd : Nat) (adopted : Bool)
    (hp : ∀ (u : State) (r : Record), (place u r).power = u.power) :
    (State.closeIntervalBy place s cause bandEnd adopted).power = s.power :=
  State.closeIntervalBy_keeps State.power (fun _ _ => rfl) place hp s cause bandEnd adopted
@[simp] theorem State.closeIntervalBy_heating (place : State → Record → State) (s : State)
    (cause : CloseCause) (bandEnd : Nat) (adopted : Bool)
    (hp : ∀ (u : State) (r : Record), (place u r).heating = u.heating) :
    (State.closeIntervalBy place s cause bandEnd adopted).heating = s.heating :=
  State.closeIntervalBy_keeps State.heating (fun _ _ => rfl) place hp s cause bandEnd adopted
@[simp] theorem State.closeIntervalBy_insulation (place : State → Record → State) (s : State)
    (cause : CloseCause) (bandEnd : Nat) (adopted : Bool)
    (hp : ∀ (u : State) (r : Record), (place u r).insulation = u.insulation) :
    (State.closeIntervalBy place s cause bandEnd adopted).insulation = s.insulation :=
  State.closeIntervalBy_keeps State.insulation (fun _ _ => rfl) place hp s cause bandEnd adopted
@[simp] theorem State.closeIntervalBy_relay (place : State → Record → State) (s : State)
    (cause : CloseCause) (bandEnd : Nat) (adopted : Bool)
    (hp : ∀ (u : State) (r : Record), (place u r).relay = u.relay) :
    (State.closeIntervalBy place s cause bandEnd adopted).relay = s.relay :=
  State.closeIntervalBy_keeps State.relay (fun _ _ => rfl) place hp s cause bandEnd adopted
@[simp] theorem State.closeIntervalBy_trips (place : State → Record → State) (s : State)
    (cause : CloseCause) (bandEnd : Nat) (adopted : Bool)
    (hp : ∀ (u : State) (r : Record), (place u r).trips = u.trips) :
    (State.closeIntervalBy place s cause bandEnd adopted).trips = s.trips :=
  State.closeIntervalBy_keeps State.trips (fun _ _ => rfl) place hp s cause bandEnd adopted
@[simp] theorem State.closeIntervalBy_statusSeq (place : State → Record → State) (s : State)
    (cause : CloseCause) (bandEnd : Nat) (adopted : Bool)
    (hp : ∀ (u : State) (r : Record), (place u r).statusSeq = u.statusSeq) :
    (State.closeIntervalBy place s cause bandEnd adopted).statusSeq = s.statusSeq :=
  State.closeIntervalBy_keeps State.statusSeq (fun _ _ => rfl) place hp s cause bandEnd adopted
@[simp] theorem State.closeIntervalBy_pending (place : State → Record → State) (s : State)
    (cause : CloseCause) (bandEnd : Nat) (adopted : Bool)
    (hp : ∀ (u : State) (r : Record), (place u r).pending = u.pending) :
    (State.closeIntervalBy place s cause bandEnd adopted).pending = s.pending :=
  State.closeIntervalBy_keeps State.pending (fun _ _ => rfl) place hp s cause bandEnd adopted

@[simp] theorem State.beginHold_pins (s : State) :
    (State.beginHold s).pins = s.pins := by simp [State.beginHold]
@[simp] theorem State.beginHold_link (s : State) :
    (State.beginHold s).link = s.link := by simp [State.beginHold]
@[simp] theorem State.beginHold_orders (s : State) :
    (State.beginHold s).orders = s.orders := by simp [State.beginHold]
@[simp] theorem State.beginHold_metering (s : State) :
    (State.beginHold s).metering = s.metering := by simp [State.beginHold]
@[simp] theorem State.beginHold_heating (s : State) :
    (State.beginHold s).heating = s.heating := by simp [State.beginHold]
@[simp] theorem State.beginHold_trips (s : State) :
    (State.beginHold s).trips = s.trips := by simp [State.beginHold]
@[simp] theorem State.beginHold_statusSeq (s : State) :
    (State.beginHold s).statusSeq = s.statusSeq := by simp [State.beginHold]
@[simp] theorem State.beginHold_pending (s : State) :
    (State.beginHold s).pending = s.pending := by simp [State.beginHold]

@[simp] theorem State.endHold_mem (s : State) :
    (State.endHold s).mem = s.mem := by simp [State.endHold]
@[simp] theorem State.endHold_pins (s : State) :
    (State.endHold s).pins = s.pins := by simp [State.endHold]
@[simp] theorem State.endHold_link (s : State) :
    (State.endHold s).link = s.link := by simp [State.endHold]
@[simp] theorem State.endHold_orders (s : State) :
    (State.endHold s).orders = s.orders := by simp [State.endHold]
@[simp] theorem State.endHold_metering (s : State) :
    (State.endHold s).metering = s.metering := by simp [State.endHold]
@[simp] theorem State.endHold_power (s : State) :
    (State.endHold s).power = s.power := by simp [State.endHold]
@[simp] theorem State.endHold_heating (s : State) :
    (State.endHold s).heating = s.heating := by simp [State.endHold]
@[simp] theorem State.endHold_insulation (s : State) :
    (State.endHold s).insulation = s.insulation := by simp [State.endHold]
@[simp] theorem State.endHold_relay (s : State) :
    (State.endHold s).relay = s.relay := by simp [State.endHold]
@[simp] theorem State.endHold_trips (s : State) :
    (State.endHold s).trips = s.trips := by simp [State.endHold]
@[simp] theorem State.endHold_statusSeq (s : State) :
    (State.endHold s).statusSeq = s.statusSeq := by simp [State.endHold]
@[simp] theorem State.endHold_pending (s : State) :
    (State.endHold s).pending = s.pending := by simp [State.endHold]

@[simp] theorem State.enterRecord_pins (s : State) (r : Record) :
    (State.enterRecord s r).pins = s.pins := by
  simp only [State.enterRecord]
  repeat' split
  all_goals simp
@[simp] theorem State.enterRecord_link (s : State) (r : Record) :
    (State.enterRecord s r).link = s.link := by
  simp only [State.enterRecord]
  repeat' split
  all_goals simp
@[simp] theorem State.enterRecord_orders (s : State) (r : Record) :
    (State.enterRecord s r).orders = s.orders := by
  simp only [State.enterRecord]
  repeat' split
  all_goals simp
@[simp] theorem State.enterRecord_metering (s : State) (r : Record) :
    (State.enterRecord s r).metering = s.metering := by
  simp only [State.enterRecord]
  repeat' split
  all_goals simp
@[simp] theorem State.enterRecord_heating (s : State) (r : Record) :
    (State.enterRecord s r).heating = s.heating := by
  simp only [State.enterRecord]
  repeat' split
  all_goals simp
@[simp] theorem State.enterRecord_trips (s : State) (r : Record) :
    (State.enterRecord s r).trips = s.trips := by
  simp only [State.enterRecord]
  repeat' split
  all_goals simp
@[simp] theorem State.enterRecord_statusSeq (s : State) (r : Record) :
    (State.enterRecord s r).statusSeq = s.statusSeq := by
  simp only [State.enterRecord]
  repeat' split
  all_goals simp
@[simp] theorem State.enterRecord_pending (s : State) (r : Record) :
    (State.enterRecord s r).pending = s.pending := by
  simp only [State.enterRecord]
  repeat' split
  all_goals simp

@[simp] theorem State.closeInterval_pins (s : State) (cause : CloseCause) (bandEnd : Nat) (adopted : Bool) :
    (State.closeInterval s cause bandEnd adopted).pins = s.pins := by simp [State.closeInterval]
@[simp] theorem State.closeInterval_link (s : State) (cause : CloseCause) (bandEnd : Nat) (adopted : Bool) :
    (State.closeInterval s cause bandEnd adopted).link = s.link := by simp [State.closeInterval]
@[simp] theorem State.closeInterval_orders (s : State) (cause : CloseCause) (bandEnd : Nat) (adopted : Bool) :
    (State.closeInterval s cause bandEnd adopted).orders = s.orders := by simp [State.closeInterval]
@[simp] theorem State.closeInterval_metering (s : State) (cause : CloseCause) (bandEnd : Nat) (adopted : Bool) :
    (State.closeInterval s cause bandEnd adopted).metering = s.metering := by simp [State.closeInterval]
@[simp] theorem State.closeInterval_heating (s : State) (cause : CloseCause) (bandEnd : Nat) (adopted : Bool) :
    (State.closeInterval s cause bandEnd adopted).heating = s.heating := by simp [State.closeInterval]
@[simp] theorem State.closeInterval_trips (s : State) (cause : CloseCause) (bandEnd : Nat) (adopted : Bool) :
    (State.closeInterval s cause bandEnd adopted).trips = s.trips := by simp [State.closeInterval]
@[simp] theorem State.closeInterval_statusSeq (s : State) (cause : CloseCause) (bandEnd : Nat) (adopted : Bool) :
    (State.closeInterval s cause bandEnd adopted).statusSeq = s.statusSeq := by simp [State.closeInterval]
@[simp] theorem State.closeInterval_pending (s : State) (cause : CloseCause) (bandEnd : Nat) (adopted : Bool) :
    (State.closeInterval s cause bandEnd adopted).pending = s.pending := by simp [State.closeInterval]

@[simp] theorem State.closeOrphan_pins (s : State) (cause : CloseCause) (bandEnd : Nat) :
    (State.closeOrphan s cause bandEnd).pins = s.pins := by
  simp only [State.closeOrphan]
  repeat' split
  all_goals simp
@[simp] theorem State.closeOrphan_link (s : State) (cause : CloseCause) (bandEnd : Nat) :
    (State.closeOrphan s cause bandEnd).link = s.link := by
  simp only [State.closeOrphan]
  repeat' split
  all_goals simp
@[simp] theorem State.closeOrphan_orders (s : State) (cause : CloseCause) (bandEnd : Nat) :
    (State.closeOrphan s cause bandEnd).orders = s.orders := by
  simp only [State.closeOrphan]
  repeat' split
  all_goals simp
@[simp] theorem State.closeOrphan_metering (s : State) (cause : CloseCause) (bandEnd : Nat) :
    (State.closeOrphan s cause bandEnd).metering = s.metering := by
  simp only [State.closeOrphan]
  repeat' split
  all_goals simp
@[simp] theorem State.closeOrphan_heating (s : State) (cause : CloseCause) (bandEnd : Nat) :
    (State.closeOrphan s cause bandEnd).heating = s.heating := by
  simp only [State.closeOrphan]
  repeat' split
  all_goals simp
@[simp] theorem State.closeOrphan_trips (s : State) (cause : CloseCause) (bandEnd : Nat) :
    (State.closeOrphan s cause bandEnd).trips = s.trips := by
  simp only [State.closeOrphan]
  repeat' split
  all_goals simp
@[simp] theorem State.closeOrphan_statusSeq (s : State) (cause : CloseCause) (bandEnd : Nat) :
    (State.closeOrphan s cause bandEnd).statusSeq = s.statusSeq := by
  simp only [State.closeOrphan]
  repeat' split
  all_goals simp
@[simp] theorem State.closeOrphan_pending (s : State) (cause : CloseCause) (bandEnd : Nat) :
    (State.closeOrphan s cause bandEnd).pending = s.pending := by
  simp only [State.closeOrphan]
  repeat' split
  all_goals simp

@[simp] theorem State.record_pins (s : State) (r : Record) :
    (State.record s r).pins = s.pins := by simp [State.record]
@[simp] theorem State.record_link (s : State) (r : Record) :
    (State.record s r).link = s.link := by simp [State.record]
@[simp] theorem State.record_orders (s : State) (r : Record) :
    (State.record s r).orders = s.orders := by simp [State.record]
@[simp] theorem State.record_metering (s : State) (r : Record) :
    (State.record s r).metering = s.metering := by simp [State.record]
@[simp] theorem State.record_heating (s : State) (r : Record) :
    (State.record s r).heating = s.heating := by simp [State.record]
@[simp] theorem State.record_trips (s : State) (r : Record) :
    (State.record s r).trips = s.trips := by simp [State.record]
@[simp] theorem State.record_statusSeq (s : State) (r : Record) :
    (State.record s r).statusSeq = s.statusSeq := by simp [State.record]
@[simp] theorem State.record_pending (s : State) (r : Record) :
    (State.record s r).pending = s.pending := by simp [State.record]

@[simp] theorem State.adoptPending_mem (s : State) :
    (State.adoptPending s).mem = s.mem := by
  unfold State.adoptPending
  split <;> simp
@[simp] theorem State.adoptPending_pins (s : State) :
    (State.adoptPending s).pins = s.pins := by
  unfold State.adoptPending
  split <;> simp
@[simp] theorem State.adoptPending_link (s : State) :
    (State.adoptPending s).link = s.link := by
  unfold State.adoptPending
  split <;> simp
@[simp] theorem State.adoptPending_attn (s : State) :
    (State.adoptPending s).attn = s.attn := by
  unfold State.adoptPending
  split <;> simp
@[simp] theorem State.adoptPending_orders (s : State) :
    (State.adoptPending s).orders = s.orders := by
  unfold State.adoptPending
  split <;> simp
@[simp] theorem State.adoptPending_metering (s : State) :
    (State.adoptPending s).metering = s.metering := by
  unfold State.adoptPending
  split <;> simp
@[simp] theorem State.adoptPending_power (s : State) :
    (State.adoptPending s).power = s.power := by
  unfold State.adoptPending
  split <;> simp
@[simp] theorem State.adoptPending_heating (s : State) :
    (State.adoptPending s).heating = s.heating := by
  unfold State.adoptPending
  split <;> simp
@[simp] theorem State.adoptPending_insulation (s : State) :
    (State.adoptPending s).insulation = s.insulation := by
  unfold State.adoptPending
  split <;> simp
@[simp] theorem State.adoptPending_relay (s : State) :
    (State.adoptPending s).relay = s.relay := by
  unfold State.adoptPending
  split <;> simp
@[simp] theorem State.adoptPending_trips (s : State) :
    (State.adoptPending s).trips = s.trips := by
  unfold State.adoptPending
  split <;> simp
@[simp] theorem State.adoptPending_statusSeq (s : State) :
    (State.adoptPending s).statusSeq = s.statusSeq := by
  unfold State.adoptPending
  split <;> simp
@[simp] theorem State.adoptPending_pending (s : State) :
    (State.adoptPending s).pending = s.pending := by
  unfold State.adoptPending
  split <;> simp

/-! ## Machine/Clock.lean -/

@[simp] theorem State.setPartTime_mem (s : State) (t : Word) :
    (State.setPartTime s t).mem = s.mem := by simp [State.setPartTime]
@[simp] theorem State.setPartTime_pins (s : State) (t : Word) :
    (State.setPartTime s t).pins = s.pins := by simp [State.setPartTime]
@[simp] theorem State.setPartTime_link (s : State) (t : Word) :
    (State.setPartTime s t).link = s.link := by simp [State.setPartTime]
@[simp] theorem State.setPartTime_attn (s : State) (t : Word) :
    (State.setPartTime s t).attn = s.attn := by simp [State.setPartTime]
@[simp] theorem State.setPartTime_orders (s : State) (t : Word) :
    (State.setPartTime s t).orders = s.orders := by simp [State.setPartTime]
@[simp] theorem State.setPartTime_metering (s : State) (t : Word) :
    (State.setPartTime s t).metering = s.metering := by simp [State.setPartTime]
@[simp] theorem State.setPartTime_power (s : State) (t : Word) :
    (State.setPartTime s t).power = s.power := by simp [State.setPartTime]
@[simp] theorem State.setPartTime_heating (s : State) (t : Word) :
    (State.setPartTime s t).heating = s.heating := by simp [State.setPartTime]
@[simp] theorem State.setPartTime_insulation (s : State) (t : Word) :
    (State.setPartTime s t).insulation = s.insulation := by simp [State.setPartTime]
@[simp] theorem State.setPartTime_relay (s : State) (t : Word) :
    (State.setPartTime s t).relay = s.relay := by simp [State.setPartTime]
@[simp] theorem State.setPartTime_trips (s : State) (t : Word) :
    (State.setPartTime s t).trips = s.trips := by simp [State.setPartTime]
@[simp] theorem State.setPartTime_statusSeq (s : State) (t : Word) :
    (State.setPartTime s t).statusSeq = s.statusSeq := by simp [State.setPartTime]
@[simp] theorem State.setPartTime_pending (s : State) (t : Word) :
    (State.setPartTime s t).pending = s.pending := by simp [State.setPartTime]

@[simp] theorem State.clockClose_pins (s : State) :
    (State.clockClose s).pins = s.pins := by
  unfold State.clockClose
  split <;> simp
@[simp] theorem State.clockClose_link (s : State) :
    (State.clockClose s).link = s.link := by
  unfold State.clockClose
  split <;> simp
@[simp] theorem State.clockClose_orders (s : State) :
    (State.clockClose s).orders = s.orders := by
  unfold State.clockClose
  split <;> simp
@[simp] theorem State.clockClose_metering (s : State) :
    (State.clockClose s).metering = s.metering := by
  unfold State.clockClose
  split <;> simp
@[simp] theorem State.clockClose_heating (s : State) :
    (State.clockClose s).heating = s.heating := by
  unfold State.clockClose
  split <;> simp
@[simp] theorem State.clockClose_trips (s : State) :
    (State.clockClose s).trips = s.trips := by
  unfold State.clockClose
  split <;> simp
@[simp] theorem State.clockClose_statusSeq (s : State) :
    (State.clockClose s).statusSeq = s.statusSeq := by
  unfold State.clockClose
  split <;> simp
@[simp] theorem State.clockClose_pending (s : State) :
    (State.clockClose s).pending = s.pending := by
  unfold State.clockClose
  split <;> simp

@[simp] theorem State.clockReopen_mem (s : State) :
    (State.clockReopen s).mem = s.mem := by
  unfold State.clockReopen
  split <;> simp
@[simp] theorem State.clockReopen_pins (s : State) :
    (State.clockReopen s).pins = s.pins := by
  unfold State.clockReopen
  split <;> simp
@[simp] theorem State.clockReopen_link (s : State) :
    (State.clockReopen s).link = s.link := by
  unfold State.clockReopen
  split <;> simp
@[simp] theorem State.clockReopen_attn (s : State) :
    (State.clockReopen s).attn = s.attn := by
  unfold State.clockReopen
  split <;> simp
@[simp] theorem State.clockReopen_orders (s : State) :
    (State.clockReopen s).orders = s.orders := by
  unfold State.clockReopen
  split <;> simp
@[simp] theorem State.clockReopen_metering (s : State) :
    (State.clockReopen s).metering = s.metering := by
  unfold State.clockReopen
  split <;> simp
@[simp] theorem State.clockReopen_power (s : State) :
    (State.clockReopen s).power = s.power := by
  unfold State.clockReopen
  split <;> simp
@[simp] theorem State.clockReopen_heating (s : State) :
    (State.clockReopen s).heating = s.heating := by
  unfold State.clockReopen
  split <;> simp
@[simp] theorem State.clockReopen_insulation (s : State) :
    (State.clockReopen s).insulation = s.insulation := by
  unfold State.clockReopen
  split <;> simp
@[simp] theorem State.clockReopen_relay (s : State) :
    (State.clockReopen s).relay = s.relay := by
  unfold State.clockReopen
  split <;> simp
@[simp] theorem State.clockReopen_trips (s : State) :
    (State.clockReopen s).trips = s.trips := by
  unfold State.clockReopen
  split <;> simp
@[simp] theorem State.clockReopen_statusSeq (s : State) :
    (State.clockReopen s).statusSeq = s.statusSeq := by
  unfold State.clockReopen
  split <;> simp
@[simp] theorem State.clockReopen_pending (s : State) :
    (State.clockReopen s).pending = s.pending := by
  unfold State.clockReopen
  split <;> simp

@[simp] theorem State.applySetClock_pins (s : State) (t : Word) :
    (State.applySetClock s t).pins = s.pins := by simp [State.applySetClock]
@[simp] theorem State.applySetClock_link (s : State) (t : Word) :
    (State.applySetClock s t).link = s.link := by simp [State.applySetClock]
@[simp] theorem State.applySetClock_orders (s : State) (t : Word) :
    (State.applySetClock s t).orders = s.orders := by simp [State.applySetClock]
@[simp] theorem State.applySetClock_metering (s : State) (t : Word) :
    (State.applySetClock s t).metering = s.metering := by simp [State.applySetClock]
@[simp] theorem State.applySetClock_heating (s : State) (t : Word) :
    (State.applySetClock s t).heating = s.heating := by simp [State.applySetClock]
@[simp] theorem State.applySetClock_trips (s : State) (t : Word) :
    (State.applySetClock s t).trips = s.trips := by simp [State.applySetClock]
@[simp] theorem State.applySetClock_statusSeq (s : State) (t : Word) :
    (State.applySetClock s t).statusSeq = s.statusSeq := by simp [State.applySetClock]
@[simp] theorem State.applySetClock_pending (s : State) (t : Word) :
    (State.applySetClock s t).pending = s.pending := by simp [State.applySetClock]

@[simp] theorem State.takeSetClock_pins (s : State) (t : Word) :
    (State.takeSetClock s t).2.pins = s.pins := by
  simp only [State.takeSetClock]
  repeat' split
  all_goals simp
@[simp] theorem State.takeSetClock_link (s : State) (t : Word) :
    (State.takeSetClock s t).2.link = s.link := by
  simp only [State.takeSetClock]
  repeat' split
  all_goals simp
@[simp] theorem State.takeSetClock_orders (s : State) (t : Word) :
    (State.takeSetClock s t).2.orders = s.orders := by
  simp only [State.takeSetClock]
  repeat' split
  all_goals simp
@[simp] theorem State.takeSetClock_metering (s : State) (t : Word) :
    (State.takeSetClock s t).2.metering = s.metering := by
  simp only [State.takeSetClock]
  repeat' split
  all_goals simp
@[simp] theorem State.takeSetClock_heating (s : State) (t : Word) :
    (State.takeSetClock s t).2.heating = s.heating := by
  simp only [State.takeSetClock]
  repeat' split
  all_goals simp
@[simp] theorem State.takeSetClock_trips (s : State) (t : Word) :
    (State.takeSetClock s t).2.trips = s.trips := by
  simp only [State.takeSetClock]
  repeat' split
  all_goals simp
@[simp] theorem State.takeSetClock_statusSeq (s : State) (t : Word) :
    (State.takeSetClock s t).2.statusSeq = s.statusSeq := by
  simp only [State.takeSetClock]
  repeat' split
  all_goals simp
@[simp] theorem State.takeSetClock_pending (s : State) (t : Word) :
    (State.takeSetClock s t).2.pending = s.pending := by
  simp only [State.takeSetClock]
  repeat' split
  all_goals simp

@[simp] theorem State.disposeTariff_mem (s : State) (t : Tariff) :
    (State.disposeTariff s t).2.mem = s.mem := by
  unfold State.disposeTariff
  split <;> simp
@[simp] theorem State.disposeTariff_pins (s : State) (t : Tariff) :
    (State.disposeTariff s t).2.pins = s.pins := by
  unfold State.disposeTariff
  split <;> simp
@[simp] theorem State.disposeTariff_link (s : State) (t : Tariff) :
    (State.disposeTariff s t).2.link = s.link := by
  unfold State.disposeTariff
  split <;> simp
@[simp] theorem State.disposeTariff_attn (s : State) (t : Tariff) :
    (State.disposeTariff s t).2.attn = s.attn := by
  unfold State.disposeTariff
  split <;> simp
@[simp] theorem State.disposeTariff_orders (s : State) (t : Tariff) :
    (State.disposeTariff s t).2.orders = s.orders := by
  unfold State.disposeTariff
  split <;> simp
@[simp] theorem State.disposeTariff_metering (s : State) (t : Tariff) :
    (State.disposeTariff s t).2.metering = s.metering := by
  unfold State.disposeTariff
  split <;> simp
@[simp] theorem State.disposeTariff_power (s : State) (t : Tariff) :
    (State.disposeTariff s t).2.power = s.power := by
  unfold State.disposeTariff
  split <;> simp
@[simp] theorem State.disposeTariff_heating (s : State) (t : Tariff) :
    (State.disposeTariff s t).2.heating = s.heating := by
  unfold State.disposeTariff
  split <;> simp
@[simp] theorem State.disposeTariff_insulation (s : State) (t : Tariff) :
    (State.disposeTariff s t).2.insulation = s.insulation := by
  unfold State.disposeTariff
  split <;> simp
@[simp] theorem State.disposeTariff_relay (s : State) (t : Tariff) :
    (State.disposeTariff s t).2.relay = s.relay := by
  unfold State.disposeTariff
  split <;> simp
@[simp] theorem State.disposeTariff_trips (s : State) (t : Tariff) :
    (State.disposeTariff s t).2.trips = s.trips := by
  unfold State.disposeTariff
  split <;> simp
@[simp] theorem State.disposeTariff_statusSeq (s : State) (t : Tariff) :
    (State.disposeTariff s t).2.statusSeq = s.statusSeq := by
  unfold State.disposeTariff
  split <;> simp
@[simp] theorem State.disposeTariff_pending (s : State) (t : Tariff) :
    (State.disposeTariff s t).2.pending = s.pending := by
  unfold State.disposeTariff
  split <;> simp

@[simp] theorem State.takeLoadTariff_mem (s : State) (offset : Half) (count : Byte) :
    (State.takeLoadTariff s offset count).2.mem = s.mem := by
  simp only [State.takeLoadTariff]
  repeat' split
  all_goals simp
@[simp] theorem State.takeLoadTariff_pins (s : State) (offset : Half) (count : Byte) :
    (State.takeLoadTariff s offset count).2.pins = s.pins := by
  simp only [State.takeLoadTariff]
  repeat' split
  all_goals simp
@[simp] theorem State.takeLoadTariff_link (s : State) (offset : Half) (count : Byte) :
    (State.takeLoadTariff s offset count).2.link = s.link := by
  simp only [State.takeLoadTariff]
  repeat' split
  all_goals simp
@[simp] theorem State.takeLoadTariff_attn (s : State) (offset : Half) (count : Byte) :
    (State.takeLoadTariff s offset count).2.attn = s.attn := by
  simp only [State.takeLoadTariff]
  repeat' split
  all_goals simp
@[simp] theorem State.takeLoadTariff_orders (s : State) (offset : Half) (count : Byte) :
    (State.takeLoadTariff s offset count).2.orders = s.orders := by
  simp only [State.takeLoadTariff]
  repeat' split
  all_goals simp
@[simp] theorem State.takeLoadTariff_metering (s : State) (offset : Half) (count : Byte) :
    (State.takeLoadTariff s offset count).2.metering = s.metering := by
  simp only [State.takeLoadTariff]
  repeat' split
  all_goals simp
@[simp] theorem State.takeLoadTariff_power (s : State) (offset : Half) (count : Byte) :
    (State.takeLoadTariff s offset count).2.power = s.power := by
  simp only [State.takeLoadTariff]
  repeat' split
  all_goals simp
@[simp] theorem State.takeLoadTariff_heating (s : State) (offset : Half) (count : Byte) :
    (State.takeLoadTariff s offset count).2.heating = s.heating := by
  simp only [State.takeLoadTariff]
  repeat' split
  all_goals simp
@[simp] theorem State.takeLoadTariff_insulation (s : State) (offset : Half) (count : Byte) :
    (State.takeLoadTariff s offset count).2.insulation = s.insulation := by
  simp only [State.takeLoadTariff]
  repeat' split
  all_goals simp
@[simp] theorem State.takeLoadTariff_relay (s : State) (offset : Half) (count : Byte) :
    (State.takeLoadTariff s offset count).2.relay = s.relay := by
  simp only [State.takeLoadTariff]
  repeat' split
  all_goals simp
@[simp] theorem State.takeLoadTariff_trips (s : State) (offset : Half) (count : Byte) :
    (State.takeLoadTariff s offset count).2.trips = s.trips := by
  simp only [State.takeLoadTariff]
  repeat' split
  all_goals simp
@[simp] theorem State.takeLoadTariff_statusSeq (s : State) (offset : Half) (count : Byte) :
    (State.takeLoadTariff s offset count).2.statusSeq = s.statusSeq := by
  simp only [State.takeLoadTariff]
  repeat' split
  all_goals simp
@[simp] theorem State.takeLoadTariff_pending (s : State) (offset : Half) (count : Byte) :
    (State.takeLoadTariff s offset count).2.pending = s.pending := by
  simp only [State.takeLoadTariff]
  repeat' split
  all_goals simp

@[simp] theorem State.orphanMinute_pins (s : State) (m bandBefore : Nat) :
    (State.orphanMinute s m bandBefore).pins = s.pins := by
  simp only [State.orphanMinute]
  repeat' split
  all_goals simp
@[simp] theorem State.orphanMinute_link (s : State) (m bandBefore : Nat) :
    (State.orphanMinute s m bandBefore).link = s.link := by
  simp only [State.orphanMinute]
  repeat' split
  all_goals simp
@[simp] theorem State.orphanMinute_orders (s : State) (m bandBefore : Nat) :
    (State.orphanMinute s m bandBefore).orders = s.orders := by
  simp only [State.orphanMinute]
  repeat' split
  all_goals simp
@[simp] theorem State.orphanMinute_metering (s : State) (m bandBefore : Nat) :
    (State.orphanMinute s m bandBefore).metering = s.metering := by
  simp only [State.orphanMinute]
  repeat' split
  all_goals simp
@[simp] theorem State.orphanMinute_heating (s : State) (m bandBefore : Nat) :
    (State.orphanMinute s m bandBefore).heating = s.heating := by
  simp only [State.orphanMinute]
  repeat' split
  all_goals simp
@[simp] theorem State.orphanMinute_trips (s : State) (m bandBefore : Nat) :
    (State.orphanMinute s m bandBefore).trips = s.trips := by
  simp only [State.orphanMinute]
  repeat' split
  all_goals simp
@[simp] theorem State.orphanMinute_statusSeq (s : State) (m bandBefore : Nat) :
    (State.orphanMinute s m bandBefore).statusSeq = s.statusSeq := by
  simp only [State.orphanMinute]
  repeat' split
  all_goals simp
@[simp] theorem State.orphanMinute_pending (s : State) (m bandBefore : Nat) :
    (State.orphanMinute s m bandBefore).pending = s.pending := by
  simp only [State.orphanMinute]
  repeat' split
  all_goals simp

@[simp] theorem State.minuteStart_pins (s : State) (bandBefore : Nat) :
    (State.minuteStart s bandBefore).pins = s.pins := by
  simp only [State.minuteStart]
  repeat' split
  all_goals simp
@[simp] theorem State.minuteStart_link (s : State) (bandBefore : Nat) :
    (State.minuteStart s bandBefore).link = s.link := by
  simp only [State.minuteStart]
  repeat' split
  all_goals simp
@[simp] theorem State.minuteStart_orders (s : State) (bandBefore : Nat) :
    (State.minuteStart s bandBefore).orders = s.orders := by
  simp only [State.minuteStart]
  repeat' split
  all_goals simp
@[simp] theorem State.minuteStart_metering (s : State) (bandBefore : Nat) :
    (State.minuteStart s bandBefore).metering = s.metering := by
  simp only [State.minuteStart]
  repeat' split
  all_goals simp
@[simp] theorem State.minuteStart_heating (s : State) (bandBefore : Nat) :
    (State.minuteStart s bandBefore).heating = s.heating := by
  simp only [State.minuteStart]
  repeat' split
  all_goals simp
@[simp] theorem State.minuteStart_trips (s : State) (bandBefore : Nat) :
    (State.minuteStart s bandBefore).trips = s.trips := by
  simp only [State.minuteStart]
  repeat' split
  all_goals simp
@[simp] theorem State.minuteStart_statusSeq (s : State) (bandBefore : Nat) :
    (State.minuteStart s bandBefore).statusSeq = s.statusSeq := by
  simp only [State.minuteStart]
  repeat' split
  all_goals simp
@[simp] theorem State.minuteStart_pending (s : State) (bandBefore : Nat) :
    (State.minuteStart s bandBefore).pending = s.pending := by
  simp only [State.minuteStart]
  repeat' split
  all_goals simp

@[simp] theorem State.advanceTime_mem (s : State) :
    (State.advanceTime s).mem = s.mem := by simp [State.advanceTime]
@[simp] theorem State.advanceTime_pins (s : State) :
    (State.advanceTime s).pins = s.pins := by simp [State.advanceTime]
@[simp] theorem State.advanceTime_link (s : State) :
    (State.advanceTime s).link = s.link := by simp [State.advanceTime]
@[simp] theorem State.advanceTime_attn (s : State) :
    (State.advanceTime s).attn = s.attn := by simp [State.advanceTime]
@[simp] theorem State.advanceTime_orders (s : State) :
    (State.advanceTime s).orders = s.orders := by simp [State.advanceTime]
@[simp] theorem State.advanceTime_metering (s : State) :
    (State.advanceTime s).metering = s.metering := by simp [State.advanceTime]
@[simp] theorem State.advanceTime_power (s : State) :
    (State.advanceTime s).power = s.power := by simp [State.advanceTime]
@[simp] theorem State.advanceTime_heating (s : State) :
    (State.advanceTime s).heating = s.heating := by simp [State.advanceTime]
@[simp] theorem State.advanceTime_insulation (s : State) :
    (State.advanceTime s).insulation = s.insulation := by simp [State.advanceTime]
@[simp] theorem State.advanceTime_relay (s : State) :
    (State.advanceTime s).relay = s.relay := by simp [State.advanceTime]
@[simp] theorem State.advanceTime_trips (s : State) :
    (State.advanceTime s).trips = s.trips := by simp [State.advanceTime]
@[simp] theorem State.advanceTime_statusSeq (s : State) :
    (State.advanceTime s).statusSeq = s.statusSeq := by simp [State.advanceTime]
@[simp] theorem State.advanceTime_pending (s : State) :
    (State.advanceTime s).pending = s.pending := by simp [State.advanceTime]

end Sys2Proof.Machine
end

