-- ==== Sys2Proof/Laws/FramesSession.lean ====
section
/-! SUPPORT. Frames: which parts of State each shared operation of these machine files leaves as
they were, one lemma per operation per part. -/

namespace Sys2Proof.Machine

/-! ## Machine/Session.lean -/

@[simp] theorem State.dropCharge_mem (s : State) :
    (State.dropCharge s).mem = s.mem := by simp [State.dropCharge]
@[simp] theorem State.dropCharge_pins (s : State) :
    (State.dropCharge s).pins = s.pins := by simp [State.dropCharge]
@[simp] theorem State.dropCharge_link (s : State) :
    (State.dropCharge s).link = s.link := by simp [State.dropCharge]
@[simp] theorem State.dropCharge_attn (s : State) :
    (State.dropCharge s).attn = s.attn := by simp [State.dropCharge]
@[simp] theorem State.dropCharge_orders (s : State) :
    (State.dropCharge s).orders = s.orders := by simp [State.dropCharge]
@[simp] theorem State.dropCharge_metering (s : State) :
    (State.dropCharge s).metering = s.metering := by simp [State.dropCharge]
@[simp] theorem State.dropCharge_billing (s : State) :
    (State.dropCharge s).billing = s.billing := by simp [State.dropCharge]
@[simp] theorem State.dropCharge_heating (s : State) :
    (State.dropCharge s).heating = s.heating := by simp [State.dropCharge]
@[simp] theorem State.dropCharge_insulation (s : State) :
    (State.dropCharge s).insulation = s.insulation := by simp [State.dropCharge]
@[simp] theorem State.dropCharge_relay (s : State) :
    (State.dropCharge s).relay = s.relay := by simp [State.dropCharge]
@[simp] theorem State.dropCharge_trips (s : State) :
    (State.dropCharge s).trips = s.trips := by simp [State.dropCharge]
@[simp] theorem State.dropCharge_statusSeq (s : State) :
    (State.dropCharge s).statusSeq = s.statusSeq := by simp [State.dropCharge]
@[simp] theorem State.dropCharge_pending (s : State) :
    (State.dropCharge s).pending = s.pending := by simp [State.dropCharge]

@[simp] theorem State.endCharge_pins (s : State) (cause : Byte) :
    (State.endCharge s cause).pins = s.pins := by
  unfold State.endCharge
  split <;> simp
@[simp] theorem State.endCharge_link (s : State) (cause : Byte) :
    (State.endCharge s cause).link = s.link := by
  unfold State.endCharge
  split <;> simp
@[simp] theorem State.endCharge_metering (s : State) (cause : Byte) :
    (State.endCharge s cause).metering = s.metering := by
  unfold State.endCharge
  split <;> simp
@[simp] theorem State.endCharge_billing (s : State) (cause : Byte) :
    (State.endCharge s cause).billing = s.billing := by
  unfold State.endCharge
  split <;> simp
@[simp] theorem State.endCharge_heating (s : State) (cause : Byte) :
    (State.endCharge s cause).heating = s.heating := by
  unfold State.endCharge
  split <;> simp
@[simp] theorem State.endCharge_insulation (s : State) (cause : Byte) :
    (State.endCharge s cause).insulation = s.insulation := by
  unfold State.endCharge
  split <;> simp
@[simp] theorem State.endCharge_relay (s : State) (cause : Byte) :
    (State.endCharge s cause).relay = s.relay := by
  unfold State.endCharge
  split <;> simp
@[simp] theorem State.endCharge_trips (s : State) (cause : Byte) :
    (State.endCharge s cause).trips = s.trips := by
  unfold State.endCharge
  split <;> simp
@[simp] theorem State.endCharge_statusSeq (s : State) (cause : Byte) :
    (State.endCharge s cause).statusSeq = s.statusSeq := by
  unfold State.endCharge
  split <;> simp
@[simp] theorem State.endCharge_pending (s : State) (cause : Byte) :
    (State.endCharge s cause).pending = s.pending := by
  unfold State.endCharge
  split <;> simp

@[simp] theorem State.tripCharge_pins (s : State) :
    (State.tripCharge s).pins = s.pins := by
  unfold State.tripCharge
  split <;> simp
@[simp] theorem State.tripCharge_link (s : State) :
    (State.tripCharge s).link = s.link := by
  unfold State.tripCharge
  split <;> simp
@[simp] theorem State.tripCharge_metering (s : State) :
    (State.tripCharge s).metering = s.metering := by
  unfold State.tripCharge
  split <;> simp
@[simp] theorem State.tripCharge_billing (s : State) :
    (State.tripCharge s).billing = s.billing := by
  unfold State.tripCharge
  split <;> simp
@[simp] theorem State.tripCharge_heating (s : State) :
    (State.tripCharge s).heating = s.heating := by
  unfold State.tripCharge
  split <;> simp
@[simp] theorem State.tripCharge_insulation (s : State) :
    (State.tripCharge s).insulation = s.insulation := by
  unfold State.tripCharge
  split <;> simp
@[simp] theorem State.tripCharge_relay (s : State) :
    (State.tripCharge s).relay = s.relay := by
  unfold State.tripCharge
  split <;> simp
@[simp] theorem State.tripCharge_trips (s : State) :
    (State.tripCharge s).trips = s.trips := by
  unfold State.tripCharge
  split <;> simp
@[simp] theorem State.tripCharge_statusSeq (s : State) :
    (State.tripCharge s).statusSeq = s.statusSeq := by
  unfold State.tripCharge
  split <;> simp
@[simp] theorem State.tripCharge_pending (s : State) :
    (State.tripCharge s).pending = s.pending := by
  unfold State.tripCharge
  split <;> simp

@[simp] theorem State.applyOpenSession_pins (s : State) (id battery heating aux : Word) :
    (State.applyOpenSession s id battery heating aux).pins = s.pins := by simp [State.applyOpenSession]
@[simp] theorem State.applyOpenSession_link (s : State) (id battery heating aux : Word) :
    (State.applyOpenSession s id battery heating aux).link = s.link := by simp [State.applyOpenSession]
@[simp] theorem State.applyOpenSession_orders (s : State) (id battery heating aux : Word) :
    (State.applyOpenSession s id battery heating aux).orders = s.orders := by simp [State.applyOpenSession]
@[simp] theorem State.applyOpenSession_metering (s : State) (id battery heating aux : Word) :
    (State.applyOpenSession s id battery heating aux).metering = s.metering := by simp [State.applyOpenSession]
@[simp] theorem State.applyOpenSession_heating (s : State) (id battery heating aux : Word) :
    (State.applyOpenSession s id battery heating aux).heating = s.heating := by simp [State.applyOpenSession]
@[simp] theorem State.applyOpenSession_trips (s : State) (id battery heating aux : Word) :
    (State.applyOpenSession s id battery heating aux).trips = s.trips := by simp [State.applyOpenSession]
@[simp] theorem State.applyOpenSession_statusSeq (s : State) (id battery heating aux : Word) :
    (State.applyOpenSession s id battery heating aux).statusSeq = s.statusSeq := by simp [State.applyOpenSession]
@[simp] theorem State.applyOpenSession_pending (s : State) (id battery heating aux : Word) :
    (State.applyOpenSession s id battery heating aux).pending = s.pending := by simp [State.applyOpenSession]

@[simp] theorem State.takeOpenSession_pins (s : State) (id battery heating aux : Word) :
    (State.takeOpenSession s id battery heating aux).2.pins = s.pins := by
  simp only [State.takeOpenSession]
  repeat' split
  all_goals simp
@[simp] theorem State.takeOpenSession_link (s : State) (id battery heating aux : Word) :
    (State.takeOpenSession s id battery heating aux).2.link = s.link := by
  simp only [State.takeOpenSession]
  repeat' split
  all_goals simp
@[simp] theorem State.takeOpenSession_orders (s : State) (id battery heating aux : Word) :
    (State.takeOpenSession s id battery heating aux).2.orders = s.orders := by
  simp only [State.takeOpenSession]
  repeat' split
  all_goals simp
@[simp] theorem State.takeOpenSession_metering (s : State) (id battery heating aux : Word) :
    (State.takeOpenSession s id battery heating aux).2.metering = s.metering := by
  simp only [State.takeOpenSession]
  repeat' split
  all_goals simp
@[simp] theorem State.takeOpenSession_heating (s : State) (id battery heating aux : Word) :
    (State.takeOpenSession s id battery heating aux).2.heating = s.heating := by
  simp only [State.takeOpenSession]
  repeat' split
  all_goals simp
@[simp] theorem State.takeOpenSession_trips (s : State) (id battery heating aux : Word) :
    (State.takeOpenSession s id battery heating aux).2.trips = s.trips := by
  simp only [State.takeOpenSession]
  repeat' split
  all_goals simp
@[simp] theorem State.takeOpenSession_statusSeq (s : State) (id battery heating aux : Word) :
    (State.takeOpenSession s id battery heating aux).2.statusSeq = s.statusSeq := by
  simp only [State.takeOpenSession]
  repeat' split
  all_goals simp
@[simp] theorem State.takeOpenSession_pending (s : State) (id battery heating aux : Word) :
    (State.takeOpenSession s id battery heating aux).2.pending = s.pending := by
  simp only [State.takeOpenSession]
  repeat' split
  all_goals simp

@[simp] theorem State.endClose_pins (s : State) :
    (State.endClose s).pins = s.pins := by
  simp only [State.endClose]
  repeat' split
  all_goals simp
@[simp] theorem State.endClose_link (s : State) :
    (State.endClose s).link = s.link := by
  simp only [State.endClose]
  repeat' split
  all_goals simp
@[simp] theorem State.endClose_orders (s : State) :
    (State.endClose s).orders = s.orders := by
  simp only [State.endClose]
  repeat' split
  all_goals simp
@[simp] theorem State.endClose_metering (s : State) :
    (State.endClose s).metering = s.metering := by
  simp only [State.endClose]
  repeat' split
  all_goals simp
@[simp] theorem State.endClose_heating (s : State) :
    (State.endClose s).heating = s.heating := by
  simp only [State.endClose]
  repeat' split
  all_goals simp
@[simp] theorem State.endClose_trips (s : State) :
    (State.endClose s).trips = s.trips := by
  simp only [State.endClose]
  repeat' split
  all_goals simp
@[simp] theorem State.endClose_statusSeq (s : State) :
    (State.endClose s).statusSeq = s.statusSeq := by
  simp only [State.endClose]
  repeat' split
  all_goals simp
@[simp] theorem State.endClose_pending (s : State) :
    (State.endClose s).pending = s.pending := by
  simp only [State.endClose]
  repeat' split
  all_goals simp

@[simp] theorem State.composeClose_pins (s : State) (slot : Option SlotNo) (ses : Session) :
    (State.composeClose s slot ses).pins = s.pins := by simp [State.composeClose]
@[simp] theorem State.composeClose_link (s : State) (slot : Option SlotNo) (ses : Session) :
    (State.composeClose s slot ses).link = s.link := by simp [State.composeClose]
@[simp] theorem State.composeClose_orders (s : State) (slot : Option SlotNo) (ses : Session) :
    (State.composeClose s slot ses).orders = s.orders := by simp [State.composeClose]
@[simp] theorem State.composeClose_metering (s : State) (slot : Option SlotNo) (ses : Session) :
    (State.composeClose s slot ses).metering = s.metering := by simp [State.composeClose]
@[simp] theorem State.composeClose_heating (s : State) (slot : Option SlotNo) (ses : Session) :
    (State.composeClose s slot ses).heating = s.heating := by simp [State.composeClose]
@[simp] theorem State.composeClose_trips (s : State) (slot : Option SlotNo) (ses : Session) :
    (State.composeClose s slot ses).trips = s.trips := by simp [State.composeClose]
@[simp] theorem State.composeClose_statusSeq (s : State) (slot : Option SlotNo) (ses : Session) :
    (State.composeClose s slot ses).statusSeq = s.statusSeq := by simp [State.composeClose]
@[simp] theorem State.composeClose_pending (s : State) (slot : Option SlotNo) (ses : Session) :
    (State.composeClose s slot ses).pending = s.pending := by simp [State.composeClose]

@[simp] theorem State.completeClose_pins (s : State) :
    (State.completeClose s).pins = s.pins := by
  simp only [State.completeClose]
  repeat' split
  all_goals simp
@[simp] theorem State.completeClose_link (s : State) :
    (State.completeClose s).link = s.link := by
  simp only [State.completeClose]
  repeat' split
  all_goals simp
@[simp] theorem State.completeClose_metering (s : State) :
    (State.completeClose s).metering = s.metering := by
  simp only [State.completeClose]
  repeat' split
  all_goals simp
@[simp] theorem State.completeClose_power (s : State) :
    (State.completeClose s).power = s.power := by
  simp only [State.completeClose]
  repeat' split
  all_goals simp
@[simp] theorem State.completeClose_heating (s : State) :
    (State.completeClose s).heating = s.heating := by
  simp only [State.completeClose]
  repeat' split
  all_goals simp
@[simp] theorem State.completeClose_insulation (s : State) :
    (State.completeClose s).insulation = s.insulation := by
  simp only [State.completeClose]
  repeat' split
  all_goals simp
@[simp] theorem State.completeClose_relay (s : State) :
    (State.completeClose s).relay = s.relay := by
  simp only [State.completeClose]
  repeat' split
  all_goals simp
@[simp] theorem State.completeClose_trips (s : State) :
    (State.completeClose s).trips = s.trips := by
  simp only [State.completeClose]
  repeat' split
  all_goals simp
@[simp] theorem State.completeClose_statusSeq (s : State) :
    (State.completeClose s).statusSeq = s.statusSeq := by
  simp only [State.completeClose]
  repeat' split
  all_goals simp
@[simp] theorem State.completeClose_pending (s : State) :
    (State.completeClose s).pending = s.pending := by
  simp only [State.completeClose]
  repeat' split
  all_goals simp

@[simp] theorem State.continueClose_pins (s : State) :
    (State.continueClose s).pins = s.pins := by
  simp only [State.continueClose]
  repeat' split
  all_goals simp
@[simp] theorem State.continueClose_link (s : State) :
    (State.continueClose s).link = s.link := by
  simp only [State.continueClose]
  repeat' split
  all_goals simp
@[simp] theorem State.continueClose_metering (s : State) :
    (State.continueClose s).metering = s.metering := by
  simp only [State.continueClose]
  repeat' split
  all_goals simp
@[simp] theorem State.continueClose_heating (s : State) :
    (State.continueClose s).heating = s.heating := by
  simp only [State.continueClose]
  repeat' split
  all_goals simp
@[simp] theorem State.continueClose_trips (s : State) :
    (State.continueClose s).trips = s.trips := by
  simp only [State.continueClose]
  repeat' split
  all_goals simp
@[simp] theorem State.continueClose_statusSeq (s : State) :
    (State.continueClose s).statusSeq = s.statusSeq := by
  simp only [State.continueClose]
  repeat' split
  all_goals simp
@[simp] theorem State.continueClose_pending (s : State) :
    (State.continueClose s).pending = s.pending := by
  simp only [State.continueClose]
  repeat' split
  all_goals simp

@[simp] theorem State.beginClose_pins (s : State) (slot : SlotNo) (ses : Session) :
    (State.beginClose s slot ses).pins = s.pins := by
  simp only [State.beginClose]
  repeat' split
  all_goals simp
@[simp] theorem State.beginClose_link (s : State) (slot : SlotNo) (ses : Session) :
    (State.beginClose s slot ses).link = s.link := by
  simp only [State.beginClose]
  repeat' split
  all_goals simp
@[simp] theorem State.beginClose_metering (s : State) (slot : SlotNo) (ses : Session) :
    (State.beginClose s slot ses).metering = s.metering := by
  simp only [State.beginClose]
  repeat' split
  all_goals simp
@[simp] theorem State.beginClose_statusSeq (s : State) (slot : SlotNo) (ses : Session) :
    (State.beginClose s slot ses).statusSeq = s.statusSeq := by
  simp only [State.beginClose]
  repeat' split
  all_goals simp
@[simp] theorem State.beginClose_pending (s : State) (slot : SlotNo) (ses : Session) :
    (State.beginClose s slot ses).pending = s.pending := by
  simp only [State.beginClose]
  repeat' split
  all_goals simp

@[simp] theorem State.takeCloseSession_pins (s : State) (slot : SlotNo) (id : Word) :
    (State.takeCloseSession s slot id).pins = s.pins := by
  simp only [State.takeCloseSession]
  repeat' split
  all_goals simp
@[simp] theorem State.takeCloseSession_link (s : State) (slot : SlotNo) (id : Word) :
    (State.takeCloseSession s slot id).link = s.link := by
  simp only [State.takeCloseSession]
  repeat' split
  all_goals simp
@[simp] theorem State.takeCloseSession_metering (s : State) (slot : SlotNo) (id : Word) :
    (State.takeCloseSession s slot id).metering = s.metering := by
  simp only [State.takeCloseSession]
  repeat' split
  all_goals simp
@[simp] theorem State.takeCloseSession_statusSeq (s : State) (slot : SlotNo) (id : Word) :
    (State.takeCloseSession s slot id).statusSeq = s.statusSeq := by
  simp only [State.takeCloseSession]
  repeat' split
  all_goals simp
@[simp] theorem State.takeCloseSession_pending (s : State) (slot : SlotNo) (id : Word) :
    (State.takeCloseSession s slot id).pending = s.pending := by
  simp only [State.takeCloseSession]
  repeat' split
  all_goals simp

@[simp] theorem State.applyCalibrate_pins (s : State) (n : Nat) (old : Channel) (gain : Nat) (offset : Int) :
    (State.applyCalibrate s n old gain offset).pins = s.pins := by simp [State.applyCalibrate]
@[simp] theorem State.applyCalibrate_link (s : State) (n : Nat) (old : Channel) (gain : Nat) (offset : Int) :
    (State.applyCalibrate s n old gain offset).link = s.link := by simp [State.applyCalibrate]
@[simp] theorem State.applyCalibrate_orders (s : State) (n : Nat) (old : Channel) (gain : Nat) (offset : Int) :
    (State.applyCalibrate s n old gain offset).orders = s.orders := by simp [State.applyCalibrate]
@[simp] theorem State.applyCalibrate_heating (s : State) (n : Nat) (old : Channel) (gain : Nat) (offset : Int) :
    (State.applyCalibrate s n old gain offset).heating = s.heating := by simp [State.applyCalibrate]
@[simp] theorem State.applyCalibrate_trips (s : State) (n : Nat) (old : Channel) (gain : Nat) (offset : Int) :
    (State.applyCalibrate s n old gain offset).trips = s.trips := by simp [State.applyCalibrate]
@[simp] theorem State.applyCalibrate_statusSeq (s : State) (n : Nat) (old : Channel) (gain : Nat) (offset : Int) :
    (State.applyCalibrate s n old gain offset).statusSeq = s.statusSeq := by simp [State.applyCalibrate]
@[simp] theorem State.applyCalibrate_pending (s : State) (n : Nat) (old : Channel) (gain : Nat) (offset : Int) :
    (State.applyCalibrate s n old gain offset).pending = s.pending := by simp [State.applyCalibrate]

@[simp] theorem State.takeCalibrate_pins (s : State) (channel : Byte) (gain : Word) (offset : Half) :
    (State.takeCalibrate s channel gain offset).2.pins = s.pins := by
  simp only [State.takeCalibrate]
  repeat' split
  all_goals simp
@[simp] theorem State.takeCalibrate_link (s : State) (channel : Byte) (gain : Word) (offset : Half) :
    (State.takeCalibrate s channel gain offset).2.link = s.link := by
  simp only [State.takeCalibrate]
  repeat' split
  all_goals simp
@[simp] theorem State.takeCalibrate_orders (s : State) (channel : Byte) (gain : Word) (offset : Half) :
    (State.takeCalibrate s channel gain offset).2.orders = s.orders := by
  simp only [State.takeCalibrate]
  repeat' split
  all_goals simp
@[simp] theorem State.takeCalibrate_heating (s : State) (channel : Byte) (gain : Word) (offset : Half) :
    (State.takeCalibrate s channel gain offset).2.heating = s.heating := by
  simp only [State.takeCalibrate]
  repeat' split
  all_goals simp
@[simp] theorem State.takeCalibrate_trips (s : State) (channel : Byte) (gain : Word) (offset : Half) :
    (State.takeCalibrate s channel gain offset).2.trips = s.trips := by
  simp only [State.takeCalibrate]
  repeat' split
  all_goals simp
@[simp] theorem State.takeCalibrate_statusSeq (s : State) (channel : Byte) (gain : Word) (offset : Half) :
    (State.takeCalibrate s channel gain offset).2.statusSeq = s.statusSeq := by
  simp only [State.takeCalibrate]
  repeat' split
  all_goals simp
@[simp] theorem State.takeCalibrate_pending (s : State) (channel : Byte) (gain : Word) (offset : Half) :
    (State.takeCalibrate s channel gain offset).2.pending = s.pending := by
  simp only [State.takeCalibrate]
  repeat' split
  all_goals simp

@[simp] theorem State.retestHold_pins (s : State) :
    (State.retestHold s).pins = s.pins := by
  simp only [State.retestHold]
  repeat' split
  all_goals simp
@[simp] theorem State.retestHold_link (s : State) :
    (State.retestHold s).link = s.link := by
  simp only [State.retestHold]
  repeat' split
  all_goals simp
@[simp] theorem State.retestHold_orders (s : State) :
    (State.retestHold s).orders = s.orders := by
  simp only [State.retestHold]
  repeat' split
  all_goals simp
@[simp] theorem State.retestHold_metering (s : State) :
    (State.retestHold s).metering = s.metering := by
  simp only [State.retestHold]
  repeat' split
  all_goals simp
@[simp] theorem State.retestHold_heating (s : State) :
    (State.retestHold s).heating = s.heating := by
  simp only [State.retestHold]
  repeat' split
  all_goals simp
@[simp] theorem State.retestHold_trips (s : State) :
    (State.retestHold s).trips = s.trips := by
  simp only [State.retestHold]
  repeat' split
  all_goals simp
@[simp] theorem State.retestHold_statusSeq (s : State) :
    (State.retestHold s).statusSeq = s.statusSeq := by
  simp only [State.retestHold]
  repeat' split
  all_goals simp
@[simp] theorem State.retestHold_pending (s : State) :
    (State.retestHold s).pending = s.pending := by
  simp only [State.retestHold]
  repeat' split
  all_goals simp

@[simp] theorem State.applyLevels_pins (s : State) (halt resume : Nat) :
    (State.applyLevels s halt resume).pins = s.pins := by simp [State.applyLevels]
@[simp] theorem State.applyLevels_link (s : State) (halt resume : Nat) :
    (State.applyLevels s halt resume).link = s.link := by simp [State.applyLevels]
@[simp] theorem State.applyLevels_orders (s : State) (halt resume : Nat) :
    (State.applyLevels s halt resume).orders = s.orders := by simp [State.applyLevels]
@[simp] theorem State.applyLevels_metering (s : State) (halt resume : Nat) :
    (State.applyLevels s halt resume).metering = s.metering := by simp [State.applyLevels]
@[simp] theorem State.applyLevels_heating (s : State) (halt resume : Nat) :
    (State.applyLevels s halt resume).heating = s.heating := by simp [State.applyLevels]
@[simp] theorem State.applyLevels_trips (s : State) (halt resume : Nat) :
    (State.applyLevels s halt resume).trips = s.trips := by simp [State.applyLevels]
@[simp] theorem State.applyLevels_statusSeq (s : State) (halt resume : Nat) :
    (State.applyLevels s halt resume).statusSeq = s.statusSeq := by simp [State.applyLevels]
@[simp] theorem State.applyLevels_pending (s : State) (halt resume : Nat) :
    (State.applyLevels s halt resume).pending = s.pending := by simp [State.applyLevels]

@[simp] theorem State.takeJournalLevels_pins (s : State) (halt resume : Byte) :
    (State.takeJournalLevels s halt resume).2.pins = s.pins := by
  simp only [State.takeJournalLevels]
  repeat' split
  all_goals simp
@[simp] theorem State.takeJournalLevels_link (s : State) (halt resume : Byte) :
    (State.takeJournalLevels s halt resume).2.link = s.link := by
  simp only [State.takeJournalLevels]
  repeat' split
  all_goals simp
@[simp] theorem State.takeJournalLevels_orders (s : State) (halt resume : Byte) :
    (State.takeJournalLevels s halt resume).2.orders = s.orders := by
  simp only [State.takeJournalLevels]
  repeat' split
  all_goals simp
@[simp] theorem State.takeJournalLevels_metering (s : State) (halt resume : Byte) :
    (State.takeJournalLevels s halt resume).2.metering = s.metering := by
  simp only [State.takeJournalLevels]
  repeat' split
  all_goals simp
@[simp] theorem State.takeJournalLevels_heating (s : State) (halt resume : Byte) :
    (State.takeJournalLevels s halt resume).2.heating = s.heating := by
  simp only [State.takeJournalLevels]
  repeat' split
  all_goals simp
@[simp] theorem State.takeJournalLevels_trips (s : State) (halt resume : Byte) :
    (State.takeJournalLevels s halt resume).2.trips = s.trips := by
  simp only [State.takeJournalLevels]
  repeat' split
  all_goals simp
@[simp] theorem State.takeJournalLevels_statusSeq (s : State) (halt resume : Byte) :
    (State.takeJournalLevels s halt resume).2.statusSeq = s.statusSeq := by
  simp only [State.takeJournalLevels]
  repeat' split
  all_goals simp
@[simp] theorem State.takeJournalLevels_pending (s : State) (halt resume : Byte) :
    (State.takeJournalLevels s halt resume).2.pending = s.pending := by
  simp only [State.takeJournalLevels]
  repeat' split
  all_goals simp

@[simp] theorem State.releaseHeld_pins (s : State) :
    (State.releaseHeld s).pins = s.pins := by
  simp only [State.releaseHeld]
  repeat' split
  all_goals simp
@[simp] theorem State.releaseHeld_link (s : State) :
    (State.releaseHeld s).link = s.link := by
  simp only [State.releaseHeld]
  repeat' split
  all_goals simp
@[simp] theorem State.releaseHeld_orders (s : State) :
    (State.releaseHeld s).orders = s.orders := by
  simp only [State.releaseHeld]
  repeat' split
  all_goals simp
@[simp] theorem State.releaseHeld_metering (s : State) :
    (State.releaseHeld s).metering = s.metering := by
  simp only [State.releaseHeld]
  repeat' split
  all_goals simp
@[simp] theorem State.releaseHeld_heating (s : State) :
    (State.releaseHeld s).heating = s.heating := by
  simp only [State.releaseHeld]
  repeat' split
  all_goals simp
@[simp] theorem State.releaseHeld_trips (s : State) :
    (State.releaseHeld s).trips = s.trips := by
  simp only [State.releaseHeld]
  repeat' split
  all_goals simp
@[simp] theorem State.releaseHeld_statusSeq (s : State) :
    (State.releaseHeld s).statusSeq = s.statusSeq := by
  simp only [State.releaseHeld]
  repeat' split
  all_goals simp
@[simp] theorem State.releaseHeld_pending (s : State) :
    (State.releaseHeld s).pending = s.pending := by
  simp only [State.releaseHeld]
  repeat' split
  all_goals simp

@[simp] theorem State.releaseWaiting_pins (s : State) :
    (State.releaseWaiting s).pins = s.pins := by
  unfold State.releaseWaiting
  split <;> simp
@[simp] theorem State.releaseWaiting_link (s : State) :
    (State.releaseWaiting s).link = s.link := by
  unfold State.releaseWaiting
  split <;> simp
@[simp] theorem State.releaseWaiting_orders (s : State) :
    (State.releaseWaiting s).orders = s.orders := by
  unfold State.releaseWaiting
  split <;> simp
@[simp] theorem State.releaseWaiting_metering (s : State) :
    (State.releaseWaiting s).metering = s.metering := by
  unfold State.releaseWaiting
  split <;> simp
@[simp] theorem State.releaseWaiting_heating (s : State) :
    (State.releaseWaiting s).heating = s.heating := by
  unfold State.releaseWaiting
  split <;> simp
@[simp] theorem State.releaseWaiting_trips (s : State) :
    (State.releaseWaiting s).trips = s.trips := by
  unfold State.releaseWaiting
  split <;> simp
@[simp] theorem State.releaseWaiting_statusSeq (s : State) :
    (State.releaseWaiting s).statusSeq = s.statusSeq := by
  unfold State.releaseWaiting
  split <;> simp
@[simp] theorem State.releaseWaiting_pending (s : State) :
    (State.releaseWaiting s).pending = s.pending := by
  unfold State.releaseWaiting
  split <;> simp

@[simp] theorem State.retestResume_mem (s : State) :
    (State.retestResume s).mem = s.mem := by
  unfold State.retestResume
  split <;> simp
@[simp] theorem State.retestResume_pins (s : State) :
    (State.retestResume s).pins = s.pins := by
  unfold State.retestResume
  split <;> simp
@[simp] theorem State.retestResume_link (s : State) :
    (State.retestResume s).link = s.link := by
  unfold State.retestResume
  split <;> simp
@[simp] theorem State.retestResume_orders (s : State) :
    (State.retestResume s).orders = s.orders := by
  unfold State.retestResume
  split <;> simp
@[simp] theorem State.retestResume_metering (s : State) :
    (State.retestResume s).metering = s.metering := by
  unfold State.retestResume
  split <;> simp
@[simp] theorem State.retestResume_power (s : State) :
    (State.retestResume s).power = s.power := by
  unfold State.retestResume
  split <;> simp
@[simp] theorem State.retestResume_heating (s : State) :
    (State.retestResume s).heating = s.heating := by
  unfold State.retestResume
  split <;> simp
@[simp] theorem State.retestResume_insulation (s : State) :
    (State.retestResume s).insulation = s.insulation := by
  unfold State.retestResume
  split <;> simp
@[simp] theorem State.retestResume_relay (s : State) :
    (State.retestResume s).relay = s.relay := by
  unfold State.retestResume
  split <;> simp
@[simp] theorem State.retestResume_trips (s : State) :
    (State.retestResume s).trips = s.trips := by
  unfold State.retestResume
  split <;> simp
@[simp] theorem State.retestResume_statusSeq (s : State) :
    (State.retestResume s).statusSeq = s.statusSeq := by
  unfold State.retestResume
  split <;> simp
@[simp] theorem State.retestResume_pending (s : State) :
    (State.retestResume s).pending = s.pending := by
  unfold State.retestResume
  split <;> simp

@[simp] theorem State.applyMark_pins (s : State) (m : Half) :
    (State.applyMark s m).pins = s.pins := by simp [State.applyMark]
@[simp] theorem State.applyMark_link (s : State) (m : Half) :
    (State.applyMark s m).link = s.link := by simp [State.applyMark]
@[simp] theorem State.applyMark_orders (s : State) (m : Half) :
    (State.applyMark s m).orders = s.orders := by simp [State.applyMark]
@[simp] theorem State.applyMark_metering (s : State) (m : Half) :
    (State.applyMark s m).metering = s.metering := by simp [State.applyMark]
@[simp] theorem State.applyMark_heating (s : State) (m : Half) :
    (State.applyMark s m).heating = s.heating := by simp [State.applyMark]
@[simp] theorem State.applyMark_trips (s : State) (m : Half) :
    (State.applyMark s m).trips = s.trips := by simp [State.applyMark]
@[simp] theorem State.applyMark_statusSeq (s : State) (m : Half) :
    (State.applyMark s m).statusSeq = s.statusSeq := by simp [State.applyMark]
@[simp] theorem State.applyMark_pending (s : State) (m : Half) :
    (State.applyMark s m).pending = s.pending := by simp [State.applyMark]

@[simp] theorem State.takeMark_pins (s : State) (m : Half) :
    (State.takeMark s m).pins = s.pins := by
  unfold State.takeMark
  split <;> simp
@[simp] theorem State.takeMark_link (s : State) (m : Half) :
    (State.takeMark s m).link = s.link := by
  unfold State.takeMark
  split <;> simp
@[simp] theorem State.takeMark_orders (s : State) (m : Half) :
    (State.takeMark s m).orders = s.orders := by
  unfold State.takeMark
  split <;> simp
@[simp] theorem State.takeMark_metering (s : State) (m : Half) :
    (State.takeMark s m).metering = s.metering := by
  unfold State.takeMark
  split <;> simp
@[simp] theorem State.takeMark_heating (s : State) (m : Half) :
    (State.takeMark s m).heating = s.heating := by
  unfold State.takeMark
  split <;> simp
@[simp] theorem State.takeMark_trips (s : State) (m : Half) :
    (State.takeMark s m).trips = s.trips := by
  unfold State.takeMark
  split <;> simp
@[simp] theorem State.takeMark_statusSeq (s : State) (m : Half) :
    (State.takeMark s m).statusSeq = s.statusSeq := by
  unfold State.takeMark
  split <;> simp
@[simp] theorem State.takeMark_pending (s : State) (m : Half) :
    (State.takeMark s m).pending = s.pending := by
  unfold State.takeMark
  split <;> simp

@[simp] theorem State.takeReport_pins (s : State) (r : FrameReport) :
    (State.takeReport s r).pins = s.pins := by
  unfold State.takeReport
  split <;> simp
@[simp] theorem State.takeReport_link (s : State) (r : FrameReport) :
    (State.takeReport s r).link = s.link := by
  unfold State.takeReport
  split <;> simp
@[simp] theorem State.takeReport_orders (s : State) (r : FrameReport) :
    (State.takeReport s r).orders = s.orders := by
  unfold State.takeReport
  split <;> simp
@[simp] theorem State.takeReport_metering (s : State) (r : FrameReport) :
    (State.takeReport s r).metering = s.metering := by
  unfold State.takeReport
  split <;> simp
@[simp] theorem State.takeReport_heating (s : State) (r : FrameReport) :
    (State.takeReport s r).heating = s.heating := by
  unfold State.takeReport
  split <;> simp
@[simp] theorem State.takeReport_trips (s : State) (r : FrameReport) :
    (State.takeReport s r).trips = s.trips := by
  unfold State.takeReport
  split <;> simp
@[simp] theorem State.takeReport_statusSeq (s : State) (r : FrameReport) :
    (State.takeReport s r).statusSeq = s.statusSeq := by
  unfold State.takeReport
  split <;> simp
@[simp] theorem State.takeReport_pending (s : State) (r : FrameReport) :
    (State.takeReport s r).pending = s.pending := by
  unfold State.takeReport
  split <;> simp

/-! ## Machine/Heating.lean -/

@[simp] theorem State.reformAcceptance_mem (s : State) :
    (State.reformAcceptance s).mem = s.mem := by simp [State.reformAcceptance]
@[simp] theorem State.reformAcceptance_pins (s : State) :
    (State.reformAcceptance s).pins = s.pins := by simp [State.reformAcceptance]
@[simp] theorem State.reformAcceptance_link (s : State) :
    (State.reformAcceptance s).link = s.link := by simp [State.reformAcceptance]
@[simp] theorem State.reformAcceptance_attn (s : State) :
    (State.reformAcceptance s).attn = s.attn := by simp [State.reformAcceptance]
@[simp] theorem State.reformAcceptance_orders (s : State) :
    (State.reformAcceptance s).orders = s.orders := by simp [State.reformAcceptance]
@[simp] theorem State.reformAcceptance_metering (s : State) :
    (State.reformAcceptance s).metering = s.metering := by simp [State.reformAcceptance]
@[simp] theorem State.reformAcceptance_billing (s : State) :
    (State.reformAcceptance s).billing = s.billing := by simp [State.reformAcceptance]
@[simp] theorem State.reformAcceptance_power (s : State) :
    (State.reformAcceptance s).power = s.power := by simp [State.reformAcceptance]
@[simp] theorem State.reformAcceptance_insulation (s : State) :
    (State.reformAcceptance s).insulation = s.insulation := by simp [State.reformAcceptance]
@[simp] theorem State.reformAcceptance_relay (s : State) :
    (State.reformAcceptance s).relay = s.relay := by simp [State.reformAcceptance]
@[simp] theorem State.reformAcceptance_trips (s : State) :
    (State.reformAcceptance s).trips = s.trips := by simp [State.reformAcceptance]
@[simp] theorem State.reformAcceptance_statusSeq (s : State) :
    (State.reformAcceptance s).statusSeq = s.statusSeq := by simp [State.reformAcceptance]
@[simp] theorem State.reformAcceptance_pending (s : State) :
    (State.reformAcceptance s).pending = s.pending := by simp [State.reformAcceptance]

@[simp] theorem State.testGuards_mem (s : State) :
    (State.testGuards s).mem = s.mem := by
  simp only [State.testGuards]
  repeat' split
  all_goals simp
@[simp] theorem State.testGuards_pins (s : State) :
    (State.testGuards s).pins = s.pins := by
  simp only [State.testGuards]
  repeat' split
  all_goals simp
@[simp] theorem State.testGuards_link (s : State) :
    (State.testGuards s).link = s.link := by
  simp only [State.testGuards]
  repeat' split
  all_goals simp
@[simp] theorem State.testGuards_attn (s : State) :
    (State.testGuards s).attn = s.attn := by
  simp only [State.testGuards]
  repeat' split
  all_goals simp
@[simp] theorem State.testGuards_orders (s : State) :
    (State.testGuards s).orders = s.orders := by
  simp only [State.testGuards]
  repeat' split
  all_goals simp
@[simp] theorem State.testGuards_metering (s : State) :
    (State.testGuards s).metering = s.metering := by
  simp only [State.testGuards]
  repeat' split
  all_goals simp
@[simp] theorem State.testGuards_billing (s : State) :
    (State.testGuards s).billing = s.billing := by
  simp only [State.testGuards]
  repeat' split
  all_goals simp
@[simp] theorem State.testGuards_relay (s : State) :
    (State.testGuards s).relay = s.relay := by
  simp only [State.testGuards]
  repeat' split
  all_goals simp
@[simp] theorem State.testGuards_trips (s : State) :
    (State.testGuards s).trips = s.trips := by
  simp only [State.testGuards]
  repeat' split
  all_goals simp
@[simp] theorem State.testGuards_statusSeq (s : State) :
    (State.testGuards s).statusSeq = s.statusSeq := by
  simp only [State.testGuards]
  repeat' split
  all_goals simp
@[simp] theorem State.testGuards_pending (s : State) :
    (State.testGuards s).pending = s.pending := by
  simp only [State.testGuards]
  repeat' split
  all_goals simp

@[simp] theorem State.dropPlan_mem (s : State) :
    (State.dropPlan s).mem = s.mem := by simp [State.dropPlan]
@[simp] theorem State.dropPlan_pins (s : State) :
    (State.dropPlan s).pins = s.pins := by simp [State.dropPlan]
@[simp] theorem State.dropPlan_link (s : State) :
    (State.dropPlan s).link = s.link := by simp [State.dropPlan]
@[simp] theorem State.dropPlan_attn (s : State) :
    (State.dropPlan s).attn = s.attn := by simp [State.dropPlan]
@[simp] theorem State.dropPlan_orders (s : State) :
    (State.dropPlan s).orders = s.orders := by simp [State.dropPlan]
@[simp] theorem State.dropPlan_metering (s : State) :
    (State.dropPlan s).metering = s.metering := by simp [State.dropPlan]
@[simp] theorem State.dropPlan_billing (s : State) :
    (State.dropPlan s).billing = s.billing := by simp [State.dropPlan]
@[simp] theorem State.dropPlan_power (s : State) :
    (State.dropPlan s).power = s.power := by simp [State.dropPlan]
@[simp] theorem State.dropPlan_insulation (s : State) :
    (State.dropPlan s).insulation = s.insulation := by simp [State.dropPlan]
@[simp] theorem State.dropPlan_relay (s : State) :
    (State.dropPlan s).relay = s.relay := by simp [State.dropPlan]
@[simp] theorem State.dropPlan_trips (s : State) :
    (State.dropPlan s).trips = s.trips := by simp [State.dropPlan]
@[simp] theorem State.dropPlan_statusSeq (s : State) :
    (State.dropPlan s).statusSeq = s.statusSeq := by simp [State.dropPlan]
@[simp] theorem State.dropPlan_pending (s : State) :
    (State.dropPlan s).pending = s.pending := by simp [State.dropPlan]

@[simp] theorem State.endPlan_pins (s : State) (cause : Byte) :
    (State.endPlan s cause).pins = s.pins := by
  unfold State.endPlan
  split <;> simp
@[simp] theorem State.endPlan_link (s : State) (cause : Byte) :
    (State.endPlan s cause).link = s.link := by
  unfold State.endPlan
  split <;> simp
@[simp] theorem State.endPlan_metering (s : State) (cause : Byte) :
    (State.endPlan s cause).metering = s.metering := by
  unfold State.endPlan
  split <;> simp
@[simp] theorem State.endPlan_billing (s : State) (cause : Byte) :
    (State.endPlan s cause).billing = s.billing := by
  unfold State.endPlan
  split <;> simp
@[simp] theorem State.endPlan_power (s : State) (cause : Byte) :
    (State.endPlan s cause).power = s.power := by
  unfold State.endPlan
  split <;> simp
@[simp] theorem State.endPlan_insulation (s : State) (cause : Byte) :
    (State.endPlan s cause).insulation = s.insulation := by
  unfold State.endPlan
  split <;> simp
@[simp] theorem State.endPlan_relay (s : State) (cause : Byte) :
    (State.endPlan s cause).relay = s.relay := by
  unfold State.endPlan
  split <;> simp
@[simp] theorem State.endPlan_trips (s : State) (cause : Byte) :
    (State.endPlan s cause).trips = s.trips := by
  unfold State.endPlan
  split <;> simp
@[simp] theorem State.endPlan_statusSeq (s : State) (cause : Byte) :
    (State.endPlan s cause).statusSeq = s.statusSeq := by
  unfold State.endPlan
  split <;> simp
@[simp] theorem State.endPlan_pending (s : State) (cause : Byte) :
    (State.endPlan s cause).pending = s.pending := by
  unfold State.endPlan
  split <;> simp

@[simp] theorem State.tripPlan_pins (s : State) :
    (State.tripPlan s).pins = s.pins := by
  unfold State.tripPlan
  split <;> simp
@[simp] theorem State.tripPlan_link (s : State) :
    (State.tripPlan s).link = s.link := by
  unfold State.tripPlan
  split <;> simp
@[simp] theorem State.tripPlan_metering (s : State) :
    (State.tripPlan s).metering = s.metering := by
  unfold State.tripPlan
  split <;> simp
@[simp] theorem State.tripPlan_billing (s : State) :
    (State.tripPlan s).billing = s.billing := by
  unfold State.tripPlan
  split <;> simp
@[simp] theorem State.tripPlan_power (s : State) :
    (State.tripPlan s).power = s.power := by
  unfold State.tripPlan
  split <;> simp
@[simp] theorem State.tripPlan_insulation (s : State) :
    (State.tripPlan s).insulation = s.insulation := by
  unfold State.tripPlan
  split <;> simp
@[simp] theorem State.tripPlan_relay (s : State) :
    (State.tripPlan s).relay = s.relay := by
  unfold State.tripPlan
  split <;> simp
@[simp] theorem State.tripPlan_trips (s : State) :
    (State.tripPlan s).trips = s.trips := by
  unfold State.tripPlan
  split <;> simp
@[simp] theorem State.tripPlan_statusSeq (s : State) :
    (State.tripPlan s).statusSeq = s.statusSeq := by
  unfold State.tripPlan
  split <;> simp
@[simp] theorem State.tripPlan_pending (s : State) :
    (State.tripPlan s).pending = s.pending := by
  unfold State.tripPlan
  split <;> simp

@[simp] theorem State.testSensorLoss_pins (s : State) :
    (State.testSensorLoss s).pins = s.pins := by
  simp only [State.testSensorLoss]
  repeat' split
  all_goals simp
@[simp] theorem State.testSensorLoss_link (s : State) :
    (State.testSensorLoss s).link = s.link := by
  simp only [State.testSensorLoss]
  repeat' split
  all_goals simp
@[simp] theorem State.testSensorLoss_metering (s : State) :
    (State.testSensorLoss s).metering = s.metering := by
  simp only [State.testSensorLoss]
  repeat' split
  all_goals simp
@[simp] theorem State.testSensorLoss_billing (s : State) :
    (State.testSensorLoss s).billing = s.billing := by
  simp only [State.testSensorLoss]
  repeat' split
  all_goals simp
@[simp] theorem State.testSensorLoss_relay (s : State) :
    (State.testSensorLoss s).relay = s.relay := by
  simp only [State.testSensorLoss]
  repeat' split
  all_goals simp
@[simp] theorem State.testSensorLoss_trips (s : State) :
    (State.testSensorLoss s).trips = s.trips := by
  simp only [State.testSensorLoss]
  repeat' split
  all_goals simp
@[simp] theorem State.testSensorLoss_statusSeq (s : State) :
    (State.testSensorLoss s).statusSeq = s.statusSeq := by
  simp only [State.testSensorLoss]
  repeat' split
  all_goals simp
@[simp] theorem State.testSensorLoss_pending (s : State) :
    (State.testSensorLoss s).pending = s.pending := by
  simp only [State.testSensorLoss]
  repeat' split
  all_goals simp

@[simp] theorem State.takeHeat_pins (s : State) (slot : SlotNo) (target band hysteresis pMax : Half) (source policy mode : Byte) :
    (State.takeHeat s slot target band hysteresis pMax source policy mode).pins = s.pins := by
  simp only [State.takeHeat]
  repeat' split
  all_goals simp
@[simp] theorem State.takeHeat_link (s : State) (slot : SlotNo) (target band hysteresis pMax : Half) (source policy mode : Byte) :
    (State.takeHeat s slot target band hysteresis pMax source policy mode).link = s.link := by
  simp only [State.takeHeat]
  repeat' split
  all_goals simp
@[simp] theorem State.takeHeat_metering (s : State) (slot : SlotNo) (target band hysteresis pMax : Half) (source policy mode : Byte) :
    (State.takeHeat s slot target band hysteresis pMax source policy mode).metering = s.metering := by
  simp only [State.takeHeat]
  repeat' split
  all_goals simp
@[simp] theorem State.takeHeat_billing (s : State) (slot : SlotNo) (target band hysteresis pMax : Half) (source policy mode : Byte) :
    (State.takeHeat s slot target band hysteresis pMax source policy mode).billing = s.billing := by
  simp only [State.takeHeat]
  repeat' split
  all_goals simp
@[simp] theorem State.takeHeat_power (s : State) (slot : SlotNo) (target band hysteresis pMax : Half) (source policy mode : Byte) :
    (State.takeHeat s slot target band hysteresis pMax source policy mode).power = s.power := by
  simp only [State.takeHeat]
  repeat' split
  all_goals simp
@[simp] theorem State.takeHeat_insulation (s : State) (slot : SlotNo) (target band hysteresis pMax : Half) (source policy mode : Byte) :
    (State.takeHeat s slot target band hysteresis pMax source policy mode).insulation = s.insulation := by
  simp only [State.takeHeat]
  repeat' split
  all_goals simp
@[simp] theorem State.takeHeat_relay (s : State) (slot : SlotNo) (target band hysteresis pMax : Half) (source policy mode : Byte) :
    (State.takeHeat s slot target band hysteresis pMax source policy mode).relay = s.relay := by
  simp only [State.takeHeat]
  repeat' split
  all_goals simp
@[simp] theorem State.takeHeat_trips (s : State) (slot : SlotNo) (target band hysteresis pMax : Half) (source policy mode : Byte) :
    (State.takeHeat s slot target band hysteresis pMax source policy mode).trips = s.trips := by
  simp only [State.takeHeat]
  repeat' split
  all_goals simp
@[simp] theorem State.takeHeat_statusSeq (s : State) (slot : SlotNo) (target band hysteresis pMax : Half) (source policy mode : Byte) :
    (State.takeHeat s slot target band hysteresis pMax source policy mode).statusSeq = s.statusSeq := by
  simp only [State.takeHeat]
  repeat' split
  all_goals simp
@[simp] theorem State.takeHeat_pending (s : State) (slot : SlotNo) (target band hysteresis pMax : Half) (source policy mode : Byte) :
    (State.takeHeat s slot target band hysteresis pMax source policy mode).pending = s.pending := by
  simp only [State.takeHeat]
  repeat' split
  all_goals simp

@[simp] theorem State.takeLoadAcceptance_mem (s : State) (offset : Half) (count : Byte) :
    (State.takeLoadAcceptance s offset count).2.mem = s.mem := by
  simp only [State.takeLoadAcceptance]
  repeat' split
  all_goals simp
@[simp] theorem State.takeLoadAcceptance_pins (s : State) (offset : Half) (count : Byte) :
    (State.takeLoadAcceptance s offset count).2.pins = s.pins := by
  simp only [State.takeLoadAcceptance]
  repeat' split
  all_goals simp
@[simp] theorem State.takeLoadAcceptance_link (s : State) (offset : Half) (count : Byte) :
    (State.takeLoadAcceptance s offset count).2.link = s.link := by
  simp only [State.takeLoadAcceptance]
  repeat' split
  all_goals simp
@[simp] theorem State.takeLoadAcceptance_attn (s : State) (offset : Half) (count : Byte) :
    (State.takeLoadAcceptance s offset count).2.attn = s.attn := by
  simp only [State.takeLoadAcceptance]
  repeat' split
  all_goals simp
@[simp] theorem State.takeLoadAcceptance_orders (s : State) (offset : Half) (count : Byte) :
    (State.takeLoadAcceptance s offset count).2.orders = s.orders := by
  simp only [State.takeLoadAcceptance]
  repeat' split
  all_goals simp
@[simp] theorem State.takeLoadAcceptance_metering (s : State) (offset : Half) (count : Byte) :
    (State.takeLoadAcceptance s offset count).2.metering = s.metering := by
  simp only [State.takeLoadAcceptance]
  repeat' split
  all_goals simp
@[simp] theorem State.takeLoadAcceptance_billing (s : State) (offset : Half) (count : Byte) :
    (State.takeLoadAcceptance s offset count).2.billing = s.billing := by
  simp only [State.takeLoadAcceptance]
  repeat' split
  all_goals simp
@[simp] theorem State.takeLoadAcceptance_power (s : State) (offset : Half) (count : Byte) :
    (State.takeLoadAcceptance s offset count).2.power = s.power := by
  simp only [State.takeLoadAcceptance]
  repeat' split
  all_goals simp
@[simp] theorem State.takeLoadAcceptance_insulation (s : State) (offset : Half) (count : Byte) :
    (State.takeLoadAcceptance s offset count).2.insulation = s.insulation := by
  simp only [State.takeLoadAcceptance]
  repeat' split
  all_goals simp
@[simp] theorem State.takeLoadAcceptance_relay (s : State) (offset : Half) (count : Byte) :
    (State.takeLoadAcceptance s offset count).2.relay = s.relay := by
  simp only [State.takeLoadAcceptance]
  repeat' split
  all_goals simp
@[simp] theorem State.takeLoadAcceptance_trips (s : State) (offset : Half) (count : Byte) :
    (State.takeLoadAcceptance s offset count).2.trips = s.trips := by
  simp only [State.takeLoadAcceptance]
  repeat' split
  all_goals simp
@[simp] theorem State.takeLoadAcceptance_statusSeq (s : State) (offset : Half) (count : Byte) :
    (State.takeLoadAcceptance s offset count).2.statusSeq = s.statusSeq := by
  simp only [State.takeLoadAcceptance]
  repeat' split
  all_goals simp
@[simp] theorem State.takeLoadAcceptance_pending (s : State) (offset : Half) (count : Byte) :
    (State.takeLoadAcceptance s offset count).2.pending = s.pending := by
  simp only [State.takeLoadAcceptance]
  repeat' split
  all_goals simp

@[simp] theorem State.takeSetSensors_pins (s : State) (mask : Byte) (packCap plateLimit : Half) :
    (State.takeSetSensors s mask packCap plateLimit).2.pins = s.pins := by simp [State.takeSetSensors]
@[simp] theorem State.takeSetSensors_link (s : State) (mask : Byte) (packCap plateLimit : Half) :
    (State.takeSetSensors s mask packCap plateLimit).2.link = s.link := by simp [State.takeSetSensors]
@[simp] theorem State.takeSetSensors_metering (s : State) (mask : Byte) (packCap plateLimit : Half) :
    (State.takeSetSensors s mask packCap plateLimit).2.metering = s.metering := by simp [State.takeSetSensors]
@[simp] theorem State.takeSetSensors_billing (s : State) (mask : Byte) (packCap plateLimit : Half) :
    (State.takeSetSensors s mask packCap plateLimit).2.billing = s.billing := by simp [State.takeSetSensors]
@[simp] theorem State.takeSetSensors_relay (s : State) (mask : Byte) (packCap plateLimit : Half) :
    (State.takeSetSensors s mask packCap plateLimit).2.relay = s.relay := by simp [State.takeSetSensors]
@[simp] theorem State.takeSetSensors_trips (s : State) (mask : Byte) (packCap plateLimit : Half) :
    (State.takeSetSensors s mask packCap plateLimit).2.trips = s.trips := by simp [State.takeSetSensors]
@[simp] theorem State.takeSetSensors_statusSeq (s : State) (mask : Byte) (packCap plateLimit : Half) :
    (State.takeSetSensors s mask packCap plateLimit).2.statusSeq = s.statusSeq := by simp [State.takeSetSensors]
@[simp] theorem State.takeSetSensors_pending (s : State) (mask : Byte) (packCap plateLimit : Half) :
    (State.takeSetSensors s mask packCap plateLimit).2.pending = s.pending := by simp [State.takeSetSensors]

/-! ## Machine/Trip.lean -/

@[simp] theorem State.tripEffects_pins (s : State) (k : TripKind) :
    (State.tripEffects s k).pins = s.pins := by simp [State.tripEffects]
@[simp] theorem State.tripEffects_link (s : State) (k : TripKind) :
    (State.tripEffects s k).link = s.link := by simp [State.tripEffects]
@[simp] theorem State.tripEffects_metering (s : State) (k : TripKind) :
    (State.tripEffects s k).metering = s.metering := by simp [State.tripEffects]
@[simp] theorem State.tripEffects_trips (s : State) (k : TripKind) :
    (State.tripEffects s k).trips = s.trips := by simp [State.tripEffects]
@[simp] theorem State.tripEffects_statusSeq (s : State) (k : TripKind) :
    (State.tripEffects s k).statusSeq = s.statusSeq := by simp [State.tripEffects]
@[simp] theorem State.tripEffects_pending (s : State) (k : TripKind) :
    (State.tripEffects s k).pending = s.pending := by simp [State.tripEffects]

@[simp] theorem State.latchTrip_mem (s : State) (k : TripKind) :
    (State.latchTrip s k).mem = s.mem := by
  unfold State.latchTrip
  split <;> simp
@[simp] theorem State.latchTrip_pins (s : State) (k : TripKind) :
    (State.latchTrip s k).pins = s.pins := by
  unfold State.latchTrip
  split <;> simp
@[simp] theorem State.latchTrip_link (s : State) (k : TripKind) :
    (State.latchTrip s k).link = s.link := by
  unfold State.latchTrip
  split <;> simp
@[simp] theorem State.latchTrip_orders (s : State) (k : TripKind) :
    (State.latchTrip s k).orders = s.orders := by
  unfold State.latchTrip
  split <;> simp
@[simp] theorem State.latchTrip_metering (s : State) (k : TripKind) :
    (State.latchTrip s k).metering = s.metering := by
  unfold State.latchTrip
  split <;> simp
@[simp] theorem State.latchTrip_billing (s : State) (k : TripKind) :
    (State.latchTrip s k).billing = s.billing := by
  unfold State.latchTrip
  split <;> simp
@[simp] theorem State.latchTrip_heating (s : State) (k : TripKind) :
    (State.latchTrip s k).heating = s.heating := by
  unfold State.latchTrip
  split <;> simp
@[simp] theorem State.latchTrip_statusSeq (s : State) (k : TripKind) :
    (State.latchTrip s k).statusSeq = s.statusSeq := by
  unfold State.latchTrip
  split <;> simp
@[simp] theorem State.latchTrip_pending (s : State) (k : TripKind) :
    (State.latchTrip s k).pending = s.pending := by
  unfold State.latchTrip
  split <;> simp

@[simp] theorem State.weldPasses_mem (s : State) (k : TripKind) :
    (State.weldPasses s k).mem = s.mem := by
  unfold State.weldPasses
  split <;> simp
@[simp] theorem State.weldPasses_pins (s : State) (k : TripKind) :
    (State.weldPasses s k).pins = s.pins := by
  unfold State.weldPasses
  split <;> simp
@[simp] theorem State.weldPasses_link (s : State) (k : TripKind) :
    (State.weldPasses s k).link = s.link := by
  unfold State.weldPasses
  split <;> simp
@[simp] theorem State.weldPasses_attn (s : State) (k : TripKind) :
    (State.weldPasses s k).attn = s.attn := by
  unfold State.weldPasses
  split <;> simp
@[simp] theorem State.weldPasses_orders (s : State) (k : TripKind) :
    (State.weldPasses s k).orders = s.orders := by
  unfold State.weldPasses
  split <;> simp
@[simp] theorem State.weldPasses_metering (s : State) (k : TripKind) :
    (State.weldPasses s k).metering = s.metering := by
  unfold State.weldPasses
  split <;> simp
@[simp] theorem State.weldPasses_power (s : State) (k : TripKind) :
    (State.weldPasses s k).power = s.power := by
  unfold State.weldPasses
  split <;> simp
@[simp] theorem State.weldPasses_heating (s : State) (k : TripKind) :
    (State.weldPasses s k).heating = s.heating := by
  unfold State.weldPasses
  split <;> simp
@[simp] theorem State.weldPasses_insulation (s : State) (k : TripKind) :
    (State.weldPasses s k).insulation = s.insulation := by
  unfold State.weldPasses
  split <;> simp
@[simp] theorem State.weldPasses_relay (s : State) (k : TripKind) :
    (State.weldPasses s k).relay = s.relay := by
  unfold State.weldPasses
  split <;> simp
@[simp] theorem State.weldPasses_trips (s : State) (k : TripKind) :
    (State.weldPasses s k).trips = s.trips := by
  unfold State.weldPasses
  split <;> simp
@[simp] theorem State.weldPasses_statusSeq (s : State) (k : TripKind) :
    (State.weldPasses s k).statusSeq = s.statusSeq := by
  unfold State.weldPasses
  split <;> simp
@[simp] theorem State.weldPasses_pending (s : State) (k : TripKind) :
    (State.weldPasses s k).pending = s.pending := by
  unfold State.weldPasses
  split <;> simp

@[simp] theorem State.tripReport_pins (s : State) (k : TripKind) :
    (State.tripReport s k).pins = s.pins := by
  unfold State.tripReport
  split <;> simp
@[simp] theorem State.tripReport_link (s : State) (k : TripKind) :
    (State.tripReport s k).link = s.link := by
  unfold State.tripReport
  split <;> simp
@[simp] theorem State.tripReport_metering (s : State) (k : TripKind) :
    (State.tripReport s k).metering = s.metering := by
  unfold State.tripReport
  split <;> simp
@[simp] theorem State.tripReport_statusSeq (s : State) (k : TripKind) :
    (State.tripReport s k).statusSeq = s.statusSeq := by
  unfold State.tripReport
  split <;> simp
@[simp] theorem State.tripReport_pending (s : State) (k : TripKind) :
    (State.tripReport s k).pending = s.pending := by
  unfold State.tripReport
  split <;> simp

@[simp] theorem State.clearTrips_mem (s : State) :
    (State.clearTrips s).mem = s.mem := by
  simp only [State.clearTrips]
  repeat' split
  all_goals simp
@[simp] theorem State.clearTrips_pins (s : State) :
    (State.clearTrips s).pins = s.pins := by
  simp only [State.clearTrips]
  repeat' split
  all_goals simp
@[simp] theorem State.clearTrips_link (s : State) :
    (State.clearTrips s).link = s.link := by
  simp only [State.clearTrips]
  repeat' split
  all_goals simp
@[simp] theorem State.clearTrips_orders (s : State) :
    (State.clearTrips s).orders = s.orders := by
  simp only [State.clearTrips]
  repeat' split
  all_goals simp
@[simp] theorem State.clearTrips_metering (s : State) :
    (State.clearTrips s).metering = s.metering := by
  simp only [State.clearTrips]
  repeat' split
  all_goals simp
@[simp] theorem State.clearTrips_billing (s : State) :
    (State.clearTrips s).billing = s.billing := by
  simp only [State.clearTrips]
  repeat' split
  all_goals simp
@[simp] theorem State.clearTrips_power (s : State) :
    (State.clearTrips s).power = s.power := by
  simp only [State.clearTrips]
  repeat' split
  all_goals simp
@[simp] theorem State.clearTrips_heating (s : State) :
    (State.clearTrips s).heating = s.heating := by
  simp only [State.clearTrips]
  repeat' split
  all_goals simp
@[simp] theorem State.clearTrips_insulation (s : State) :
    (State.clearTrips s).insulation = s.insulation := by
  simp only [State.clearTrips]
  repeat' split
  all_goals simp
@[simp] theorem State.clearTrips_relay (s : State) :
    (State.clearTrips s).relay = s.relay := by
  simp only [State.clearTrips]
  repeat' split
  all_goals simp
@[simp] theorem State.clearTrips_statusSeq (s : State) :
    (State.clearTrips s).statusSeq = s.statusSeq := by
  simp only [State.clearTrips]
  repeat' split
  all_goals simp
@[simp] theorem State.clearTrips_pending (s : State) :
    (State.clearTrips s).pending = s.pending := by
  simp only [State.clearTrips]
  repeat' split
  all_goals simp

@[simp] theorem State.takeClearTrip_mem (s : State) :
    (State.takeClearTrip s).2.mem = s.mem := by simp [State.takeClearTrip]
@[simp] theorem State.takeClearTrip_pins (s : State) :
    (State.takeClearTrip s).2.pins = s.pins := by simp [State.takeClearTrip]
@[simp] theorem State.takeClearTrip_link (s : State) :
    (State.takeClearTrip s).2.link = s.link := by simp [State.takeClearTrip]
@[simp] theorem State.takeClearTrip_orders (s : State) :
    (State.takeClearTrip s).2.orders = s.orders := by simp [State.takeClearTrip]
@[simp] theorem State.takeClearTrip_metering (s : State) :
    (State.takeClearTrip s).2.metering = s.metering := by simp [State.takeClearTrip]
@[simp] theorem State.takeClearTrip_billing (s : State) :
    (State.takeClearTrip s).2.billing = s.billing := by simp [State.takeClearTrip]
@[simp] theorem State.takeClearTrip_power (s : State) :
    (State.takeClearTrip s).2.power = s.power := by simp [State.takeClearTrip]
@[simp] theorem State.takeClearTrip_heating (s : State) :
    (State.takeClearTrip s).2.heating = s.heating := by simp [State.takeClearTrip]
@[simp] theorem State.takeClearTrip_insulation (s : State) :
    (State.takeClearTrip s).2.insulation = s.insulation := by simp [State.takeClearTrip]
@[simp] theorem State.takeClearTrip_relay (s : State) :
    (State.takeClearTrip s).2.relay = s.relay := by simp [State.takeClearTrip]
@[simp] theorem State.takeClearTrip_statusSeq (s : State) :
    (State.takeClearTrip s).2.statusSeq = s.statusSeq := by simp [State.takeClearTrip]
@[simp] theorem State.takeClearTrip_pending (s : State) :
    (State.takeClearTrip s).2.pending = s.pending := by simp [State.takeClearTrip]

@[simp] theorem State.watchInfb_mem (s : State) :
    (State.watchInfb s).mem = s.mem := by simp [State.watchInfb]
@[simp] theorem State.watchInfb_pins (s : State) :
    (State.watchInfb s).pins = s.pins := by simp [State.watchInfb]
@[simp] theorem State.watchInfb_link (s : State) :
    (State.watchInfb s).link = s.link := by simp [State.watchInfb]
@[simp] theorem State.watchInfb_attn (s : State) :
    (State.watchInfb s).attn = s.attn := by simp [State.watchInfb]
@[simp] theorem State.watchInfb_orders (s : State) :
    (State.watchInfb s).orders = s.orders := by simp [State.watchInfb]
@[simp] theorem State.watchInfb_metering (s : State) :
    (State.watchInfb s).metering = s.metering := by simp [State.watchInfb]
@[simp] theorem State.watchInfb_billing (s : State) :
    (State.watchInfb s).billing = s.billing := by simp [State.watchInfb]
@[simp] theorem State.watchInfb_power (s : State) :
    (State.watchInfb s).power = s.power := by simp [State.watchInfb]
@[simp] theorem State.watchInfb_heating (s : State) :
    (State.watchInfb s).heating = s.heating := by simp [State.watchInfb]
@[simp] theorem State.watchInfb_relay (s : State) :
    (State.watchInfb s).relay = s.relay := by simp [State.watchInfb]
@[simp] theorem State.watchInfb_trips (s : State) :
    (State.watchInfb s).trips = s.trips := by simp [State.watchInfb]
@[simp] theorem State.watchInfb_statusSeq (s : State) :
    (State.watchInfb s).statusSeq = s.statusSeq := by simp [State.watchInfb]
@[simp] theorem State.watchInfb_pending (s : State) :
    (State.watchInfb s).pending = s.pending := by simp [State.watchInfb]

@[simp] theorem State.setInfb_mem (s : State) (closed : Bool) :
    (State.setInfb s closed).mem = s.mem := by simp [State.setInfb]
@[simp] theorem State.setInfb_link (s : State) (closed : Bool) :
    (State.setInfb s closed).link = s.link := by simp [State.setInfb]
@[simp] theorem State.setInfb_attn (s : State) (closed : Bool) :
    (State.setInfb s closed).attn = s.attn := by simp [State.setInfb]
@[simp] theorem State.setInfb_orders (s : State) (closed : Bool) :
    (State.setInfb s closed).orders = s.orders := by simp [State.setInfb]
@[simp] theorem State.setInfb_billing (s : State) (closed : Bool) :
    (State.setInfb s closed).billing = s.billing := by simp [State.setInfb]
@[simp] theorem State.setInfb_power (s : State) (closed : Bool) :
    (State.setInfb s closed).power = s.power := by simp [State.setInfb]
@[simp] theorem State.setInfb_heating (s : State) (closed : Bool) :
    (State.setInfb s closed).heating = s.heating := by simp [State.setInfb]
@[simp] theorem State.setInfb_relay (s : State) (closed : Bool) :
    (State.setInfb s closed).relay = s.relay := by simp [State.setInfb]
@[simp] theorem State.setInfb_trips (s : State) (closed : Bool) :
    (State.setInfb s closed).trips = s.trips := by simp [State.setInfb]
@[simp] theorem State.setInfb_statusSeq (s : State) (closed : Bool) :
    (State.setInfb s closed).statusSeq = s.statusSeq := by simp [State.setInfb]
@[simp] theorem State.setInfb_pending (s : State) (closed : Bool) :
    (State.setInfb s closed).pending = s.pending := by simp [State.setInfb]

@[simp] theorem State.infbClosed_mem (s : State) :
    (State.infbClosed s).mem = s.mem := by
  unfold State.infbClosed
  split <;> simp
@[simp] theorem State.infbClosed_pins (s : State) :
    (State.infbClosed s).pins = s.pins := by
  unfold State.infbClosed
  split <;> simp
@[simp] theorem State.infbClosed_link (s : State) :
    (State.infbClosed s).link = s.link := by
  unfold State.infbClosed
  split <;> simp
@[simp] theorem State.infbClosed_attn (s : State) :
    (State.infbClosed s).attn = s.attn := by
  unfold State.infbClosed
  split <;> simp
@[simp] theorem State.infbClosed_orders (s : State) :
    (State.infbClosed s).orders = s.orders := by
  unfold State.infbClosed
  split <;> simp
@[simp] theorem State.infbClosed_metering (s : State) :
    (State.infbClosed s).metering = s.metering := by
  unfold State.infbClosed
  split <;> simp
@[simp] theorem State.infbClosed_billing (s : State) :
    (State.infbClosed s).billing = s.billing := by
  unfold State.infbClosed
  split <;> simp
@[simp] theorem State.infbClosed_power (s : State) :
    (State.infbClosed s).power = s.power := by
  unfold State.infbClosed
  split <;> simp
@[simp] theorem State.infbClosed_heating (s : State) :
    (State.infbClosed s).heating = s.heating := by
  unfold State.infbClosed
  split <;> simp
@[simp] theorem State.infbClosed_insulation (s : State) :
    (State.infbClosed s).insulation = s.insulation := by
  unfold State.infbClosed
  split <;> simp
@[simp] theorem State.infbClosed_trips (s : State) :
    (State.infbClosed s).trips = s.trips := by
  unfold State.infbClosed
  split <;> simp
@[simp] theorem State.infbClosed_statusSeq (s : State) :
    (State.infbClosed s).statusSeq = s.statusSeq := by
  unfold State.infbClosed
  split <;> simp
@[simp] theorem State.infbClosed_pending (s : State) :
    (State.infbClosed s).pending = s.pending := by
  unfold State.infbClosed
  split <;> simp

@[simp] theorem State.contactLost_pins (s : State) :
    (State.contactLost s).pins = s.pins := by simp [State.contactLost]
@[simp] theorem State.contactLost_link (s : State) :
    (State.contactLost s).link = s.link := by simp [State.contactLost]
@[simp] theorem State.contactLost_metering (s : State) :
    (State.contactLost s).metering = s.metering := by simp [State.contactLost]
@[simp] theorem State.contactLost_statusSeq (s : State) :
    (State.contactLost s).statusSeq = s.statusSeq := by simp [State.contactLost]
@[simp] theorem State.contactLost_pending (s : State) :
    (State.contactLost s).pending = s.pending := by simp [State.contactLost]

@[simp] theorem State.infbOpen_pins (s : State) :
    (State.infbOpen s).pins = s.pins := by
  unfold State.infbOpen
  split <;> simp
@[simp] theorem State.infbOpen_link (s : State) :
    (State.infbOpen s).link = s.link := by
  unfold State.infbOpen
  split <;> simp
@[simp] theorem State.infbOpen_metering (s : State) :
    (State.infbOpen s).metering = s.metering := by
  unfold State.infbOpen
  split <;> simp
@[simp] theorem State.infbOpen_statusSeq (s : State) :
    (State.infbOpen s).statusSeq = s.statusSeq := by
  unfold State.infbOpen
  split <;> simp
@[simp] theorem State.infbOpen_pending (s : State) :
    (State.infbOpen s).pending = s.pending := by
  unfold State.infbOpen
  split <;> simp

@[simp] theorem State.closeTimedOut_pins (s : State) :
    (State.closeTimedOut s).pins = s.pins := by
  simp only [State.closeTimedOut]
  repeat' split
  all_goals simp
@[simp] theorem State.closeTimedOut_link (s : State) :
    (State.closeTimedOut s).link = s.link := by
  simp only [State.closeTimedOut]
  repeat' split
  all_goals simp
@[simp] theorem State.closeTimedOut_metering (s : State) :
    (State.closeTimedOut s).metering = s.metering := by
  simp only [State.closeTimedOut]
  repeat' split
  all_goals simp
@[simp] theorem State.closeTimedOut_statusSeq (s : State) :
    (State.closeTimedOut s).statusSeq = s.statusSeq := by
  simp only [State.closeTimedOut]
  repeat' split
  all_goals simp
@[simp] theorem State.closeTimedOut_pending (s : State) :
    (State.closeTimedOut s).pending = s.pending := by
  simp only [State.closeTimedOut]
  repeat' split
  all_goals simp

@[simp] theorem State.weld_pins (s : State) :
    (State.weld s).pins = s.pins := by simp [State.weld]
@[simp] theorem State.weld_link (s : State) :
    (State.weld s).link = s.link := by simp [State.weld]
@[simp] theorem State.weld_metering (s : State) :
    (State.weld s).metering = s.metering := by simp [State.weld]
@[simp] theorem State.weld_statusSeq (s : State) :
    (State.weld s).statusSeq = s.statusSeq := by simp [State.weld]
@[simp] theorem State.weld_pending (s : State) :
    (State.weld s).pending = s.pending := by simp [State.weld]

@[simp] theorem State.releaseTimedOut_pins (s : State) :
    (State.releaseTimedOut s).pins = s.pins := by
  unfold State.releaseTimedOut
  split <;> simp
@[simp] theorem State.releaseTimedOut_link (s : State) :
    (State.releaseTimedOut s).link = s.link := by
  unfold State.releaseTimedOut
  split <;> simp
@[simp] theorem State.releaseTimedOut_metering (s : State) :
    (State.releaseTimedOut s).metering = s.metering := by
  unfold State.releaseTimedOut
  split <;> simp
@[simp] theorem State.releaseTimedOut_statusSeq (s : State) :
    (State.releaseTimedOut s).statusSeq = s.statusSeq := by
  unfold State.releaseTimedOut
  split <;> simp
@[simp] theorem State.releaseTimedOut_pending (s : State) :
    (State.releaseTimedOut s).pending = s.pending := by
  unfold State.releaseTimedOut
  split <;> simp

/-! ## Machine/Scan.lean -/

@[simp] theorem State.takeTable_mem (s : State) (scan : Scan) :
    (State.takeTable s scan).mem = s.mem := by simp [State.takeTable]
@[simp] theorem State.takeTable_pins (s : State) (scan : Scan) :
    (State.takeTable s scan).pins = s.pins := by simp [State.takeTable]
@[simp] theorem State.takeTable_link (s : State) (scan : Scan) :
    (State.takeTable s scan).link = s.link := by simp [State.takeTable]
@[simp] theorem State.takeTable_attn (s : State) (scan : Scan) :
    (State.takeTable s scan).attn = s.attn := by simp [State.takeTable]
@[simp] theorem State.takeTable_orders (s : State) (scan : Scan) :
    (State.takeTable s scan).orders = s.orders := by simp [State.takeTable]
@[simp] theorem State.takeTable_metering (s : State) (scan : Scan) :
    (State.takeTable s scan).metering = s.metering := by simp [State.takeTable]
@[simp] theorem State.takeTable_billing (s : State) (scan : Scan) :
    (State.takeTable s scan).billing = s.billing := by simp [State.takeTable]
@[simp] theorem State.takeTable_power (s : State) (scan : Scan) :
    (State.takeTable s scan).power = s.power := by simp [State.takeTable]
@[simp] theorem State.takeTable_insulation (s : State) (scan : Scan) :
    (State.takeTable s scan).insulation = s.insulation := by simp [State.takeTable]
@[simp] theorem State.takeTable_relay (s : State) (scan : Scan) :
    (State.takeTable s scan).relay = s.relay := by simp [State.takeTable]
@[simp] theorem State.takeTable_trips (s : State) (scan : Scan) :
    (State.takeTable s scan).trips = s.trips := by simp [State.takeTable]
@[simp] theorem State.takeTable_statusSeq (s : State) (scan : Scan) :
    (State.takeTable s scan).statusSeq = s.statusSeq := by simp [State.takeTable]
@[simp] theorem State.takeTable_pending (s : State) (scan : Scan) :
    (State.takeTable s scan).pending = s.pending := by simp [State.takeTable]

@[simp] theorem State.tripIf_pins (s : State) (c : Bool) (k : TripKind) :
    (State.tripIf s c k).pins = s.pins := by
  unfold State.tripIf
  split <;> simp
@[simp] theorem State.tripIf_link (s : State) (c : Bool) (k : TripKind) :
    (State.tripIf s c k).link = s.link := by
  unfold State.tripIf
  split <;> simp
@[simp] theorem State.tripIf_metering (s : State) (c : Bool) (k : TripKind) :
    (State.tripIf s c k).metering = s.metering := by
  unfold State.tripIf
  split <;> simp
@[simp] theorem State.tripIf_statusSeq (s : State) (c : Bool) (k : TripKind) :
    (State.tripIf s c k).statusSeq = s.statusSeq := by
  unfold State.tripIf
  split <;> simp
@[simp] theorem State.tripIf_pending (s : State) (c : Bool) (k : TripKind) :
    (State.tripIf s c k).pending = s.pending := by
  unfold State.tripIf
  split <;> simp

@[simp] theorem State.stepCounts_pins (s : State) :
    (State.stepCounts s).pins = s.pins := by simp [State.stepCounts]
@[simp] theorem State.stepCounts_link (s : State) :
    (State.stepCounts s).link = s.link := by simp [State.stepCounts]
@[simp] theorem State.stepCounts_metering (s : State) :
    (State.stepCounts s).metering = s.metering := by simp [State.stepCounts]
@[simp] theorem State.stepCounts_statusSeq (s : State) :
    (State.stepCounts s).statusSeq = s.statusSeq := by simp [State.stepCounts]
@[simp] theorem State.stepCounts_pending (s : State) :
    (State.stepCounts s).pending = s.pending := by simp [State.stepCounts]

@[simp] theorem State.firstHolding_mem (s : State) (p : Plan) (phase : PlanPhase) :
    (State.firstHolding s p phase).mem = s.mem := by
  unfold State.firstHolding
  split <;> simp
@[simp] theorem State.firstHolding_pins (s : State) (p : Plan) (phase : PlanPhase) :
    (State.firstHolding s p phase).pins = s.pins := by
  unfold State.firstHolding
  split <;> simp
@[simp] theorem State.firstHolding_link (s : State) (p : Plan) (phase : PlanPhase) :
    (State.firstHolding s p phase).link = s.link := by
  unfold State.firstHolding
  split <;> simp
@[simp] theorem State.firstHolding_orders (s : State) (p : Plan) (phase : PlanPhase) :
    (State.firstHolding s p phase).orders = s.orders := by
  unfold State.firstHolding
  split <;> simp
@[simp] theorem State.firstHolding_metering (s : State) (p : Plan) (phase : PlanPhase) :
    (State.firstHolding s p phase).metering = s.metering := by
  unfold State.firstHolding
  split <;> simp
@[simp] theorem State.firstHolding_billing (s : State) (p : Plan) (phase : PlanPhase) :
    (State.firstHolding s p phase).billing = s.billing := by
  unfold State.firstHolding
  split <;> simp
@[simp] theorem State.firstHolding_power (s : State) (p : Plan) (phase : PlanPhase) :
    (State.firstHolding s p phase).power = s.power := by
  unfold State.firstHolding
  split <;> simp
@[simp] theorem State.firstHolding_heating (s : State) (p : Plan) (phase : PlanPhase) :
    (State.firstHolding s p phase).heating = s.heating := by
  unfold State.firstHolding
  split <;> simp
@[simp] theorem State.firstHolding_insulation (s : State) (p : Plan) (phase : PlanPhase) :
    (State.firstHolding s p phase).insulation = s.insulation := by
  unfold State.firstHolding
  split <;> simp
@[simp] theorem State.firstHolding_relay (s : State) (p : Plan) (phase : PlanPhase) :
    (State.firstHolding s p phase).relay = s.relay := by
  unfold State.firstHolding
  split <;> simp
@[simp] theorem State.firstHolding_trips (s : State) (p : Plan) (phase : PlanPhase) :
    (State.firstHolding s p phase).trips = s.trips := by
  unfold State.firstHolding
  split <;> simp
@[simp] theorem State.firstHolding_statusSeq (s : State) (p : Plan) (phase : PlanPhase) :
    (State.firstHolding s p phase).statusSeq = s.statusSeq := by
  unfold State.firstHolding
  split <;> simp
@[simp] theorem State.firstHolding_pending (s : State) (p : Plan) (phase : PlanPhase) :
    (State.firstHolding s p phase).pending = s.pending := by
  unfold State.firstHolding
  split <;> simp

@[simp] theorem State.stepPlan_pins (s : State) :
    (State.stepPlan s).pins = s.pins := by
  simp only [State.stepPlan]
  repeat' split
  all_goals simp
@[simp] theorem State.stepPlan_link (s : State) :
    (State.stepPlan s).link = s.link := by
  simp only [State.stepPlan]
  repeat' split
  all_goals simp
@[simp] theorem State.stepPlan_metering (s : State) :
    (State.stepPlan s).metering = s.metering := by
  simp only [State.stepPlan]
  repeat' split
  all_goals simp
@[simp] theorem State.stepPlan_billing (s : State) :
    (State.stepPlan s).billing = s.billing := by
  simp only [State.stepPlan]
  repeat' split
  all_goals simp
@[simp] theorem State.stepPlan_power (s : State) :
    (State.stepPlan s).power = s.power := by
  simp only [State.stepPlan]
  repeat' split
  all_goals simp
@[simp] theorem State.stepPlan_insulation (s : State) :
    (State.stepPlan s).insulation = s.insulation := by
  simp only [State.stepPlan]
  repeat' split
  all_goals simp
@[simp] theorem State.stepPlan_relay (s : State) :
    (State.stepPlan s).relay = s.relay := by
  simp only [State.stepPlan]
  repeat' split
  all_goals simp
@[simp] theorem State.stepPlan_trips (s : State) :
    (State.stepPlan s).trips = s.trips := by
  simp only [State.stepPlan]
  repeat' split
  all_goals simp
@[simp] theorem State.stepPlan_statusSeq (s : State) :
    (State.stepPlan s).statusSeq = s.statusSeq := by
  simp only [State.stepPlan]
  repeat' split
  all_goals simp
@[simp] theorem State.stepPlan_pending (s : State) :
    (State.stepPlan s).pending = s.pending := by
  simp only [State.stepPlan]
  repeat' split
  all_goals simp

end Sys2Proof.Machine
end

