-- ==== Sys2Proof/Laws/FramesPower.lean ====
section
/-! SUPPORT. Frames: which parts of State each shared operation of these machine files leaves as
they were, one lemma per operation per part. -/

namespace Sys2Proof.Machine

/-! ## Machine/Power.lean -/

@[simp] theorem State.renew_mem (s : State) :
    (State.renew s).mem = s.mem := by
  unfold State.renew
  split <;> simp
@[simp] theorem State.renew_pins (s : State) :
    (State.renew s).pins = s.pins := by
  unfold State.renew
  split <;> simp
@[simp] theorem State.renew_link (s : State) :
    (State.renew s).link = s.link := by
  unfold State.renew
  split <;> simp
@[simp] theorem State.renew_orders (s : State) :
    (State.renew s).orders = s.orders := by
  unfold State.renew
  split <;> simp
@[simp] theorem State.renew_metering (s : State) :
    (State.renew s).metering = s.metering := by
  unfold State.renew
  split <;> simp
@[simp] theorem State.renew_billing (s : State) :
    (State.renew s).billing = s.billing := by
  unfold State.renew
  split <;> simp
@[simp] theorem State.renew_heating (s : State) :
    (State.renew s).heating = s.heating := by
  unfold State.renew
  split <;> simp
@[simp] theorem State.renew_trips (s : State) :
    (State.renew s).trips = s.trips := by
  unfold State.renew
  split <;> simp
@[simp] theorem State.renew_statusSeq (s : State) :
    (State.renew s).statusSeq = s.statusSeq := by
  unfold State.renew
  split <;> simp
@[simp] theorem State.renew_pending (s : State) :
    (State.renew s).pending = s.pending := by
  unfold State.renew
  split <;> simp

@[simp] theorem State.takeVoltage_mem (s : State) (v : Nat) :
    (State.takeVoltage s v).mem = s.mem := by simp [State.takeVoltage]
@[simp] theorem State.takeVoltage_pins (s : State) (v : Nat) :
    (State.takeVoltage s v).pins = s.pins := by simp [State.takeVoltage]
@[simp] theorem State.takeVoltage_link (s : State) (v : Nat) :
    (State.takeVoltage s v).link = s.link := by simp [State.takeVoltage]
@[simp] theorem State.takeVoltage_attn (s : State) (v : Nat) :
    (State.takeVoltage s v).attn = s.attn := by simp [State.takeVoltage]
@[simp] theorem State.takeVoltage_orders (s : State) (v : Nat) :
    (State.takeVoltage s v).orders = s.orders := by simp [State.takeVoltage]
@[simp] theorem State.takeVoltage_metering (s : State) (v : Nat) :
    (State.takeVoltage s v).metering = s.metering := by simp [State.takeVoltage]
@[simp] theorem State.takeVoltage_billing (s : State) (v : Nat) :
    (State.takeVoltage s v).billing = s.billing := by simp [State.takeVoltage]
@[simp] theorem State.takeVoltage_heating (s : State) (v : Nat) :
    (State.takeVoltage s v).heating = s.heating := by simp [State.takeVoltage]
@[simp] theorem State.takeVoltage_trips (s : State) (v : Nat) :
    (State.takeVoltage s v).trips = s.trips := by simp [State.takeVoltage]
@[simp] theorem State.takeVoltage_statusSeq (s : State) (v : Nat) :
    (State.takeVoltage s v).statusSeq = s.statusSeq := by simp [State.takeVoltage]
@[simp] theorem State.takeVoltage_pending (s : State) (v : Nat) :
    (State.takeVoltage s v).pending = s.pending := by simp [State.takeVoltage]

@[simp] theorem State.applyGrant_mem (s : State) (g f p : Nat) :
    (State.applyGrant s g f p).mem = s.mem := by simp [State.applyGrant]
@[simp] theorem State.applyGrant_pins (s : State) (g f p : Nat) :
    (State.applyGrant s g f p).pins = s.pins := by simp [State.applyGrant]
@[simp] theorem State.applyGrant_link (s : State) (g f p : Nat) :
    (State.applyGrant s g f p).link = s.link := by simp [State.applyGrant]
@[simp] theorem State.applyGrant_attn (s : State) (g f p : Nat) :
    (State.applyGrant s g f p).attn = s.attn := by simp [State.applyGrant]
@[simp] theorem State.applyGrant_orders (s : State) (g f p : Nat) :
    (State.applyGrant s g f p).orders = s.orders := by simp [State.applyGrant]
@[simp] theorem State.applyGrant_metering (s : State) (g f p : Nat) :
    (State.applyGrant s g f p).metering = s.metering := by simp [State.applyGrant]
@[simp] theorem State.applyGrant_billing (s : State) (g f p : Nat) :
    (State.applyGrant s g f p).billing = s.billing := by simp [State.applyGrant]
@[simp] theorem State.applyGrant_heating (s : State) (g f p : Nat) :
    (State.applyGrant s g f p).heating = s.heating := by simp [State.applyGrant]
@[simp] theorem State.applyGrant_trips (s : State) (g f p : Nat) :
    (State.applyGrant s g f p).trips = s.trips := by simp [State.applyGrant]
@[simp] theorem State.applyGrant_statusSeq (s : State) (g f p : Nat) :
    (State.applyGrant s g f p).statusSeq = s.statusSeq := by simp [State.applyGrant]
@[simp] theorem State.applyGrant_pending (s : State) (g f p : Nat) :
    (State.applyGrant s g f p).pending = s.pending := by simp [State.applyGrant]

@[simp] theorem State.takeSetGrant_mem (s : State) (grant fallback : Half) (period : Byte) :
    (State.takeSetGrant s grant fallback period).2.mem = s.mem := by simp [State.takeSetGrant]
@[simp] theorem State.takeSetGrant_pins (s : State) (grant fallback : Half) (period : Byte) :
    (State.takeSetGrant s grant fallback period).2.pins = s.pins := by simp [State.takeSetGrant]
@[simp] theorem State.takeSetGrant_link (s : State) (grant fallback : Half) (period : Byte) :
    (State.takeSetGrant s grant fallback period).2.link = s.link := by simp [State.takeSetGrant]
@[simp] theorem State.takeSetGrant_attn (s : State) (grant fallback : Half) (period : Byte) :
    (State.takeSetGrant s grant fallback period).2.attn = s.attn := by simp [State.takeSetGrant]
@[simp] theorem State.takeSetGrant_orders (s : State) (grant fallback : Half) (period : Byte) :
    (State.takeSetGrant s grant fallback period).2.orders = s.orders := by simp [State.takeSetGrant]
@[simp] theorem State.takeSetGrant_metering (s : State) (grant fallback : Half) (period : Byte) :
    (State.takeSetGrant s grant fallback period).2.metering = s.metering := by simp [State.takeSetGrant]
@[simp] theorem State.takeSetGrant_billing (s : State) (grant fallback : Half) (period : Byte) :
    (State.takeSetGrant s grant fallback period).2.billing = s.billing := by simp [State.takeSetGrant]
@[simp] theorem State.takeSetGrant_heating (s : State) (grant fallback : Half) (period : Byte) :
    (State.takeSetGrant s grant fallback period).2.heating = s.heating := by simp [State.takeSetGrant]
@[simp] theorem State.takeSetGrant_trips (s : State) (grant fallback : Half) (period : Byte) :
    (State.takeSetGrant s grant fallback period).2.trips = s.trips := by simp [State.takeSetGrant]
@[simp] theorem State.takeSetGrant_statusSeq (s : State) (grant fallback : Half) (period : Byte) :
    (State.takeSetGrant s grant fallback period).2.statusSeq = s.statusSeq := by simp [State.takeSetGrant]
@[simp] theorem State.takeSetGrant_pending (s : State) (grant fallback : Half) (period : Byte) :
    (State.takeSetGrant s grant fallback period).2.pending = s.pending := by simp [State.takeSetGrant]

@[simp] theorem State.applyStage_mem (s : State) (g : Stage) :
    (State.applyStage s g).mem = s.mem := by
  unfold State.applyStage
  split <;> simp
@[simp] theorem State.applyStage_pins (s : State) (g : Stage) :
    (State.applyStage s g).pins = s.pins := by
  unfold State.applyStage
  split <;> simp
@[simp] theorem State.applyStage_link (s : State) (g : Stage) :
    (State.applyStage s g).link = s.link := by
  unfold State.applyStage
  split <;> simp
@[simp] theorem State.applyStage_attn (s : State) (g : Stage) :
    (State.applyStage s g).attn = s.attn := by
  unfold State.applyStage
  split <;> simp
@[simp] theorem State.applyStage_orders (s : State) (g : Stage) :
    (State.applyStage s g).orders = s.orders := by
  unfold State.applyStage
  split <;> simp
@[simp] theorem State.applyStage_metering (s : State) (g : Stage) :
    (State.applyStage s g).metering = s.metering := by
  unfold State.applyStage
  split <;> simp
@[simp] theorem State.applyStage_billing (s : State) (g : Stage) :
    (State.applyStage s g).billing = s.billing := by
  unfold State.applyStage
  split <;> simp
@[simp] theorem State.applyStage_heating (s : State) (g : Stage) :
    (State.applyStage s g).heating = s.heating := by
  unfold State.applyStage
  split <;> simp
@[simp] theorem State.applyStage_relay (s : State) (g : Stage) :
    (State.applyStage s g).relay = s.relay := by
  unfold State.applyStage
  split <;> simp
@[simp] theorem State.applyStage_trips (s : State) (g : Stage) :
    (State.applyStage s g).trips = s.trips := by
  unfold State.applyStage
  split <;> simp
@[simp] theorem State.applyStage_statusSeq (s : State) (g : Stage) :
    (State.applyStage s g).statusSeq = s.statusSeq := by
  unfold State.applyStage
  split <;> simp
@[simp] theorem State.applyStage_pending (s : State) (g : Stage) :
    (State.applyStage s g).pending = s.pending := by
  unfold State.applyStage
  split <;> simp

@[simp] theorem State.takeSetPowerStage_mem (s : State) (eta stageMax : Half) (sUp : Byte) (rH heaterMax : Half) :
    (State.takeSetPowerStage s eta stageMax sUp rH heaterMax).2.mem = s.mem := by simp [State.takeSetPowerStage]
@[simp] theorem State.takeSetPowerStage_pins (s : State) (eta stageMax : Half) (sUp : Byte) (rH heaterMax : Half) :
    (State.takeSetPowerStage s eta stageMax sUp rH heaterMax).2.pins = s.pins := by simp [State.takeSetPowerStage]
@[simp] theorem State.takeSetPowerStage_link (s : State) (eta stageMax : Half) (sUp : Byte) (rH heaterMax : Half) :
    (State.takeSetPowerStage s eta stageMax sUp rH heaterMax).2.link = s.link := by simp [State.takeSetPowerStage]
@[simp] theorem State.takeSetPowerStage_attn (s : State) (eta stageMax : Half) (sUp : Byte) (rH heaterMax : Half) :
    (State.takeSetPowerStage s eta stageMax sUp rH heaterMax).2.attn = s.attn := by simp [State.takeSetPowerStage]
@[simp] theorem State.takeSetPowerStage_orders (s : State) (eta stageMax : Half) (sUp : Byte) (rH heaterMax : Half) :
    (State.takeSetPowerStage s eta stageMax sUp rH heaterMax).2.orders = s.orders := by simp [State.takeSetPowerStage]
@[simp] theorem State.takeSetPowerStage_metering (s : State) (eta stageMax : Half) (sUp : Byte) (rH heaterMax : Half) :
    (State.takeSetPowerStage s eta stageMax sUp rH heaterMax).2.metering = s.metering := by simp [State.takeSetPowerStage]
@[simp] theorem State.takeSetPowerStage_billing (s : State) (eta stageMax : Half) (sUp : Byte) (rH heaterMax : Half) :
    (State.takeSetPowerStage s eta stageMax sUp rH heaterMax).2.billing = s.billing := by simp [State.takeSetPowerStage]
@[simp] theorem State.takeSetPowerStage_heating (s : State) (eta stageMax : Half) (sUp : Byte) (rH heaterMax : Half) :
    (State.takeSetPowerStage s eta stageMax sUp rH heaterMax).2.heating = s.heating := by simp [State.takeSetPowerStage]
@[simp] theorem State.takeSetPowerStage_relay (s : State) (eta stageMax : Half) (sUp : Byte) (rH heaterMax : Half) :
    (State.takeSetPowerStage s eta stageMax sUp rH heaterMax).2.relay = s.relay := by simp [State.takeSetPowerStage]
@[simp] theorem State.takeSetPowerStage_trips (s : State) (eta stageMax : Half) (sUp : Byte) (rH heaterMax : Half) :
    (State.takeSetPowerStage s eta stageMax sUp rH heaterMax).2.trips = s.trips := by simp [State.takeSetPowerStage]
@[simp] theorem State.takeSetPowerStage_statusSeq (s : State) (eta stageMax : Half) (sUp : Byte) (rH heaterMax : Half) :
    (State.takeSetPowerStage s eta stageMax sUp rH heaterMax).2.statusSeq = s.statusSeq := by simp [State.takeSetPowerStage]
@[simp] theorem State.takeSetPowerStage_pending (s : State) (eta stageMax : Half) (sUp : Byte) (rH heaterMax : Half) :
    (State.takeSetPowerStage s eta stageMax sUp rH heaterMax).2.pending = s.pending := by simp [State.takeSetPowerStage]

@[simp] theorem State.takeCharge_pins (s : State) (slot : SlotNo) (maxCurrent vLim endCurrent : Half) :
    (State.takeCharge s slot maxCurrent vLim endCurrent).pins = s.pins := by
  simp only [State.takeCharge]
  repeat' split
  all_goals simp
@[simp] theorem State.takeCharge_link (s : State) (slot : SlotNo) (maxCurrent vLim endCurrent : Half) :
    (State.takeCharge s slot maxCurrent vLim endCurrent).link = s.link := by
  simp only [State.takeCharge]
  repeat' split
  all_goals simp
@[simp] theorem State.takeCharge_metering (s : State) (slot : SlotNo) (maxCurrent vLim endCurrent : Half) :
    (State.takeCharge s slot maxCurrent vLim endCurrent).metering = s.metering := by
  simp only [State.takeCharge]
  repeat' split
  all_goals simp
@[simp] theorem State.takeCharge_billing (s : State) (slot : SlotNo) (maxCurrent vLim endCurrent : Half) :
    (State.takeCharge s slot maxCurrent vLim endCurrent).billing = s.billing := by
  simp only [State.takeCharge]
  repeat' split
  all_goals simp
@[simp] theorem State.takeCharge_heating (s : State) (slot : SlotNo) (maxCurrent vLim endCurrent : Half) :
    (State.takeCharge s slot maxCurrent vLim endCurrent).heating = s.heating := by
  simp only [State.takeCharge]
  repeat' split
  all_goals simp
@[simp] theorem State.takeCharge_insulation (s : State) (slot : SlotNo) (maxCurrent vLim endCurrent : Half) :
    (State.takeCharge s slot maxCurrent vLim endCurrent).insulation = s.insulation := by
  simp only [State.takeCharge]
  repeat' split
  all_goals simp
@[simp] theorem State.takeCharge_relay (s : State) (slot : SlotNo) (maxCurrent vLim endCurrent : Half) :
    (State.takeCharge s slot maxCurrent vLim endCurrent).relay = s.relay := by
  simp only [State.takeCharge]
  repeat' split
  all_goals simp
@[simp] theorem State.takeCharge_trips (s : State) (slot : SlotNo) (maxCurrent vLim endCurrent : Half) :
    (State.takeCharge s slot maxCurrent vLim endCurrent).trips = s.trips := by
  simp only [State.takeCharge]
  repeat' split
  all_goals simp
@[simp] theorem State.takeCharge_statusSeq (s : State) (slot : SlotNo) (maxCurrent vLim endCurrent : Half) :
    (State.takeCharge s slot maxCurrent vLim endCurrent).statusSeq = s.statusSeq := by
  simp only [State.takeCharge]
  repeat' split
  all_goals simp
@[simp] theorem State.takeCharge_pending (s : State) (slot : SlotNo) (maxCurrent vLim endCurrent : Half) :
    (State.takeCharge s slot maxCurrent vLim endCurrent).pending = s.pending := by
  simp only [State.takeCharge]
  repeat' split
  all_goals simp

@[simp] theorem State.periodNeed_mem (s : State) (need : Bool) :
    (State.periodNeed s need).mem = s.mem := by
  unfold State.periodNeed
  split <;> simp
@[simp] theorem State.periodNeed_pins (s : State) (need : Bool) :
    (State.periodNeed s need).pins = s.pins := by
  unfold State.periodNeed
  split <;> simp
@[simp] theorem State.periodNeed_link (s : State) (need : Bool) :
    (State.periodNeed s need).link = s.link := by
  unfold State.periodNeed
  split <;> simp
@[simp] theorem State.periodNeed_attn (s : State) (need : Bool) :
    (State.periodNeed s need).attn = s.attn := by
  unfold State.periodNeed
  split <;> simp
@[simp] theorem State.periodNeed_orders (s : State) (need : Bool) :
    (State.periodNeed s need).orders = s.orders := by
  unfold State.periodNeed
  split <;> simp
@[simp] theorem State.periodNeed_metering (s : State) (need : Bool) :
    (State.periodNeed s need).metering = s.metering := by
  unfold State.periodNeed
  split <;> simp
@[simp] theorem State.periodNeed_billing (s : State) (need : Bool) :
    (State.periodNeed s need).billing = s.billing := by
  unfold State.periodNeed
  split <;> simp
@[simp] theorem State.periodNeed_heating (s : State) (need : Bool) :
    (State.periodNeed s need).heating = s.heating := by
  unfold State.periodNeed
  split <;> simp
@[simp] theorem State.periodNeed_insulation (s : State) (need : Bool) :
    (State.periodNeed s need).insulation = s.insulation := by
  unfold State.periodNeed
  split <;> simp
@[simp] theorem State.periodNeed_trips (s : State) (need : Bool) :
    (State.periodNeed s need).trips = s.trips := by
  unfold State.periodNeed
  split <;> simp
@[simp] theorem State.periodNeed_statusSeq (s : State) (need : Bool) :
    (State.periodNeed s need).statusSeq = s.statusSeq := by
  unfold State.periodNeed
  split <;> simp
@[simp] theorem State.periodNeed_pending (s : State) (need : Bool) :
    (State.periodNeed s need).pending = s.pending := by
  unfold State.periodNeed
  split <;> simp

@[simp] theorem State.reportHeaterPower_mem (s : State) (power : Nat) :
    (State.reportHeaterPower s power).mem = s.mem := by simp [State.reportHeaterPower]
@[simp] theorem State.reportHeaterPower_pins (s : State) (power : Nat) :
    (State.reportHeaterPower s power).pins = s.pins := by simp [State.reportHeaterPower]
@[simp] theorem State.reportHeaterPower_link (s : State) (power : Nat) :
    (State.reportHeaterPower s power).link = s.link := by simp [State.reportHeaterPower]
@[simp] theorem State.reportHeaterPower_attn (s : State) (power : Nat) :
    (State.reportHeaterPower s power).attn = s.attn := by simp [State.reportHeaterPower]
@[simp] theorem State.reportHeaterPower_orders (s : State) (power : Nat) :
    (State.reportHeaterPower s power).orders = s.orders := by simp [State.reportHeaterPower]
@[simp] theorem State.reportHeaterPower_metering (s : State) (power : Nat) :
    (State.reportHeaterPower s power).metering = s.metering := by simp [State.reportHeaterPower]
@[simp] theorem State.reportHeaterPower_billing (s : State) (power : Nat) :
    (State.reportHeaterPower s power).billing = s.billing := by simp [State.reportHeaterPower]
@[simp] theorem State.reportHeaterPower_power (s : State) (power : Nat) :
    (State.reportHeaterPower s power).power = s.power := by simp [State.reportHeaterPower]
@[simp] theorem State.reportHeaterPower_insulation (s : State) (power : Nat) :
    (State.reportHeaterPower s power).insulation = s.insulation := by simp [State.reportHeaterPower]
@[simp] theorem State.reportHeaterPower_relay (s : State) (power : Nat) :
    (State.reportHeaterPower s power).relay = s.relay := by simp [State.reportHeaterPower]
@[simp] theorem State.reportHeaterPower_trips (s : State) (power : Nat) :
    (State.reportHeaterPower s power).trips = s.trips := by simp [State.reportHeaterPower]
@[simp] theorem State.reportHeaterPower_statusSeq (s : State) (power : Nat) :
    (State.reportHeaterPower s power).statusSeq = s.statusSeq := by simp [State.reportHeaterPower]
@[simp] theorem State.reportHeaterPower_pending (s : State) (power : Nat) :
    (State.reportHeaterPower s power).pending = s.pending := by simp [State.reportHeaterPower]

@[simp] theorem State.drivePeriod_mem (s : State) (i : PeriodInputs) (sh : Shares) (iTgt : Nat) :
    (State.drivePeriod s i sh iTgt).mem = s.mem := by simp [State.drivePeriod]
@[simp] theorem State.drivePeriod_pins (s : State) (i : PeriodInputs) (sh : Shares) (iTgt : Nat) :
    (State.drivePeriod s i sh iTgt).pins = s.pins := by simp [State.drivePeriod]
@[simp] theorem State.drivePeriod_link (s : State) (i : PeriodInputs) (sh : Shares) (iTgt : Nat) :
    (State.drivePeriod s i sh iTgt).link = s.link := by simp [State.drivePeriod]
@[simp] theorem State.drivePeriod_attn (s : State) (i : PeriodInputs) (sh : Shares) (iTgt : Nat) :
    (State.drivePeriod s i sh iTgt).attn = s.attn := by simp [State.drivePeriod]
@[simp] theorem State.drivePeriod_orders (s : State) (i : PeriodInputs) (sh : Shares) (iTgt : Nat) :
    (State.drivePeriod s i sh iTgt).orders = s.orders := by simp [State.drivePeriod]
@[simp] theorem State.drivePeriod_metering (s : State) (i : PeriodInputs) (sh : Shares) (iTgt : Nat) :
    (State.drivePeriod s i sh iTgt).metering = s.metering := by simp [State.drivePeriod]
@[simp] theorem State.drivePeriod_billing (s : State) (i : PeriodInputs) (sh : Shares) (iTgt : Nat) :
    (State.drivePeriod s i sh iTgt).billing = s.billing := by simp [State.drivePeriod]
@[simp] theorem State.drivePeriod_trips (s : State) (i : PeriodInputs) (sh : Shares) (iTgt : Nat) :
    (State.drivePeriod s i sh iTgt).trips = s.trips := by simp [State.drivePeriod]
@[simp] theorem State.drivePeriod_statusSeq (s : State) (i : PeriodInputs) (sh : Shares) (iTgt : Nat) :
    (State.drivePeriod s i sh iTgt).statusSeq = s.statusSeq := by simp [State.drivePeriod]
@[simp] theorem State.drivePeriod_pending (s : State) (i : PeriodInputs) (sh : Shares) (iTgt : Nat) :
    (State.drivePeriod s i sh iTgt).pending = s.pending := by simp [State.drivePeriod]

@[simp] theorem State.periodReports_pins (s : State) (full overvoltage : Bool) :
    (State.periodReports s full overvoltage).pins = s.pins := by
  unfold State.periodReports
  split <;> simp
@[simp] theorem State.periodReports_link (s : State) (full overvoltage : Bool) :
    (State.periodReports s full overvoltage).link = s.link := by
  unfold State.periodReports
  split <;> simp
@[simp] theorem State.periodReports_metering (s : State) (full overvoltage : Bool) :
    (State.periodReports s full overvoltage).metering = s.metering := by
  unfold State.periodReports
  split <;> simp
@[simp] theorem State.periodReports_statusSeq (s : State) (full overvoltage : Bool) :
    (State.periodReports s full overvoltage).statusSeq = s.statusSeq := by
  unfold State.periodReports
  split <;> simp
@[simp] theorem State.periodReports_pending (s : State) (full overvoltage : Bool) :
    (State.periodReports s full overvoltage).pending = s.pending := by
  unfold State.periodReports
  split <;> simp

/-! ## Machine/Insulation.lean -/

@[simp] theorem State.beginHalf_mem (s : State) (positive : Bool) :
    (State.beginHalf s positive).mem = s.mem := by simp [State.beginHalf]
@[simp] theorem State.beginHalf_pins (s : State) (positive : Bool) :
    (State.beginHalf s positive).pins = s.pins := by simp [State.beginHalf]
@[simp] theorem State.beginHalf_link (s : State) (positive : Bool) :
    (State.beginHalf s positive).link = s.link := by simp [State.beginHalf]
@[simp] theorem State.beginHalf_attn (s : State) (positive : Bool) :
    (State.beginHalf s positive).attn = s.attn := by simp [State.beginHalf]
@[simp] theorem State.beginHalf_orders (s : State) (positive : Bool) :
    (State.beginHalf s positive).orders = s.orders := by simp [State.beginHalf]
@[simp] theorem State.beginHalf_metering (s : State) (positive : Bool) :
    (State.beginHalf s positive).metering = s.metering := by simp [State.beginHalf]
@[simp] theorem State.beginHalf_billing (s : State) (positive : Bool) :
    (State.beginHalf s positive).billing = s.billing := by simp [State.beginHalf]
@[simp] theorem State.beginHalf_power (s : State) (positive : Bool) :
    (State.beginHalf s positive).power = s.power := by simp [State.beginHalf]
@[simp] theorem State.beginHalf_heating (s : State) (positive : Bool) :
    (State.beginHalf s positive).heating = s.heating := by simp [State.beginHalf]
@[simp] theorem State.beginHalf_relay (s : State) (positive : Bool) :
    (State.beginHalf s positive).relay = s.relay := by simp [State.beginHalf]
@[simp] theorem State.beginHalf_trips (s : State) (positive : Bool) :
    (State.beginHalf s positive).trips = s.trips := by simp [State.beginHalf]
@[simp] theorem State.beginHalf_statusSeq (s : State) (positive : Bool) :
    (State.beginHalf s positive).statusSeq = s.statusSeq := by simp [State.beginHalf]
@[simp] theorem State.beginHalf_pending (s : State) (positive : Bool) :
    (State.beginHalf s positive).pending = s.pending := by simp [State.beginHalf]

@[simp] theorem State.enterWarmup_mem (s : State) :
    (State.enterWarmup s).mem = s.mem := by simp [State.enterWarmup]
@[simp] theorem State.enterWarmup_pins (s : State) :
    (State.enterWarmup s).pins = s.pins := by simp [State.enterWarmup]
@[simp] theorem State.enterWarmup_link (s : State) :
    (State.enterWarmup s).link = s.link := by simp [State.enterWarmup]
@[simp] theorem State.enterWarmup_attn (s : State) :
    (State.enterWarmup s).attn = s.attn := by simp [State.enterWarmup]
@[simp] theorem State.enterWarmup_orders (s : State) :
    (State.enterWarmup s).orders = s.orders := by simp [State.enterWarmup]
@[simp] theorem State.enterWarmup_metering (s : State) :
    (State.enterWarmup s).metering = s.metering := by simp [State.enterWarmup]
@[simp] theorem State.enterWarmup_billing (s : State) :
    (State.enterWarmup s).billing = s.billing := by simp [State.enterWarmup]
@[simp] theorem State.enterWarmup_power (s : State) :
    (State.enterWarmup s).power = s.power := by simp [State.enterWarmup]
@[simp] theorem State.enterWarmup_heating (s : State) :
    (State.enterWarmup s).heating = s.heating := by simp [State.enterWarmup]
@[simp] theorem State.enterWarmup_relay (s : State) :
    (State.enterWarmup s).relay = s.relay := by simp [State.enterWarmup]
@[simp] theorem State.enterWarmup_trips (s : State) :
    (State.enterWarmup s).trips = s.trips := by simp [State.enterWarmup]
@[simp] theorem State.enterWarmup_statusSeq (s : State) :
    (State.enterWarmup s).statusSeq = s.statusSeq := by simp [State.enterWarmup]
@[simp] theorem State.enterWarmup_pending (s : State) :
    (State.enterWarmup s).pending = s.pending := by simp [State.enterWarmup]

@[simp] theorem State.reportWarn_mem (s : State) (before after : Condition) :
    (State.reportWarn s before after).mem = s.mem := by
  simp only [State.reportWarn]
  repeat' split
  all_goals simp
@[simp] theorem State.reportWarn_pins (s : State) (before after : Condition) :
    (State.reportWarn s before after).pins = s.pins := by
  simp only [State.reportWarn]
  repeat' split
  all_goals simp
@[simp] theorem State.reportWarn_link (s : State) (before after : Condition) :
    (State.reportWarn s before after).link = s.link := by
  simp only [State.reportWarn]
  repeat' split
  all_goals simp
@[simp] theorem State.reportWarn_orders (s : State) (before after : Condition) :
    (State.reportWarn s before after).orders = s.orders := by
  simp only [State.reportWarn]
  repeat' split
  all_goals simp
@[simp] theorem State.reportWarn_metering (s : State) (before after : Condition) :
    (State.reportWarn s before after).metering = s.metering := by
  simp only [State.reportWarn]
  repeat' split
  all_goals simp
@[simp] theorem State.reportWarn_billing (s : State) (before after : Condition) :
    (State.reportWarn s before after).billing = s.billing := by
  simp only [State.reportWarn]
  repeat' split
  all_goals simp
@[simp] theorem State.reportWarn_power (s : State) (before after : Condition) :
    (State.reportWarn s before after).power = s.power := by
  simp only [State.reportWarn]
  repeat' split
  all_goals simp
@[simp] theorem State.reportWarn_heating (s : State) (before after : Condition) :
    (State.reportWarn s before after).heating = s.heating := by
  simp only [State.reportWarn]
  repeat' split
  all_goals simp
@[simp] theorem State.reportWarn_insulation (s : State) (before after : Condition) :
    (State.reportWarn s before after).insulation = s.insulation := by
  simp only [State.reportWarn]
  repeat' split
  all_goals simp
@[simp] theorem State.reportWarn_relay (s : State) (before after : Condition) :
    (State.reportWarn s before after).relay = s.relay := by
  simp only [State.reportWarn]
  repeat' split
  all_goals simp
@[simp] theorem State.reportWarn_trips (s : State) (before after : Condition) :
    (State.reportWarn s before after).trips = s.trips := by
  simp only [State.reportWarn]
  repeat' split
  all_goals simp
@[simp] theorem State.reportWarn_statusSeq (s : State) (before after : Condition) :
    (State.reportWarn s before after).statusSeq = s.statusSeq := by
  simp only [State.reportWarn]
  repeat' split
  all_goals simp
@[simp] theorem State.reportWarn_pending (s : State) (before after : Condition) :
    (State.reportWarn s before after).pending = s.pending := by
  simp only [State.reportWarn]
  repeat' split
  all_goals simp

@[simp] theorem State.endCheck_pins (s : State) (e : Ending) :
    (State.endCheck s e).pins = s.pins := by
  unfold State.endCheck
  split <;> simp
@[simp] theorem State.endCheck_link (s : State) (e : Ending) :
    (State.endCheck s e).link = s.link := by
  unfold State.endCheck
  split <;> simp
@[simp] theorem State.endCheck_metering (s : State) (e : Ending) :
    (State.endCheck s e).metering = s.metering := by
  unfold State.endCheck
  split <;> simp
@[simp] theorem State.endCheck_billing (s : State) (e : Ending) :
    (State.endCheck s e).billing = s.billing := by
  unfold State.endCheck
  split <;> simp
@[simp] theorem State.endCheck_power (s : State) (e : Ending) :
    (State.endCheck s e).power = s.power := by
  unfold State.endCheck
  split <;> simp
@[simp] theorem State.endCheck_heating (s : State) (e : Ending) :
    (State.endCheck s e).heating = s.heating := by
  unfold State.endCheck
  split <;> simp
@[simp] theorem State.endCheck_relay (s : State) (e : Ending) :
    (State.endCheck s e).relay = s.relay := by
  unfold State.endCheck
  split <;> simp
@[simp] theorem State.endCheck_trips (s : State) (e : Ending) :
    (State.endCheck s e).trips = s.trips := by
  unfold State.endCheck
  split <;> simp
@[simp] theorem State.endCheck_statusSeq (s : State) (e : Ending) :
    (State.endCheck s e).statusSeq = s.statusSeq := by
  unfold State.endCheck
  split <;> simp
@[simp] theorem State.endCheck_pending (s : State) (e : Ending) :
    (State.endCheck s e).pending = s.pending := by
  unfold State.endCheck
  split <;> simp

@[simp] theorem State.enterIdle_pins (s : State) :
    (State.enterIdle s).pins = s.pins := by simp [State.enterIdle]
@[simp] theorem State.enterIdle_link (s : State) :
    (State.enterIdle s).link = s.link := by simp [State.enterIdle]
@[simp] theorem State.enterIdle_metering (s : State) :
    (State.enterIdle s).metering = s.metering := by simp [State.enterIdle]
@[simp] theorem State.enterIdle_billing (s : State) :
    (State.enterIdle s).billing = s.billing := by simp [State.enterIdle]
@[simp] theorem State.enterIdle_heating (s : State) :
    (State.enterIdle s).heating = s.heating := by simp [State.enterIdle]
@[simp] theorem State.enterIdle_trips (s : State) :
    (State.enterIdle s).trips = s.trips := by simp [State.enterIdle]
@[simp] theorem State.enterIdle_statusSeq (s : State) :
    (State.enterIdle s).statusSeq = s.statusSeq := by simp [State.enterIdle]
@[simp] theorem State.enterIdle_pending (s : State) :
    (State.enterIdle s).pending = s.pending := by simp [State.enterIdle]

@[simp] theorem State.reportFault_pins (s : State) (before after : Condition) :
    (State.reportFault s before after).pins = s.pins := by simp [State.reportFault]
@[simp] theorem State.reportFault_link (s : State) (before after : Condition) :
    (State.reportFault s before after).link = s.link := by simp [State.reportFault]
@[simp] theorem State.reportFault_metering (s : State) (before after : Condition) :
    (State.reportFault s before after).metering = s.metering := by simp [State.reportFault]
@[simp] theorem State.reportFault_statusSeq (s : State) (before after : Condition) :
    (State.reportFault s before after).statusSeq = s.statusSeq := by simp [State.reportFault]
@[simp] theorem State.reportFault_pending (s : State) (before after : Condition) :
    (State.reportFault s before after).pending = s.pending := by simp [State.reportFault]

@[simp] theorem State.validResult_pins (s : State) (stretch : Nat) (delta : Int) :
    (State.validResult s stretch delta).pins = s.pins := by simp [State.validResult]
@[simp] theorem State.validResult_link (s : State) (stretch : Nat) (delta : Int) :
    (State.validResult s stretch delta).link = s.link := by simp [State.validResult]
@[simp] theorem State.validResult_metering (s : State) (stretch : Nat) (delta : Int) :
    (State.validResult s stretch delta).metering = s.metering := by simp [State.validResult]
@[simp] theorem State.validResult_statusSeq (s : State) (stretch : Nat) (delta : Int) :
    (State.validResult s stretch delta).statusSeq = s.statusSeq := by simp [State.validResult]
@[simp] theorem State.validResult_pending (s : State) (stretch : Nat) (delta : Int) :
    (State.validResult s stretch delta).pending = s.pending := by simp [State.validResult]

@[simp] theorem State.invalidHalf_mem (s : State) (h : HalfPeriod) :
    (State.invalidHalf s h).mem = s.mem := by simp [State.invalidHalf]
@[simp] theorem State.invalidHalf_pins (s : State) (h : HalfPeriod) :
    (State.invalidHalf s h).pins = s.pins := by simp [State.invalidHalf]
@[simp] theorem State.invalidHalf_link (s : State) (h : HalfPeriod) :
    (State.invalidHalf s h).link = s.link := by simp [State.invalidHalf]
@[simp] theorem State.invalidHalf_attn (s : State) (h : HalfPeriod) :
    (State.invalidHalf s h).attn = s.attn := by simp [State.invalidHalf]
@[simp] theorem State.invalidHalf_orders (s : State) (h : HalfPeriod) :
    (State.invalidHalf s h).orders = s.orders := by simp [State.invalidHalf]
@[simp] theorem State.invalidHalf_metering (s : State) (h : HalfPeriod) :
    (State.invalidHalf s h).metering = s.metering := by simp [State.invalidHalf]
@[simp] theorem State.invalidHalf_billing (s : State) (h : HalfPeriod) :
    (State.invalidHalf s h).billing = s.billing := by simp [State.invalidHalf]
@[simp] theorem State.invalidHalf_power (s : State) (h : HalfPeriod) :
    (State.invalidHalf s h).power = s.power := by simp [State.invalidHalf]
@[simp] theorem State.invalidHalf_heating (s : State) (h : HalfPeriod) :
    (State.invalidHalf s h).heating = s.heating := by simp [State.invalidHalf]
@[simp] theorem State.invalidHalf_relay (s : State) (h : HalfPeriod) :
    (State.invalidHalf s h).relay = s.relay := by simp [State.invalidHalf]
@[simp] theorem State.invalidHalf_trips (s : State) (h : HalfPeriod) :
    (State.invalidHalf s h).trips = s.trips := by simp [State.invalidHalf]
@[simp] theorem State.invalidHalf_statusSeq (s : State) (h : HalfPeriod) :
    (State.invalidHalf s h).statusSeq = s.statusSeq := by simp [State.invalidHalf]
@[simp] theorem State.invalidHalf_pending (s : State) (h : HalfPeriod) :
    (State.invalidHalf s h).pending = s.pending := by simp [State.invalidHalf]

@[simp] theorem State.validHalf_pins (s : State) (h : HalfPeriod) (u : Int) :
    (State.validHalf s h u).pins = s.pins := by
  simp only [State.validHalf]
  repeat' split
  all_goals simp
@[simp] theorem State.validHalf_link (s : State) (h : HalfPeriod) (u : Int) :
    (State.validHalf s h u).link = s.link := by
  simp only [State.validHalf]
  repeat' split
  all_goals simp
@[simp] theorem State.validHalf_metering (s : State) (h : HalfPeriod) (u : Int) :
    (State.validHalf s h u).metering = s.metering := by
  simp only [State.validHalf]
  repeat' split
  all_goals simp
@[simp] theorem State.validHalf_statusSeq (s : State) (h : HalfPeriod) (u : Int) :
    (State.validHalf s h u).statusSeq = s.statusSeq := by
  simp only [State.validHalf]
  repeat' split
  all_goals simp
@[simp] theorem State.validHalf_pending (s : State) (h : HalfPeriod) (u : Int) :
    (State.validHalf s h u).pending = s.pending := by
  simp only [State.validHalf]
  repeat' split
  all_goals simp

@[simp] theorem State.endHalf_pins (s : State) (u : Int) :
    (State.endHalf s u).pins = s.pins := by
  simp only [State.endHalf]
  repeat' split
  all_goals simp
@[simp] theorem State.endHalf_link (s : State) (u : Int) :
    (State.endHalf s u).link = s.link := by
  simp only [State.endHalf]
  repeat' split
  all_goals simp
@[simp] theorem State.endHalf_metering (s : State) (u : Int) :
    (State.endHalf s u).metering = s.metering := by
  simp only [State.endHalf]
  repeat' split
  all_goals simp
@[simp] theorem State.endHalf_statusSeq (s : State) (u : Int) :
    (State.endHalf s u).statusSeq = s.statusSeq := by
  simp only [State.endHalf]
  repeat' split
  all_goals simp
@[simp] theorem State.endHalf_pending (s : State) (u : Int) :
    (State.endHalf s u).pending = s.pending := by
  simp only [State.endHalf]
  repeat' split
  all_goals simp

@[simp] theorem State.takeCheck_pins (s : State) (slot : SlotNo) :
    (State.takeCheck s slot).pins = s.pins := by
  unfold State.takeCheck
  split <;> simp
@[simp] theorem State.takeCheck_link (s : State) (slot : SlotNo) :
    (State.takeCheck s slot).link = s.link := by
  unfold State.takeCheck
  split <;> simp
@[simp] theorem State.takeCheck_metering (s : State) (slot : SlotNo) :
    (State.takeCheck s slot).metering = s.metering := by
  unfold State.takeCheck
  split <;> simp
@[simp] theorem State.takeCheck_billing (s : State) (slot : SlotNo) :
    (State.takeCheck s slot).billing = s.billing := by
  unfold State.takeCheck
  split <;> simp
@[simp] theorem State.takeCheck_power (s : State) (slot : SlotNo) :
    (State.takeCheck s slot).power = s.power := by
  unfold State.takeCheck
  split <;> simp
@[simp] theorem State.takeCheck_heating (s : State) (slot : SlotNo) :
    (State.takeCheck s slot).heating = s.heating := by
  unfold State.takeCheck
  split <;> simp
@[simp] theorem State.takeCheck_relay (s : State) (slot : SlotNo) :
    (State.takeCheck s slot).relay = s.relay := by
  unfold State.takeCheck
  split <;> simp
@[simp] theorem State.takeCheck_trips (s : State) (slot : SlotNo) :
    (State.takeCheck s slot).trips = s.trips := by
  unfold State.takeCheck
  split <;> simp
@[simp] theorem State.takeCheck_statusSeq (s : State) (slot : SlotNo) :
    (State.takeCheck s slot).statusSeq = s.statusSeq := by
  unfold State.takeCheck
  split <;> simp
@[simp] theorem State.takeCheck_pending (s : State) (slot : SlotNo) :
    (State.takeCheck s slot).pending = s.pending := by
  unfold State.takeCheck
  split <;> simp

@[simp] theorem State.applyInsulation_mem (s : State) (g : InsSettings) :
    (State.applyInsulation s g).mem = s.mem := by
  unfold State.applyInsulation
  split <;> simp
@[simp] theorem State.applyInsulation_pins (s : State) (g : InsSettings) :
    (State.applyInsulation s g).pins = s.pins := by
  unfold State.applyInsulation
  split <;> simp
@[simp] theorem State.applyInsulation_link (s : State) (g : InsSettings) :
    (State.applyInsulation s g).link = s.link := by
  unfold State.applyInsulation
  split <;> simp
@[simp] theorem State.applyInsulation_attn (s : State) (g : InsSettings) :
    (State.applyInsulation s g).attn = s.attn := by
  unfold State.applyInsulation
  split <;> simp
@[simp] theorem State.applyInsulation_orders (s : State) (g : InsSettings) :
    (State.applyInsulation s g).orders = s.orders := by
  unfold State.applyInsulation
  split <;> simp
@[simp] theorem State.applyInsulation_metering (s : State) (g : InsSettings) :
    (State.applyInsulation s g).metering = s.metering := by
  unfold State.applyInsulation
  split <;> simp
@[simp] theorem State.applyInsulation_billing (s : State) (g : InsSettings) :
    (State.applyInsulation s g).billing = s.billing := by
  unfold State.applyInsulation
  split <;> simp
@[simp] theorem State.applyInsulation_heating (s : State) (g : InsSettings) :
    (State.applyInsulation s g).heating = s.heating := by
  unfold State.applyInsulation
  split <;> simp
@[simp] theorem State.applyInsulation_trips (s : State) (g : InsSettings) :
    (State.applyInsulation s g).trips = s.trips := by
  unfold State.applyInsulation
  split <;> simp
@[simp] theorem State.applyInsulation_statusSeq (s : State) (g : InsSettings) :
    (State.applyInsulation s g).statusSeq = s.statusSeq := by
  unfold State.applyInsulation
  split <;> simp
@[simp] theorem State.applyInsulation_pending (s : State) (g : InsSettings) :
    (State.applyInsulation s g).pending = s.pending := by
  unfold State.applyInsulation
  split <;> simp

@[simp] theorem State.takeSetInsulation_mem (s : State) (rM uInj warn fault : Half) (k window : Byte) :
    (State.takeSetInsulation s rM uInj warn fault k window).2.mem = s.mem := by
  simp only [State.takeSetInsulation]
  repeat' split
  all_goals simp
@[simp] theorem State.takeSetInsulation_pins (s : State) (rM uInj warn fault : Half) (k window : Byte) :
    (State.takeSetInsulation s rM uInj warn fault k window).2.pins = s.pins := by
  simp only [State.takeSetInsulation]
  repeat' split
  all_goals simp
@[simp] theorem State.takeSetInsulation_link (s : State) (rM uInj warn fault : Half) (k window : Byte) :
    (State.takeSetInsulation s rM uInj warn fault k window).2.link = s.link := by
  simp only [State.takeSetInsulation]
  repeat' split
  all_goals simp
@[simp] theorem State.takeSetInsulation_attn (s : State) (rM uInj warn fault : Half) (k window : Byte) :
    (State.takeSetInsulation s rM uInj warn fault k window).2.attn = s.attn := by
  simp only [State.takeSetInsulation]
  repeat' split
  all_goals simp
@[simp] theorem State.takeSetInsulation_orders (s : State) (rM uInj warn fault : Half) (k window : Byte) :
    (State.takeSetInsulation s rM uInj warn fault k window).2.orders = s.orders := by
  simp only [State.takeSetInsulation]
  repeat' split
  all_goals simp
@[simp] theorem State.takeSetInsulation_metering (s : State) (rM uInj warn fault : Half) (k window : Byte) :
    (State.takeSetInsulation s rM uInj warn fault k window).2.metering = s.metering := by
  simp only [State.takeSetInsulation]
  repeat' split
  all_goals simp
@[simp] theorem State.takeSetInsulation_billing (s : State) (rM uInj warn fault : Half) (k window : Byte) :
    (State.takeSetInsulation s rM uInj warn fault k window).2.billing = s.billing := by
  simp only [State.takeSetInsulation]
  repeat' split
  all_goals simp
@[simp] theorem State.takeSetInsulation_heating (s : State) (rM uInj warn fault : Half) (k window : Byte) :
    (State.takeSetInsulation s rM uInj warn fault k window).2.heating = s.heating := by
  simp only [State.takeSetInsulation]
  repeat' split
  all_goals simp
@[simp] theorem State.takeSetInsulation_trips (s : State) (rM uInj warn fault : Half) (k window : Byte) :
    (State.takeSetInsulation s rM uInj warn fault k window).2.trips = s.trips := by
  simp only [State.takeSetInsulation]
  repeat' split
  all_goals simp
@[simp] theorem State.takeSetInsulation_statusSeq (s : State) (rM uInj warn fault : Half) (k window : Byte) :
    (State.takeSetInsulation s rM uInj warn fault k window).2.statusSeq = s.statusSeq := by
  simp only [State.takeSetInsulation]
  repeat' split
  all_goals simp
@[simp] theorem State.takeSetInsulation_pending (s : State) (rM uInj warn fault : Half) (k window : Byte) :
    (State.takeSetInsulation s rM uInj warn fault k window).2.pending = s.pending := by
  simp only [State.takeSetInsulation]
  repeat' split
  all_goals simp

/-! ## Machine/Metering.lean -/

@[simp] theorem State.endCurrentWait_mem (s : State) :
    (State.endCurrentWait s).mem = s.mem := by
  unfold State.endCurrentWait
  split <;> simp
@[simp] theorem State.endCurrentWait_pins (s : State) :
    (State.endCurrentWait s).pins = s.pins := by
  unfold State.endCurrentWait
  split <;> simp
@[simp] theorem State.endCurrentWait_link (s : State) :
    (State.endCurrentWait s).link = s.link := by
  unfold State.endCurrentWait
  split <;> simp
@[simp] theorem State.endCurrentWait_attn (s : State) :
    (State.endCurrentWait s).attn = s.attn := by
  unfold State.endCurrentWait
  split <;> simp
@[simp] theorem State.endCurrentWait_orders (s : State) :
    (State.endCurrentWait s).orders = s.orders := by
  unfold State.endCurrentWait
  split <;> simp
@[simp] theorem State.endCurrentWait_metering (s : State) :
    (State.endCurrentWait s).metering = s.metering := by
  unfold State.endCurrentWait
  split <;> simp
@[simp] theorem State.endCurrentWait_power (s : State) :
    (State.endCurrentWait s).power = s.power := by
  unfold State.endCurrentWait
  split <;> simp
@[simp] theorem State.endCurrentWait_heating (s : State) :
    (State.endCurrentWait s).heating = s.heating := by
  unfold State.endCurrentWait
  split <;> simp
@[simp] theorem State.endCurrentWait_insulation (s : State) :
    (State.endCurrentWait s).insulation = s.insulation := by
  unfold State.endCurrentWait
  split <;> simp
@[simp] theorem State.endCurrentWait_trips (s : State) :
    (State.endCurrentWait s).trips = s.trips := by
  unfold State.endCurrentWait
  split <;> simp
@[simp] theorem State.endCurrentWait_statusSeq (s : State) :
    (State.endCurrentWait s).statusSeq = s.statusSeq := by
  unfold State.endCurrentWait
  split <;> simp
@[simp] theorem State.endCurrentWait_pending (s : State) :
    (State.endCurrentWait s).pending = s.pending := by
  unfold State.endCurrentWait
  split <;> simp

/-! ## Machine/Orders.lean -/

@[simp] theorem State.answer_pins (n : SlotNo) (r : Ending × State) :
    (State.answer n r).pins = r.2.pins := by
  simp [State.answer]
@[simp] theorem State.answer_link (n : SlotNo) (r : Ending × State) :
    (State.answer n r).link = r.2.link := by
  simp [State.answer]
@[simp] theorem State.answer_metering (n : SlotNo) (r : Ending × State) :
    (State.answer n r).metering = r.2.metering := by
  simp [State.answer]
@[simp] theorem State.answer_billing (n : SlotNo) (r : Ending × State) :
    (State.answer n r).billing = r.2.billing := by
  simp [State.answer]
@[simp] theorem State.answer_power (n : SlotNo) (r : Ending × State) :
    (State.answer n r).power = r.2.power := by
  simp [State.answer]
@[simp] theorem State.answer_heating (n : SlotNo) (r : Ending × State) :
    (State.answer n r).heating = r.2.heating := by
  simp [State.answer]
@[simp] theorem State.answer_insulation (n : SlotNo) (r : Ending × State) :
    (State.answer n r).insulation = r.2.insulation := by
  simp [State.answer]
@[simp] theorem State.answer_relay (n : SlotNo) (r : Ending × State) :
    (State.answer n r).relay = r.2.relay := by
  simp [State.answer]
@[simp] theorem State.answer_trips (n : SlotNo) (r : Ending × State) :
    (State.answer n r).trips = r.2.trips := by
  simp [State.answer]
@[simp] theorem State.answer_statusSeq (n : SlotNo) (r : Ending × State) :
    (State.answer n r).statusSeq = r.2.statusSeq := by
  simp [State.answer]
@[simp] theorem State.answer_pending (n : SlotNo) (r : Ending × State) :
    (State.answer n r).pending = r.2.pending := by
  simp [State.answer]
@[simp] theorem State.takeOwned_pins (s : State) (n : SlotNo) (o : Order) :
    (State.takeOwned s n o).pins = s.pins := by
  cases o <;> simp [State.takeOwned]
@[simp] theorem State.takeOwned_link (s : State) (n : SlotNo) (o : Order) :
    (State.takeOwned s n o).link = s.link := by
  cases o <;> simp [State.takeOwned]
@[simp] theorem State.takeOwned_statusSeq (s : State) (n : SlotNo) (o : Order) :
    (State.takeOwned s n o).statusSeq = s.statusSeq := by
  cases o <;> simp [State.takeOwned]
@[simp] theorem State.takeOwned_pending (s : State) (n : SlotNo) (o : Order) :
    (State.takeOwned s n o).pending = s.pending := by
  cases o <;> simp [State.takeOwned]
@[simp] theorem State.takeHead_pins (s : State) (b : Block) (n : SlotNo) (rest : List SlotNo) :
    (State.takeHead s b n rest).pins = s.pins := by
  unfold State.takeHead
  split <;> simp
@[simp] theorem State.takeHead_link (s : State) (b : Block) (n : SlotNo) (rest : List SlotNo) :
    (State.takeHead s b n rest).link = s.link := by
  unfold State.takeHead
  split <;> simp
@[simp] theorem State.takeHead_statusSeq (s : State) (b : Block) (n : SlotNo) (rest : List SlotNo) :
    (State.takeHead s b n rest).statusSeq = s.statusSeq := by
  unfold State.takeHead
  split <;> simp
@[simp] theorem State.takeHead_pending (s : State) (b : Block) (n : SlotNo) (rest : List SlotNo) :
    (State.takeHead s b n rest).pending = s.pending := by
  unfold State.takeHead
  split <;> simp

@[simp] theorem State.drainUpTo_pins (b : Block) (fuel : Nat) (s : State) :
    (State.drainUpTo b fuel s).pins = s.pins := by
  induction fuel generalizing s with
  | zero => rfl
  | succ n ih =>
    simp only [State.drainUpTo]
    repeat' split
    all_goals simp [ih]
@[simp] theorem State.drainUpTo_link (b : Block) (fuel : Nat) (s : State) :
    (State.drainUpTo b fuel s).link = s.link := by
  induction fuel generalizing s with
  | zero => rfl
  | succ n ih =>
    simp only [State.drainUpTo]
    repeat' split
    all_goals simp [ih]
@[simp] theorem State.drainUpTo_statusSeq (b : Block) (fuel : Nat) (s : State) :
    (State.drainUpTo b fuel s).statusSeq = s.statusSeq := by
  induction fuel generalizing s with
  | zero => rfl
  | succ n ih =>
    simp only [State.drainUpTo]
    repeat' split
    all_goals simp [ih]
@[simp] theorem State.drainUpTo_pending (b : Block) (fuel : Nat) (s : State) :
    (State.drainUpTo b fuel s).pending = s.pending := by
  induction fuel generalizing s with
  | zero => rfl
  | succ n ih =>
    simp only [State.drainUpTo]
    repeat' split
    all_goals simp [ih]
@[simp] theorem State.drain_pins (s : State) (b : Block) :
    (State.drain s b).pins = s.pins := by simp [State.drain]
@[simp] theorem State.drain_link (s : State) (b : Block) :
    (State.drain s b).link = s.link := by simp [State.drain]
@[simp] theorem State.drain_statusSeq (s : State) (b : Block) :
    (State.drain s b).statusSeq = s.statusSeq := by simp [State.drain]
@[simp] theorem State.drain_pending (s : State) (b : Block) :
    (State.drain s b).pending = s.pending := by simp [State.drain]

@[simp] theorem State.afterClose_pins (s : State) (before : Billing) :
    (State.afterClose s before).pins = s.pins := by
  unfold State.afterClose
  split <;> simp
@[simp] theorem State.afterClose_link (s : State) (before : Billing) :
    (State.afterClose s before).link = s.link := by
  unfold State.afterClose
  split <;> simp
@[simp] theorem State.afterClose_statusSeq (s : State) (before : Billing) :
    (State.afterClose s before).statusSeq = s.statusSeq := by
  unfold State.afterClose
  split <;> simp
@[simp] theorem State.afterClose_pending (s : State) (before : Billing) :
    (State.afterClose s before).pending = s.pending := by
  unfold State.afterClose
  split <;> simp

@[simp] theorem State.afterCheck_pins (s : State) (before : Insulation) :
    (State.afterCheck s before).pins = s.pins := by
  unfold State.afterCheck
  split <;> simp
@[simp] theorem State.afterCheck_link (s : State) (before : Insulation) :
    (State.afterCheck s before).link = s.link := by
  unfold State.afterCheck
  split <;> simp
@[simp] theorem State.afterCheck_statusSeq (s : State) (before : Insulation) :
    (State.afterCheck s before).statusSeq = s.statusSeq := by
  unfold State.afterCheck
  split <;> simp
@[simp] theorem State.afterCheck_pending (s : State) (before : Insulation) :
    (State.afterCheck s before).pending = s.pending := by
  unfold State.afterCheck
  split <;> simp

@[simp] theorem State.unqueue_mem (s : State) (n : SlotNo) (o : Order) :
    (State.unqueue s n o).mem = s.mem := by
  unfold State.unqueue
  split <;> simp
@[simp] theorem State.unqueue_pins (s : State) (n : SlotNo) (o : Order) :
    (State.unqueue s n o).pins = s.pins := by
  unfold State.unqueue
  split <;> simp
@[simp] theorem State.unqueue_link (s : State) (n : SlotNo) (o : Order) :
    (State.unqueue s n o).link = s.link := by
  unfold State.unqueue
  split <;> simp
@[simp] theorem State.unqueue_attn (s : State) (n : SlotNo) (o : Order) :
    (State.unqueue s n o).attn = s.attn := by
  unfold State.unqueue
  split <;> simp
@[simp] theorem State.unqueue_metering (s : State) (n : SlotNo) (o : Order) :
    (State.unqueue s n o).metering = s.metering := by
  unfold State.unqueue
  split <;> simp
@[simp] theorem State.unqueue_billing (s : State) (n : SlotNo) (o : Order) :
    (State.unqueue s n o).billing = s.billing := by
  unfold State.unqueue
  split <;> simp
@[simp] theorem State.unqueue_power (s : State) (n : SlotNo) (o : Order) :
    (State.unqueue s n o).power = s.power := by
  unfold State.unqueue
  split <;> simp
@[simp] theorem State.unqueue_heating (s : State) (n : SlotNo) (o : Order) :
    (State.unqueue s n o).heating = s.heating := by
  unfold State.unqueue
  split <;> simp
@[simp] theorem State.unqueue_insulation (s : State) (n : SlotNo) (o : Order) :
    (State.unqueue s n o).insulation = s.insulation := by
  unfold State.unqueue
  split <;> simp
@[simp] theorem State.unqueue_relay (s : State) (n : SlotNo) (o : Order) :
    (State.unqueue s n o).relay = s.relay := by
  unfold State.unqueue
  split <;> simp
@[simp] theorem State.unqueue_trips (s : State) (n : SlotNo) (o : Order) :
    (State.unqueue s n o).trips = s.trips := by
  unfold State.unqueue
  split <;> simp
@[simp] theorem State.unqueue_statusSeq (s : State) (n : SlotNo) (o : Order) :
    (State.unqueue s n o).statusSeq = s.statusSeq := by
  unfold State.unqueue
  split <;> simp
@[simp] theorem State.unqueue_pending (s : State) (n : SlotNo) (o : Order) :
    (State.unqueue s n o).pending = s.pending := by
  unfold State.unqueue
  split <;> simp

@[simp] theorem State.withdrawCharge_pins (s : State) (n : SlotNo) :
    (State.withdrawCharge s n).pins = s.pins := by
  unfold State.withdrawCharge
  split <;> simp
@[simp] theorem State.withdrawCharge_link (s : State) (n : SlotNo) :
    (State.withdrawCharge s n).link = s.link := by
  unfold State.withdrawCharge
  split <;> simp
@[simp] theorem State.withdrawCharge_metering (s : State) (n : SlotNo) :
    (State.withdrawCharge s n).metering = s.metering := by
  unfold State.withdrawCharge
  split <;> simp
@[simp] theorem State.withdrawCharge_billing (s : State) (n : SlotNo) :
    (State.withdrawCharge s n).billing = s.billing := by
  unfold State.withdrawCharge
  split <;> simp
@[simp] theorem State.withdrawCharge_heating (s : State) (n : SlotNo) :
    (State.withdrawCharge s n).heating = s.heating := by
  unfold State.withdrawCharge
  split <;> simp
@[simp] theorem State.withdrawCharge_insulation (s : State) (n : SlotNo) :
    (State.withdrawCharge s n).insulation = s.insulation := by
  unfold State.withdrawCharge
  split <;> simp
@[simp] theorem State.withdrawCharge_relay (s : State) (n : SlotNo) :
    (State.withdrawCharge s n).relay = s.relay := by
  unfold State.withdrawCharge
  split <;> simp
@[simp] theorem State.withdrawCharge_trips (s : State) (n : SlotNo) :
    (State.withdrawCharge s n).trips = s.trips := by
  unfold State.withdrawCharge
  split <;> simp
@[simp] theorem State.withdrawCharge_statusSeq (s : State) (n : SlotNo) :
    (State.withdrawCharge s n).statusSeq = s.statusSeq := by
  unfold State.withdrawCharge
  split <;> simp
@[simp] theorem State.withdrawCharge_pending (s : State) (n : SlotNo) :
    (State.withdrawCharge s n).pending = s.pending := by
  unfold State.withdrawCharge
  split <;> simp

@[simp] theorem State.withdrawHeat_pins (s : State) (n : SlotNo) :
    (State.withdrawHeat s n).pins = s.pins := by
  unfold State.withdrawHeat
  split <;> simp
@[simp] theorem State.withdrawHeat_link (s : State) (n : SlotNo) :
    (State.withdrawHeat s n).link = s.link := by
  unfold State.withdrawHeat
  split <;> simp
@[simp] theorem State.withdrawHeat_metering (s : State) (n : SlotNo) :
    (State.withdrawHeat s n).metering = s.metering := by
  unfold State.withdrawHeat
  split <;> simp
@[simp] theorem State.withdrawHeat_billing (s : State) (n : SlotNo) :
    (State.withdrawHeat s n).billing = s.billing := by
  unfold State.withdrawHeat
  split <;> simp
@[simp] theorem State.withdrawHeat_power (s : State) (n : SlotNo) :
    (State.withdrawHeat s n).power = s.power := by
  unfold State.withdrawHeat
  split <;> simp
@[simp] theorem State.withdrawHeat_insulation (s : State) (n : SlotNo) :
    (State.withdrawHeat s n).insulation = s.insulation := by
  unfold State.withdrawHeat
  split <;> simp
@[simp] theorem State.withdrawHeat_relay (s : State) (n : SlotNo) :
    (State.withdrawHeat s n).relay = s.relay := by
  unfold State.withdrawHeat
  split <;> simp
@[simp] theorem State.withdrawHeat_trips (s : State) (n : SlotNo) :
    (State.withdrawHeat s n).trips = s.trips := by
  unfold State.withdrawHeat
  split <;> simp
@[simp] theorem State.withdrawHeat_statusSeq (s : State) (n : SlotNo) :
    (State.withdrawHeat s n).statusSeq = s.statusSeq := by
  unfold State.withdrawHeat
  split <;> simp
@[simp] theorem State.withdrawHeat_pending (s : State) (n : SlotNo) :
    (State.withdrawHeat s n).pending = s.pending := by
  unfold State.withdrawHeat
  split <;> simp

@[simp] theorem State.withdrawCheck_pins (s : State) :
    (State.withdrawCheck s).pins = s.pins := by simp [State.withdrawCheck]
@[simp] theorem State.withdrawCheck_link (s : State) :
    (State.withdrawCheck s).link = s.link := by simp [State.withdrawCheck]
@[simp] theorem State.withdrawCheck_statusSeq (s : State) :
    (State.withdrawCheck s).statusSeq = s.statusSeq := by simp [State.withdrawCheck]
@[simp] theorem State.withdrawCheck_pending (s : State) :
    (State.withdrawCheck s).pending = s.pending := by simp [State.withdrawCheck]

@[simp] theorem State.withdrawRunning_pins (s : State) (n : SlotNo) (o : Order) :
    ((State.withdrawRunning s n o).2).pins = s.pins := by
  cases o <;> simp [State.withdrawRunning]
@[simp] theorem State.withdrawRunning_link (s : State) (n : SlotNo) (o : Order) :
    ((State.withdrawRunning s n o).2).link = s.link := by
  cases o <;> simp [State.withdrawRunning]
@[simp] theorem State.withdrawRunning_statusSeq (s : State) (n : SlotNo) (o : Order) :
    ((State.withdrawRunning s n o).2).statusSeq = s.statusSeq := by
  cases o <;> simp [State.withdrawRunning]
@[simp] theorem State.withdrawRunning_pending (s : State) (n : SlotNo) (o : Order) :
    ((State.withdrawRunning s n o).2).pending = s.pending := by
  cases o <;> simp [State.withdrawRunning]
@[simp] theorem State.withdrawTarget_pins (s : State) (t : SlotNo) :
    (State.withdrawTarget s t).2.pins = s.pins := by
  unfold State.withdrawTarget
  split <;> simp
@[simp] theorem State.withdrawTarget_link (s : State) (t : SlotNo) :
    (State.withdrawTarget s t).2.link = s.link := by
  unfold State.withdrawTarget
  split <;> simp
@[simp] theorem State.withdrawTarget_statusSeq (s : State) (t : SlotNo) :
    (State.withdrawTarget s t).2.statusSeq = s.statusSeq := by
  unfold State.withdrawTarget
  split <;> simp
@[simp] theorem State.withdrawTarget_pending (s : State) (t : SlotNo) :
    (State.withdrawTarget s t).2.pending = s.pending := by
  unfold State.withdrawTarget
  split <;> simp

@[simp] theorem State.takeWithdraw_pins (s : State) (own : SlotNo) (target : Byte) :
    (State.takeWithdraw s own target).pins = s.pins := by
  simp only [State.takeWithdraw]
  repeat' split
  all_goals simp
@[simp] theorem State.takeWithdraw_link (s : State) (own : SlotNo) (target : Byte) :
    (State.takeWithdraw s own target).link = s.link := by
  simp only [State.takeWithdraw]
  repeat' split
  all_goals simp
@[simp] theorem State.takeWithdraw_statusSeq (s : State) (own : SlotNo) (target : Byte) :
    (State.takeWithdraw s own target).statusSeq = s.statusSeq := by
  simp only [State.takeWithdraw]
  repeat' split
  all_goals simp
@[simp] theorem State.takeWithdraw_pending (s : State) (own : SlotNo) (target : Byte) :
    (State.takeWithdraw s own target).pending = s.pending := by
  simp only [State.takeWithdraw]
  repeat' split
  all_goals simp

@[simp] theorem State.takeOrder_pins (s : State) (n : SlotNo) (o : Order) :
    (State.takeOrder s n o).pins = s.pins := by
  unfold State.takeOrder
  split <;> simp
@[simp] theorem State.takeOrder_link (s : State) (n : SlotNo) (o : Order) :
    (State.takeOrder s n o).link = s.link := by
  unfold State.takeOrder
  split <;> simp
@[simp] theorem State.takeOrder_statusSeq (s : State) (n : SlotNo) (o : Order) :
    (State.takeOrder s n o).statusSeq = s.statusSeq := by
  unfold State.takeOrder
  split <;> simp
@[simp] theorem State.takeOrder_pending (s : State) (n : SlotNo) (o : Order) :
    (State.takeOrder s n o).pending = s.pending := by
  unfold State.takeOrder
  split <;> simp

@[simp] theorem State.enqueue_pins (s : State) (b : Block) (n : SlotNo) :
    (State.enqueue s b n).pins = s.pins := by simp [State.enqueue]
@[simp] theorem State.enqueue_link (s : State) (b : Block) (n : SlotNo) :
    (State.enqueue s b n).link = s.link := by simp [State.enqueue]
@[simp] theorem State.enqueue_attn (s : State) (b : Block) (n : SlotNo) :
    (State.enqueue s b n).attn = s.attn := by simp [State.enqueue]
@[simp] theorem State.enqueue_metering (s : State) (b : Block) (n : SlotNo) :
    (State.enqueue s b n).metering = s.metering := by simp [State.enqueue]
@[simp] theorem State.enqueue_billing (s : State) (b : Block) (n : SlotNo) :
    (State.enqueue s b n).billing = s.billing := by simp [State.enqueue]
@[simp] theorem State.enqueue_power (s : State) (b : Block) (n : SlotNo) :
    (State.enqueue s b n).power = s.power := by simp [State.enqueue]
@[simp] theorem State.enqueue_heating (s : State) (b : Block) (n : SlotNo) :
    (State.enqueue s b n).heating = s.heating := by simp [State.enqueue]
@[simp] theorem State.enqueue_insulation (s : State) (b : Block) (n : SlotNo) :
    (State.enqueue s b n).insulation = s.insulation := by simp [State.enqueue]
@[simp] theorem State.enqueue_relay (s : State) (b : Block) (n : SlotNo) :
    (State.enqueue s b n).relay = s.relay := by simp [State.enqueue]
@[simp] theorem State.enqueue_trips (s : State) (b : Block) (n : SlotNo) :
    (State.enqueue s b n).trips = s.trips := by simp [State.enqueue]
@[simp] theorem State.enqueue_statusSeq (s : State) (b : Block) (n : SlotNo) :
    (State.enqueue s b n).statusSeq = s.statusSeq := by simp [State.enqueue]
@[simp] theorem State.enqueue_pending (s : State) (b : Block) (n : SlotNo) :
    (State.enqueue s b n).pending = s.pending := by simp [State.enqueue]

@[simp] theorem State.routeOrder_pins (s : State) (n : SlotNo) (o : Order) :
    (State.routeOrder s n o).pins = s.pins := by
  simp only [State.routeOrder]
  repeat' split
  all_goals simp
@[simp] theorem State.routeOrder_link (s : State) (n : SlotNo) (o : Order) :
    (State.routeOrder s n o).link = s.link := by
  simp only [State.routeOrder]
  repeat' split
  all_goals simp
@[simp] theorem State.routeOrder_statusSeq (s : State) (n : SlotNo) (o : Order) :
    (State.routeOrder s n o).statusSeq = s.statusSeq := by
  simp only [State.routeOrder]
  repeat' split
  all_goals simp
@[simp] theorem State.routeOrder_pending (s : State) (n : SlotNo) (o : Order) :
    (State.routeOrder s n o).pending = s.pending := by
  simp only [State.routeOrder]
  repeat' split
  all_goals simp

@[simp] theorem State.copyPost_pins (s : State) (n : SlotNo) (p : Posted) :
    (State.copyPost s n p).pins = s.pins := by simp [State.copyPost]
@[simp] theorem State.copyPost_link (s : State) (n : SlotNo) (p : Posted) :
    (State.copyPost s n p).link = s.link := by simp [State.copyPost]
@[simp] theorem State.copyPost_attn (s : State) (n : SlotNo) (p : Posted) :
    (State.copyPost s n p).attn = s.attn := by simp [State.copyPost]
@[simp] theorem State.copyPost_metering (s : State) (n : SlotNo) (p : Posted) :
    (State.copyPost s n p).metering = s.metering := by simp [State.copyPost]
@[simp] theorem State.copyPost_billing (s : State) (n : SlotNo) (p : Posted) :
    (State.copyPost s n p).billing = s.billing := by simp [State.copyPost]
@[simp] theorem State.copyPost_power (s : State) (n : SlotNo) (p : Posted) :
    (State.copyPost s n p).power = s.power := by simp [State.copyPost]
@[simp] theorem State.copyPost_heating (s : State) (n : SlotNo) (p : Posted) :
    (State.copyPost s n p).heating = s.heating := by simp [State.copyPost]
@[simp] theorem State.copyPost_insulation (s : State) (n : SlotNo) (p : Posted) :
    (State.copyPost s n p).insulation = s.insulation := by simp [State.copyPost]
@[simp] theorem State.copyPost_relay (s : State) (n : SlotNo) (p : Posted) :
    (State.copyPost s n p).relay = s.relay := by simp [State.copyPost]
@[simp] theorem State.copyPost_trips (s : State) (n : SlotNo) (p : Posted) :
    (State.copyPost s n p).trips = s.trips := by simp [State.copyPost]
@[simp] theorem State.copyPost_statusSeq (s : State) (n : SlotNo) (p : Posted) :
    (State.copyPost s n p).statusSeq = s.statusSeq := by simp [State.copyPost]
@[simp] theorem State.copyPost_pending (s : State) (n : SlotNo) (p : Posted) :
    (State.copyPost s n p).pending = s.pending := by simp [State.copyPost]

@[simp] theorem State.acceptPost_pins (s : State) (n : SlotNo) (p : Posted) :
    (State.acceptPost s n p).pins = s.pins := by simp [State.acceptPost]
@[simp] theorem State.acceptPost_link (s : State) (n : SlotNo) (p : Posted) :
    (State.acceptPost s n p).link = s.link := by simp [State.acceptPost]
@[simp] theorem State.acceptPost_statusSeq (s : State) (n : SlotNo) (p : Posted) :
    (State.acceptPost s n p).statusSeq = s.statusSeq := by simp [State.acceptPost]
@[simp] theorem State.acceptPost_pending (s : State) (n : SlotNo) (p : Posted) :
    (State.acceptPost s n p).pending = s.pending := by simp [State.acceptPost]

@[simp] theorem State.acceptFree_pins (s : State) (n : SlotNo) :
    (State.acceptFree s n).pins = s.pins := by simp [State.acceptFree]
@[simp] theorem State.acceptFree_link (s : State) (n : SlotNo) :
    (State.acceptFree s n).link = s.link := by simp [State.acceptFree]
@[simp] theorem State.acceptFree_attn (s : State) (n : SlotNo) :
    (State.acceptFree s n).attn = s.attn := by simp [State.acceptFree]
@[simp] theorem State.acceptFree_metering (s : State) (n : SlotNo) :
    (State.acceptFree s n).metering = s.metering := by simp [State.acceptFree]
@[simp] theorem State.acceptFree_billing (s : State) (n : SlotNo) :
    (State.acceptFree s n).billing = s.billing := by simp [State.acceptFree]
@[simp] theorem State.acceptFree_power (s : State) (n : SlotNo) :
    (State.acceptFree s n).power = s.power := by simp [State.acceptFree]
@[simp] theorem State.acceptFree_heating (s : State) (n : SlotNo) :
    (State.acceptFree s n).heating = s.heating := by simp [State.acceptFree]
@[simp] theorem State.acceptFree_insulation (s : State) (n : SlotNo) :
    (State.acceptFree s n).insulation = s.insulation := by simp [State.acceptFree]
@[simp] theorem State.acceptFree_relay (s : State) (n : SlotNo) :
    (State.acceptFree s n).relay = s.relay := by simp [State.acceptFree]
@[simp] theorem State.acceptFree_trips (s : State) (n : SlotNo) :
    (State.acceptFree s n).trips = s.trips := by simp [State.acceptFree]
@[simp] theorem State.acceptFree_statusSeq (s : State) (n : SlotNo) :
    (State.acceptFree s n).statusSeq = s.statusSeq := by simp [State.acceptFree]
@[simp] theorem State.acceptFree_pending (s : State) (n : SlotNo) :
    (State.acceptFree s n).pending = s.pending := by simp [State.acceptFree]

@[simp] theorem State.holdWrite_pins (s : State) (n : SlotNo) :
    (State.holdWrite s n).pins = s.pins := by simp [State.holdWrite]
@[simp] theorem State.holdWrite_link (s : State) (n : SlotNo) :
    (State.holdWrite s n).link = s.link := by simp [State.holdWrite]
@[simp] theorem State.holdWrite_orders (s : State) (n : SlotNo) :
    (State.holdWrite s n).orders = s.orders := by simp [State.holdWrite]
@[simp] theorem State.holdWrite_metering (s : State) (n : SlotNo) :
    (State.holdWrite s n).metering = s.metering := by simp [State.holdWrite]
@[simp] theorem State.holdWrite_billing (s : State) (n : SlotNo) :
    (State.holdWrite s n).billing = s.billing := by simp [State.holdWrite]
@[simp] theorem State.holdWrite_power (s : State) (n : SlotNo) :
    (State.holdWrite s n).power = s.power := by simp [State.holdWrite]
@[simp] theorem State.holdWrite_heating (s : State) (n : SlotNo) :
    (State.holdWrite s n).heating = s.heating := by simp [State.holdWrite]
@[simp] theorem State.holdWrite_insulation (s : State) (n : SlotNo) :
    (State.holdWrite s n).insulation = s.insulation := by simp [State.holdWrite]
@[simp] theorem State.holdWrite_relay (s : State) (n : SlotNo) :
    (State.holdWrite s n).relay = s.relay := by simp [State.holdWrite]
@[simp] theorem State.holdWrite_trips (s : State) (n : SlotNo) :
    (State.holdWrite s n).trips = s.trips := by simp [State.holdWrite]
@[simp] theorem State.holdWrite_statusSeq (s : State) (n : SlotNo) :
    (State.holdWrite s n).statusSeq = s.statusSeq := by simp [State.holdWrite]
@[simp] theorem State.holdWrite_pending (s : State) (n : SlotNo) :
    (State.holdWrite s n).pending = s.pending := by simp [State.holdWrite]

@[simp] theorem State.judge_pins (s : State) (n : SlotNo) (value : Byte) :
    (State.judge s n value).pins = s.pins := by
  simp only [State.judge]
  repeat' split
  all_goals simp
@[simp] theorem State.judge_link (s : State) (n : SlotNo) (value : Byte) :
    (State.judge s n value).link = s.link := by
  simp only [State.judge]
  repeat' split
  all_goals simp
@[simp] theorem State.judge_statusSeq (s : State) (n : SlotNo) (value : Byte) :
    (State.judge s n value).statusSeq = s.statusSeq := by
  simp only [State.judge]
  repeat' split
  all_goals simp
@[simp] theorem State.judge_pending (s : State) (n : SlotNo) (value : Byte) :
    (State.judge s n value).pending = s.pending := by
  simp only [State.judge]
  repeat' split
  all_goals simp

@[simp] theorem State.takeNotice_pins (s : State) :
    (State.takeNotice s).pins = s.pins := by
  unfold State.takeNotice
  split <;> simp
@[simp] theorem State.takeNotice_link (s : State) :
    (State.takeNotice s).link = s.link := by
  unfold State.takeNotice
  split <;> simp
@[simp] theorem State.takeNotice_statusSeq (s : State) :
    (State.takeNotice s).statusSeq = s.statusSeq := by
  unfold State.takeNotice
  split <;> simp
@[simp] theorem State.takeNotice_pending (s : State) :
    (State.takeNotice s).pending = s.pending := by
  unfold State.takeNotice
  split <;> simp

@[simp] theorem State.post_pins (s : State) (n : SlotNo) (tag : Half) (o : Order) :
    (State.post s n tag o).pins = s.pins := by
  unfold State.post
  split <;> simp
@[simp] theorem State.post_link (s : State) (n : SlotNo) (tag : Half) (o : Order) :
    (State.post s n tag o).link = s.link := by
  unfold State.post
  split <;> simp
@[simp] theorem State.post_statusSeq (s : State) (n : SlotNo) (tag : Half) (o : Order) :
    (State.post s n tag o).statusSeq = s.statusSeq := by
  unfold State.post
  split <;> simp
@[simp] theorem State.post_pending (s : State) (n : SlotNo) (tag : Half) (o : Order) :
    (State.post s n tag o).pending = s.pending := by
  unfold State.post
  split <;> simp

end Sys2Proof.Machine
end

