-- ==== Sys2Proof/Laws/FramesLink.lean ====
section
/-! SUPPORT. Frames: which parts of State each shared operation of these machine files leaves as
they were, one lemma per operation per part. -/

namespace Sys2Proof.Machine

/-! ## Machine/Monitor.lean -/

@[simp] theorem State.pkonDrops_link (s : State) :
    (State.pkonDrops s).link = s.link := by simp [State.pkonDrops]
@[simp] theorem State.pkonDrops_statusSeq (s : State) :
    (State.pkonDrops s).statusSeq = s.statusSeq := by simp [State.pkonDrops]
@[simp] theorem State.pkonDrops_pending (s : State) :
    (State.pkonDrops s).pending = s.pending := by simp [State.pkonDrops]

@[simp] theorem State.timeoutCheck_pins (s : State) :
    (State.timeoutCheck s).pins = s.pins := by simp [State.timeoutCheck]
@[simp] theorem State.timeoutCheck_link (s : State) :
    (State.timeoutCheck s).link = s.link := by simp [State.timeoutCheck]
@[simp] theorem State.timeoutCheck_statusSeq (s : State) :
    (State.timeoutCheck s).statusSeq = s.statusSeq := by simp [State.timeoutCheck]
@[simp] theorem State.timeoutCheck_pending (s : State) :
    (State.timeoutCheck s).pending = s.pending := by simp [State.timeoutCheck]

/-! ## Machine/Link.lean -/

@[simp] theorem State.endTransaction_mem (s : State) :
    (State.endTransaction s).mem = s.mem := by simp [State.endTransaction]
@[simp] theorem State.endTransaction_pins (s : State) :
    (State.endTransaction s).pins = s.pins := by simp [State.endTransaction]
@[simp] theorem State.endTransaction_attn (s : State) :
    (State.endTransaction s).attn = s.attn := by simp [State.endTransaction]
@[simp] theorem State.endTransaction_metering (s : State) :
    (State.endTransaction s).metering = s.metering := by simp [State.endTransaction]
@[simp] theorem State.endTransaction_billing (s : State) :
    (State.endTransaction s).billing = s.billing := by simp [State.endTransaction]
@[simp] theorem State.endTransaction_power (s : State) :
    (State.endTransaction s).power = s.power := by simp [State.endTransaction]
@[simp] theorem State.endTransaction_heating (s : State) :
    (State.endTransaction s).heating = s.heating := by simp [State.endTransaction]
@[simp] theorem State.endTransaction_insulation (s : State) :
    (State.endTransaction s).insulation = s.insulation := by simp [State.endTransaction]
@[simp] theorem State.endTransaction_relay (s : State) :
    (State.endTransaction s).relay = s.relay := by simp [State.endTransaction]
@[simp] theorem State.endTransaction_trips (s : State) :
    (State.endTransaction s).trips = s.trips := by simp [State.endTransaction]
@[simp] theorem State.endTransaction_statusSeq (s : State) :
    (State.endTransaction s).statusSeq = s.statusSeq := by simp [State.endTransaction]
@[simp] theorem State.endTransaction_pending (s : State) :
    (State.endTransaction s).pending = s.pending := by simp [State.endTransaction]

@[simp] theorem State.readPair_mem (s : State) (t : Target) (pair : List Byte) (clocked : Nat) :
    (State.readPair s t pair clocked).mem = s.mem := by
  unfold State.readPair
  split <;> simp
@[simp] theorem State.readPair_pins (s : State) (t : Target) (pair : List Byte) (clocked : Nat) :
    (State.readPair s t pair clocked).pins = s.pins := by
  unfold State.readPair
  split <;> simp
@[simp] theorem State.readPair_attn (s : State) (t : Target) (pair : List Byte) (clocked : Nat) :
    (State.readPair s t pair clocked).attn = s.attn := by
  unfold State.readPair
  split <;> simp
@[simp] theorem State.readPair_orders (s : State) (t : Target) (pair : List Byte) (clocked : Nat) :
    (State.readPair s t pair clocked).orders = s.orders := by
  unfold State.readPair
  split <;> simp
@[simp] theorem State.readPair_metering (s : State) (t : Target) (pair : List Byte) (clocked : Nat) :
    (State.readPair s t pair clocked).metering = s.metering := by
  unfold State.readPair
  split <;> simp
@[simp] theorem State.readPair_billing (s : State) (t : Target) (pair : List Byte) (clocked : Nat) :
    (State.readPair s t pair clocked).billing = s.billing := by
  unfold State.readPair
  split <;> simp
@[simp] theorem State.readPair_power (s : State) (t : Target) (pair : List Byte) (clocked : Nat) :
    (State.readPair s t pair clocked).power = s.power := by
  unfold State.readPair
  split <;> simp
@[simp] theorem State.readPair_heating (s : State) (t : Target) (pair : List Byte) (clocked : Nat) :
    (State.readPair s t pair clocked).heating = s.heating := by
  unfold State.readPair
  split <;> simp
@[simp] theorem State.readPair_insulation (s : State) (t : Target) (pair : List Byte) (clocked : Nat) :
    (State.readPair s t pair clocked).insulation = s.insulation := by
  unfold State.readPair
  split <;> simp
@[simp] theorem State.readPair_relay (s : State) (t : Target) (pair : List Byte) (clocked : Nat) :
    (State.readPair s t pair clocked).relay = s.relay := by
  unfold State.readPair
  split <;> simp
@[simp] theorem State.readPair_trips (s : State) (t : Target) (pair : List Byte) (clocked : Nat) :
    (State.readPair s t pair clocked).trips = s.trips := by
  unfold State.readPair
  split <;> simp
@[simp] theorem State.readPair_statusSeq (s : State) (t : Target) (pair : List Byte) (clocked : Nat) :
    (State.readPair s t pair clocked).statusSeq = s.statusSeq := by
  unfold State.readPair
  split <;> simp
@[simp] theorem State.readPair_pending (s : State) (t : Target) (pair : List Byte) (clocked : Nat) :
    (State.readPair s t pair clocked).pending = s.pending := by
  unfold State.readPair
  split <;> simp

@[simp] theorem State.recordState_mem (s : State) (n : SlotNo) (b : Byte) :
    (State.recordState s n b).mem = s.mem := by simp [State.recordState]
@[simp] theorem State.recordState_pins (s : State) (n : SlotNo) (b : Byte) :
    (State.recordState s n b).pins = s.pins := by simp [State.recordState]
@[simp] theorem State.recordState_attn (s : State) (n : SlotNo) (b : Byte) :
    (State.recordState s n b).attn = s.attn := by simp [State.recordState]
@[simp] theorem State.recordState_orders (s : State) (n : SlotNo) (b : Byte) :
    (State.recordState s n b).orders = s.orders := by simp [State.recordState]
@[simp] theorem State.recordState_metering (s : State) (n : SlotNo) (b : Byte) :
    (State.recordState s n b).metering = s.metering := by simp [State.recordState]
@[simp] theorem State.recordState_billing (s : State) (n : SlotNo) (b : Byte) :
    (State.recordState s n b).billing = s.billing := by simp [State.recordState]
@[simp] theorem State.recordState_power (s : State) (n : SlotNo) (b : Byte) :
    (State.recordState s n b).power = s.power := by simp [State.recordState]
@[simp] theorem State.recordState_heating (s : State) (n : SlotNo) (b : Byte) :
    (State.recordState s n b).heating = s.heating := by simp [State.recordState]
@[simp] theorem State.recordState_insulation (s : State) (n : SlotNo) (b : Byte) :
    (State.recordState s n b).insulation = s.insulation := by simp [State.recordState]
@[simp] theorem State.recordState_relay (s : State) (n : SlotNo) (b : Byte) :
    (State.recordState s n b).relay = s.relay := by simp [State.recordState]
@[simp] theorem State.recordState_trips (s : State) (n : SlotNo) (b : Byte) :
    (State.recordState s n b).trips = s.trips := by simp [State.recordState]
@[simp] theorem State.recordState_statusSeq (s : State) (n : SlotNo) (b : Byte) :
    (State.recordState s n b).statusSeq = s.statusSeq := by simp [State.recordState]
@[simp] theorem State.recordState_pending (s : State) (n : SlotNo) (b : Byte) :
    (State.recordState s n b).pending = s.pending := by simp [State.recordState]

@[simp] theorem State.storeByte_pins (s : State) (a : Nat) (b : Byte) :
    (State.storeByte s a b).pins = s.pins := by
  unfold State.storeByte
  split <;> simp
@[simp] theorem State.storeByte_attn (s : State) (a : Nat) (b : Byte) :
    (State.storeByte s a b).attn = s.attn := by
  unfold State.storeByte
  split <;> simp
@[simp] theorem State.storeByte_orders (s : State) (a : Nat) (b : Byte) :
    (State.storeByte s a b).orders = s.orders := by
  unfold State.storeByte
  split <;> simp
@[simp] theorem State.storeByte_metering (s : State) (a : Nat) (b : Byte) :
    (State.storeByte s a b).metering = s.metering := by
  unfold State.storeByte
  split <;> simp
@[simp] theorem State.storeByte_billing (s : State) (a : Nat) (b : Byte) :
    (State.storeByte s a b).billing = s.billing := by
  unfold State.storeByte
  split <;> simp
@[simp] theorem State.storeByte_power (s : State) (a : Nat) (b : Byte) :
    (State.storeByte s a b).power = s.power := by
  unfold State.storeByte
  split <;> simp
@[simp] theorem State.storeByte_heating (s : State) (a : Nat) (b : Byte) :
    (State.storeByte s a b).heating = s.heating := by
  unfold State.storeByte
  split <;> simp
@[simp] theorem State.storeByte_insulation (s : State) (a : Nat) (b : Byte) :
    (State.storeByte s a b).insulation = s.insulation := by
  unfold State.storeByte
  split <;> simp
@[simp] theorem State.storeByte_relay (s : State) (a : Nat) (b : Byte) :
    (State.storeByte s a b).relay = s.relay := by
  unfold State.storeByte
  split <;> simp
@[simp] theorem State.storeByte_trips (s : State) (a : Nat) (b : Byte) :
    (State.storeByte s a b).trips = s.trips := by
  unfold State.storeByte
  split <;> simp
@[simp] theorem State.storeByte_statusSeq (s : State) (a : Nat) (b : Byte) :
    (State.storeByte s a b).statusSeq = s.statusSeq := by
  unfold State.storeByte
  split <;> simp
@[simp] theorem State.storeByte_pending (s : State) (a : Nat) (b : Byte) :
    (State.storeByte s a b).pending = s.pending := by
  unfold State.storeByte
  split <;> simp

@[simp] theorem State.dropByte_mem (s : State) :
    (State.dropByte s).mem = s.mem := by
  unfold State.dropByte
  split <;> simp
@[simp] theorem State.dropByte_pins (s : State) :
    (State.dropByte s).pins = s.pins := by
  unfold State.dropByte
  split <;> simp
@[simp] theorem State.dropByte_orders (s : State) :
    (State.dropByte s).orders = s.orders := by
  unfold State.dropByte
  split <;> simp
@[simp] theorem State.dropByte_metering (s : State) :
    (State.dropByte s).metering = s.metering := by
  unfold State.dropByte
  split <;> simp
@[simp] theorem State.dropByte_billing (s : State) :
    (State.dropByte s).billing = s.billing := by
  unfold State.dropByte
  split <;> simp
@[simp] theorem State.dropByte_power (s : State) :
    (State.dropByte s).power = s.power := by
  unfold State.dropByte
  split <;> simp
@[simp] theorem State.dropByte_heating (s : State) :
    (State.dropByte s).heating = s.heating := by
  unfold State.dropByte
  split <;> simp
@[simp] theorem State.dropByte_insulation (s : State) :
    (State.dropByte s).insulation = s.insulation := by
  unfold State.dropByte
  split <;> simp
@[simp] theorem State.dropByte_relay (s : State) :
    (State.dropByte s).relay = s.relay := by
  unfold State.dropByte
  split <;> simp
@[simp] theorem State.dropByte_trips (s : State) :
    (State.dropByte s).trips = s.trips := by
  unfold State.dropByte
  split <;> simp
@[simp] theorem State.dropByte_statusSeq (s : State) :
    (State.dropByte s).statusSeq = s.statusSeq := by
  unfold State.dropByte
  split <;> simp
@[simp] theorem State.dropByte_pending (s : State) :
    (State.dropByte s).pending = s.pending := by
  unfold State.dropByte
  split <;> simp

@[simp] theorem State.loadLatch_mem (s : State) (b : Byte) :
    (State.loadLatch s b).mem = s.mem := by simp [State.loadLatch]
@[simp] theorem State.loadLatch_pins (s : State) (b : Byte) :
    (State.loadLatch s b).pins = s.pins := by simp [State.loadLatch]
@[simp] theorem State.loadLatch_attn (s : State) (b : Byte) :
    (State.loadLatch s b).attn = s.attn := by simp [State.loadLatch]
@[simp] theorem State.loadLatch_orders (s : State) (b : Byte) :
    (State.loadLatch s b).orders = s.orders := by simp [State.loadLatch]
@[simp] theorem State.loadLatch_metering (s : State) (b : Byte) :
    (State.loadLatch s b).metering = s.metering := by simp [State.loadLatch]
@[simp] theorem State.loadLatch_billing (s : State) (b : Byte) :
    (State.loadLatch s b).billing = s.billing := by simp [State.loadLatch]
@[simp] theorem State.loadLatch_power (s : State) (b : Byte) :
    (State.loadLatch s b).power = s.power := by simp [State.loadLatch]
@[simp] theorem State.loadLatch_heating (s : State) (b : Byte) :
    (State.loadLatch s b).heating = s.heating := by simp [State.loadLatch]
@[simp] theorem State.loadLatch_insulation (s : State) (b : Byte) :
    (State.loadLatch s b).insulation = s.insulation := by simp [State.loadLatch]
@[simp] theorem State.loadLatch_relay (s : State) (b : Byte) :
    (State.loadLatch s b).relay = s.relay := by simp [State.loadLatch]
@[simp] theorem State.loadLatch_trips (s : State) (b : Byte) :
    (State.loadLatch s b).trips = s.trips := by simp [State.loadLatch]
@[simp] theorem State.loadLatch_statusSeq (s : State) (b : Byte) :
    (State.loadLatch s b).statusSeq = s.statusSeq := by simp [State.loadLatch]
@[simp] theorem State.loadLatch_pending (s : State) (b : Byte) :
    (State.loadLatch s b).pending = s.pending := by simp [State.loadLatch]

@[simp] theorem State.markLow_pins (s : State) (b : Byte) :
    (State.markLow s b).pins = s.pins := by simp [State.markLow]
@[simp] theorem State.markLow_orders (s : State) (b : Byte) :
    (State.markLow s b).orders = s.orders := by simp [State.markLow]
@[simp] theorem State.markLow_metering (s : State) (b : Byte) :
    (State.markLow s b).metering = s.metering := by simp [State.markLow]
@[simp] theorem State.markLow_heating (s : State) (b : Byte) :
    (State.markLow s b).heating = s.heating := by simp [State.markLow]
@[simp] theorem State.markLow_trips (s : State) (b : Byte) :
    (State.markLow s b).trips = s.trips := by simp [State.markLow]
@[simp] theorem State.markLow_statusSeq (s : State) (b : Byte) :
    (State.markLow s b).statusSeq = s.statusSeq := by simp [State.markLow]
@[simp] theorem State.markLow_pending (s : State) (b : Byte) :
    (State.markLow s b).pending = s.pending := by simp [State.markLow]

@[simp] theorem State.windowEffect_pins (s : State) (a : Nat) (b : Byte) :
    (State.windowEffect s a b).pins = s.pins := by
  simp only [State.windowEffect]
  repeat' split
  all_goals simp
@[simp] theorem State.windowEffect_orders (s : State) (a : Nat) (b : Byte) :
    (State.windowEffect s a b).orders = s.orders := by
  simp only [State.windowEffect]
  repeat' split
  all_goals simp
@[simp] theorem State.windowEffect_metering (s : State) (a : Nat) (b : Byte) :
    (State.windowEffect s a b).metering = s.metering := by
  simp only [State.windowEffect]
  repeat' split
  all_goals simp
@[simp] theorem State.windowEffect_heating (s : State) (a : Nat) (b : Byte) :
    (State.windowEffect s a b).heating = s.heating := by
  simp only [State.windowEffect]
  repeat' split
  all_goals simp
@[simp] theorem State.windowEffect_trips (s : State) (a : Nat) (b : Byte) :
    (State.windowEffect s a b).trips = s.trips := by
  simp only [State.windowEffect]
  repeat' split
  all_goals simp
@[simp] theorem State.windowEffect_statusSeq (s : State) (a : Nat) (b : Byte) :
    (State.windowEffect s a b).statusSeq = s.statusSeq := by
  simp only [State.windowEffect]
  repeat' split
  all_goals simp
@[simp] theorem State.windowEffect_pending (s : State) (a : Nat) (b : Byte) :
    (State.windowEffect s a b).pending = s.pending := by
  simp only [State.windowEffect]
  repeat' split
  all_goals simp

@[simp] theorem State.advance_mem (s : State) (n : Nat) :
    (State.advance s n).mem = s.mem := by simp [State.advance]
@[simp] theorem State.advance_pins (s : State) (n : Nat) :
    (State.advance s n).pins = s.pins := by simp [State.advance]
@[simp] theorem State.advance_attn (s : State) (n : Nat) :
    (State.advance s n).attn = s.attn := by simp [State.advance]
@[simp] theorem State.advance_orders (s : State) (n : Nat) :
    (State.advance s n).orders = s.orders := by simp [State.advance]
@[simp] theorem State.advance_metering (s : State) (n : Nat) :
    (State.advance s n).metering = s.metering := by simp [State.advance]
@[simp] theorem State.advance_billing (s : State) (n : Nat) :
    (State.advance s n).billing = s.billing := by simp [State.advance]
@[simp] theorem State.advance_power (s : State) (n : Nat) :
    (State.advance s n).power = s.power := by simp [State.advance]
@[simp] theorem State.advance_heating (s : State) (n : Nat) :
    (State.advance s n).heating = s.heating := by simp [State.advance]
@[simp] theorem State.advance_insulation (s : State) (n : Nat) :
    (State.advance s n).insulation = s.insulation := by simp [State.advance]
@[simp] theorem State.advance_relay (s : State) (n : Nat) :
    (State.advance s n).relay = s.relay := by simp [State.advance]
@[simp] theorem State.advance_trips (s : State) (n : Nat) :
    (State.advance s n).trips = s.trips := by simp [State.advance]
@[simp] theorem State.advance_statusSeq (s : State) (n : Nat) :
    (State.advance s n).statusSeq = s.statusSeq := by simp [State.advance]
@[simp] theorem State.advance_pending (s : State) (n : Nat) :
    (State.advance s n).pending = s.pending := by simp [State.advance]

@[simp] theorem State.windowByte_pins (s : State) (b : Byte) :
    (State.windowByte s b).pins = s.pins := by
  unfold State.windowByte
  split <;> simp
@[simp] theorem State.windowByte_orders (s : State) (b : Byte) :
    (State.windowByte s b).orders = s.orders := by
  unfold State.windowByte
  split <;> simp
@[simp] theorem State.windowByte_metering (s : State) (b : Byte) :
    (State.windowByte s b).metering = s.metering := by
  unfold State.windowByte
  split <;> simp
@[simp] theorem State.windowByte_heating (s : State) (b : Byte) :
    (State.windowByte s b).heating = s.heating := by
  unfold State.windowByte
  split <;> simp
@[simp] theorem State.windowByte_trips (s : State) (b : Byte) :
    (State.windowByte s b).trips = s.trips := by
  unfold State.windowByte
  split <;> simp
@[simp] theorem State.windowByte_statusSeq (s : State) (b : Byte) :
    (State.windowByte s b).statusSeq = s.statusSeq := by
  unfold State.windowByte
  split <;> simp
@[simp] theorem State.windowByte_pending (s : State) (b : Byte) :
    (State.windowByte s b).pending = s.pending := by
  unfold State.windowByte
  split <;> simp

@[simp] theorem State.acknowledge_mem (s : State) (code : Byte) :
    (State.acknowledge s code).mem = s.mem := by
  simp only [State.acknowledge]
  repeat' split
  all_goals simp
@[simp] theorem State.acknowledge_pins (s : State) (code : Byte) :
    (State.acknowledge s code).pins = s.pins := by
  simp only [State.acknowledge]
  repeat' split
  all_goals simp
@[simp] theorem State.acknowledge_link (s : State) (code : Byte) :
    (State.acknowledge s code).link = s.link := by
  simp only [State.acknowledge]
  repeat' split
  all_goals simp
@[simp] theorem State.acknowledge_orders (s : State) (code : Byte) :
    (State.acknowledge s code).orders = s.orders := by
  simp only [State.acknowledge]
  repeat' split
  all_goals simp
@[simp] theorem State.acknowledge_metering (s : State) (code : Byte) :
    (State.acknowledge s code).metering = s.metering := by
  simp only [State.acknowledge]
  repeat' split
  all_goals simp
@[simp] theorem State.acknowledge_billing (s : State) (code : Byte) :
    (State.acknowledge s code).billing = s.billing := by
  simp only [State.acknowledge]
  repeat' split
  all_goals simp
@[simp] theorem State.acknowledge_power (s : State) (code : Byte) :
    (State.acknowledge s code).power = s.power := by
  simp only [State.acknowledge]
  repeat' split
  all_goals simp
@[simp] theorem State.acknowledge_heating (s : State) (code : Byte) :
    (State.acknowledge s code).heating = s.heating := by
  simp only [State.acknowledge]
  repeat' split
  all_goals simp
@[simp] theorem State.acknowledge_insulation (s : State) (code : Byte) :
    (State.acknowledge s code).insulation = s.insulation := by
  simp only [State.acknowledge]
  repeat' split
  all_goals simp
@[simp] theorem State.acknowledge_relay (s : State) (code : Byte) :
    (State.acknowledge s code).relay = s.relay := by
  simp only [State.acknowledge]
  repeat' split
  all_goals simp
@[simp] theorem State.acknowledge_trips (s : State) (code : Byte) :
    (State.acknowledge s code).trips = s.trips := by
  simp only [State.acknowledge]
  repeat' split
  all_goals simp
@[simp] theorem State.acknowledge_statusSeq (s : State) (code : Byte) :
    (State.acknowledge s code).statusSeq = s.statusSeq := by
  simp only [State.acknowledge]
  repeat' split
  all_goals simp
@[simp] theorem State.acknowledge_pending (s : State) (code : Byte) :
    (State.acknowledge s code).pending = s.pending := by
  simp only [State.acknowledge]
  repeat' split
  all_goals simp

@[simp] theorem State.received_mem (s : State) (t : Target) (n : Nat) :
    (State.received s t n).mem = s.mem := by simp [State.received]
@[simp] theorem State.received_pins (s : State) (t : Target) (n : Nat) :
    (State.received s t n).pins = s.pins := by simp [State.received]
@[simp] theorem State.received_attn (s : State) (t : Target) (n : Nat) :
    (State.received s t n).attn = s.attn := by simp [State.received]
@[simp] theorem State.received_orders (s : State) (t : Target) (n : Nat) :
    (State.received s t n).orders = s.orders := by simp [State.received]
@[simp] theorem State.received_metering (s : State) (t : Target) (n : Nat) :
    (State.received s t n).metering = s.metering := by simp [State.received]
@[simp] theorem State.received_billing (s : State) (t : Target) (n : Nat) :
    (State.received s t n).billing = s.billing := by simp [State.received]
@[simp] theorem State.received_power (s : State) (t : Target) (n : Nat) :
    (State.received s t n).power = s.power := by simp [State.received]
@[simp] theorem State.received_heating (s : State) (t : Target) (n : Nat) :
    (State.received s t n).heating = s.heating := by simp [State.received]
@[simp] theorem State.received_insulation (s : State) (t : Target) (n : Nat) :
    (State.received s t n).insulation = s.insulation := by simp [State.received]
@[simp] theorem State.received_relay (s : State) (t : Target) (n : Nat) :
    (State.received s t n).relay = s.relay := by simp [State.received]
@[simp] theorem State.received_trips (s : State) (t : Target) (n : Nat) :
    (State.received s t n).trips = s.trips := by simp [State.received]
@[simp] theorem State.received_statusSeq (s : State) (t : Target) (n : Nat) :
    (State.received s t n).statusSeq = s.statusSeq := by simp [State.received]
@[simp] theorem State.received_pending (s : State) (t : Target) (n : Nat) :
    (State.received s t n).pending = s.pending := by simp [State.received]

@[simp] theorem State.takeNotices_pins (n : Nat) (s : State) :
    (State.takeNotices n s).pins = s.pins := by
  induction n generalizing s with
  | zero => rfl
  | succ n ih => simp [State.takeNotices, ih]
@[simp] theorem State.takeNotices_link (n : Nat) (s : State) :
    (State.takeNotices n s).link = s.link := by
  induction n generalizing s with
  | zero => rfl
  | succ n ih => simp [State.takeNotices, ih]
@[simp] theorem State.takeNotices_statusSeq (n : Nat) (s : State) :
    (State.takeNotices n s).statusSeq = s.statusSeq := by
  induction n generalizing s with
  | zero => rfl
  | succ n ih => simp [State.takeNotices, ih]
@[simp] theorem State.takeNotices_pending (n : Nat) (s : State) :
    (State.takeNotices n s).pending = s.pending := by
  induction n generalizing s with
  | zero => rfl
  | succ n ih => simp [State.takeNotices, ih]
@[simp] theorem State.clearSlot_pins (s : State) (n : SlotNo) :
    (State.clearSlot s n).pins = s.pins := by simp [State.clearSlot]
@[simp] theorem State.clearSlot_link (s : State) (n : SlotNo) :
    (State.clearSlot s n).link = s.link := by simp [State.clearSlot]
@[simp] theorem State.clearSlot_attn (s : State) (n : SlotNo) :
    (State.clearSlot s n).attn = s.attn := by simp [State.clearSlot]
@[simp] theorem State.clearSlot_metering (s : State) (n : SlotNo) :
    (State.clearSlot s n).metering = s.metering := by simp [State.clearSlot]
@[simp] theorem State.clearSlot_billing (s : State) (n : SlotNo) :
    (State.clearSlot s n).billing = s.billing := by simp [State.clearSlot]
@[simp] theorem State.clearSlot_power (s : State) (n : SlotNo) :
    (State.clearSlot s n).power = s.power := by simp [State.clearSlot]
@[simp] theorem State.clearSlot_heating (s : State) (n : SlotNo) :
    (State.clearSlot s n).heating = s.heating := by simp [State.clearSlot]
@[simp] theorem State.clearSlot_insulation (s : State) (n : SlotNo) :
    (State.clearSlot s n).insulation = s.insulation := by simp [State.clearSlot]
@[simp] theorem State.clearSlot_relay (s : State) (n : SlotNo) :
    (State.clearSlot s n).relay = s.relay := by simp [State.clearSlot]
@[simp] theorem State.clearSlot_trips (s : State) (n : SlotNo) :
    (State.clearSlot s n).trips = s.trips := by simp [State.clearSlot]
@[simp] theorem State.clearSlot_statusSeq (s : State) (n : SlotNo) :
    (State.clearSlot s n).statusSeq = s.statusSeq := by simp [State.clearSlot]
@[simp] theorem State.clearSlot_pending (s : State) (n : SlotNo) :
    (State.clearSlot s n).pending = s.pending := by simp [State.clearSlot]

/-- Clearing slots one after another keeps whatever clearing one slot keeps. -/
theorem State.clearSlots_keep {α : Type} (f : State → α)
    (hf : ∀ (u : State) (n : SlotNo), f (u.clearSlot n) = f u) (l : List SlotNo) (s : State) :
    f (l.foldl State.clearSlot s) = f s := by
  induction l generalizing s with
  | nil => rfl
  | cons n l ih => rw [List.foldl_cons, ih, hf]
@[simp] theorem State.resetOrders_pins (s : State) : (State.resetOrders s).pins = s.pins := by
  simp [State.resetOrders, State.clearSlots_keep State.pins (by simp)]
@[simp] theorem State.resetOrders_link (s : State) : (State.resetOrders s).link = s.link := by
  simp [State.resetOrders, State.clearSlots_keep State.link (by simp)]
@[simp] theorem State.resetOrders_attn (s : State) : (State.resetOrders s).attn = s.attn := by
  simp [State.resetOrders, State.clearSlots_keep State.attn (by simp)]
@[simp] theorem State.resetOrders_metering (s : State) : (State.resetOrders s).metering = s.metering := by
  simp [State.resetOrders, State.clearSlots_keep State.metering (by simp)]
@[simp] theorem State.resetOrders_relay (s : State) : (State.resetOrders s).relay = s.relay := by
  simp [State.resetOrders, State.clearSlots_keep State.relay (by simp)]
@[simp] theorem State.resetOrders_trips (s : State) : (State.resetOrders s).trips = s.trips := by
  simp [State.resetOrders, State.clearSlots_keep State.trips (by simp)]
@[simp] theorem State.resetOrders_statusSeq (s : State) : (State.resetOrders s).statusSeq = s.statusSeq := by
  simp [State.resetOrders, State.clearSlots_keep State.statusSeq (by simp)]
@[simp] theorem State.resetOrders_pending (s : State) : (State.resetOrders s).pending = s.pending := by
  simp [State.resetOrders, State.clearSlots_keep State.pending (by simp)]

@[simp] theorem State.resetKeepalive_mem (s : State) :
    (State.resetKeepalive s).mem = s.mem := by
  unfold State.resetKeepalive
  split <;> simp
@[simp] theorem State.resetKeepalive_pins (s : State) :
    (State.resetKeepalive s).pins = s.pins := by
  unfold State.resetKeepalive
  split <;> simp
@[simp] theorem State.resetKeepalive_link (s : State) :
    (State.resetKeepalive s).link = s.link := by
  unfold State.resetKeepalive
  split <;> simp
@[simp] theorem State.resetKeepalive_attn (s : State) :
    (State.resetKeepalive s).attn = s.attn := by
  unfold State.resetKeepalive
  split <;> simp
@[simp] theorem State.resetKeepalive_orders (s : State) :
    (State.resetKeepalive s).orders = s.orders := by
  unfold State.resetKeepalive
  split <;> simp
@[simp] theorem State.resetKeepalive_metering (s : State) :
    (State.resetKeepalive s).metering = s.metering := by
  unfold State.resetKeepalive
  split <;> simp
@[simp] theorem State.resetKeepalive_billing (s : State) :
    (State.resetKeepalive s).billing = s.billing := by
  unfold State.resetKeepalive
  split <;> simp
@[simp] theorem State.resetKeepalive_heating (s : State) :
    (State.resetKeepalive s).heating = s.heating := by
  unfold State.resetKeepalive
  split <;> simp
@[simp] theorem State.resetKeepalive_insulation (s : State) :
    (State.resetKeepalive s).insulation = s.insulation := by
  unfold State.resetKeepalive
  split <;> simp
@[simp] theorem State.resetKeepalive_relay (s : State) :
    (State.resetKeepalive s).relay = s.relay := by
  unfold State.resetKeepalive
  split <;> simp
@[simp] theorem State.resetKeepalive_trips (s : State) :
    (State.resetKeepalive s).trips = s.trips := by
  unfold State.resetKeepalive
  split <;> simp
@[simp] theorem State.resetKeepalive_statusSeq (s : State) :
    (State.resetKeepalive s).statusSeq = s.statusSeq := by
  unfold State.resetKeepalive
  split <;> simp
@[simp] theorem State.resetKeepalive_pending (s : State) :
    (State.resetKeepalive s).pending = s.pending := by
  unfold State.resetKeepalive
  split <;> simp

@[simp] theorem State.linkReset_pins (s : State) :
    (State.linkReset s).pins = s.pins := by simp [State.linkReset]
@[simp] theorem State.linkReset_statusSeq (s : State) :
    (State.linkReset s).statusSeq = s.statusSeq := by simp [State.linkReset]
@[simp] theorem State.linkReset_pending (s : State) :
    (State.linkReset s).pending = s.pending := by simp [State.linkReset]

/-! ## Machine/Status.lean -/

@[simp] theorem State.writeCopy_pins (s : State) (base : Nat) (index : Byte) (seq : Word) :
    (State.writeCopy s base index seq).pins = s.pins := by simp [State.writeCopy]
@[simp] theorem State.writeCopy_link (s : State) (base : Nat) (index : Byte) (seq : Word) :
    (State.writeCopy s base index seq).link = s.link := by simp [State.writeCopy]
@[simp] theorem State.writeCopy_attn (s : State) (base : Nat) (index : Byte) (seq : Word) :
    (State.writeCopy s base index seq).attn = s.attn := by simp [State.writeCopy]
@[simp] theorem State.writeCopy_orders (s : State) (base : Nat) (index : Byte) (seq : Word) :
    (State.writeCopy s base index seq).orders = s.orders := by simp [State.writeCopy]
@[simp] theorem State.writeCopy_metering (s : State) (base : Nat) (index : Byte) (seq : Word) :
    (State.writeCopy s base index seq).metering = s.metering := by simp [State.writeCopy]
@[simp] theorem State.writeCopy_billing (s : State) (base : Nat) (index : Byte) (seq : Word) :
    (State.writeCopy s base index seq).billing = s.billing := by simp [State.writeCopy]
@[simp] theorem State.writeCopy_power (s : State) (base : Nat) (index : Byte) (seq : Word) :
    (State.writeCopy s base index seq).power = s.power := by simp [State.writeCopy]
@[simp] theorem State.writeCopy_heating (s : State) (base : Nat) (index : Byte) (seq : Word) :
    (State.writeCopy s base index seq).heating = s.heating := by simp [State.writeCopy]
@[simp] theorem State.writeCopy_insulation (s : State) (base : Nat) (index : Byte) (seq : Word) :
    (State.writeCopy s base index seq).insulation = s.insulation := by simp [State.writeCopy]
@[simp] theorem State.writeCopy_relay (s : State) (base : Nat) (index : Byte) (seq : Word) :
    (State.writeCopy s base index seq).relay = s.relay := by simp [State.writeCopy]
@[simp] theorem State.writeCopy_trips (s : State) (base : Nat) (index : Byte) (seq : Word) :
    (State.writeCopy s base index seq).trips = s.trips := by simp [State.writeCopy]
@[simp] theorem State.writeCopy_pending (s : State) (base : Nat) (index : Byte) (seq : Word) :
    (State.writeCopy s base index seq).pending = s.pending := by simp [State.writeCopy]

/-! ## Machine/Reset.lean -/

@[simp] theorem State.powerOnPins_mem (s : State) (levels : Pins) :
    (State.powerOnPins s levels).mem = s.mem := by simp [State.powerOnPins]
@[simp] theorem State.powerOnPins_link (s : State) (levels : Pins) :
    (State.powerOnPins s levels).link = s.link := by simp [State.powerOnPins]
@[simp] theorem State.powerOnPins_attn (s : State) (levels : Pins) :
    (State.powerOnPins s levels).attn = s.attn := by simp [State.powerOnPins]
@[simp] theorem State.powerOnPins_orders (s : State) (levels : Pins) :
    (State.powerOnPins s levels).orders = s.orders := by simp [State.powerOnPins]
@[simp] theorem State.powerOnPins_billing (s : State) (levels : Pins) :
    (State.powerOnPins s levels).billing = s.billing := by simp [State.powerOnPins]
@[simp] theorem State.powerOnPins_power (s : State) (levels : Pins) :
    (State.powerOnPins s levels).power = s.power := by simp [State.powerOnPins]
@[simp] theorem State.powerOnPins_heating (s : State) (levels : Pins) :
    (State.powerOnPins s levels).heating = s.heating := by simp [State.powerOnPins]
@[simp] theorem State.powerOnPins_insulation (s : State) (levels : Pins) :
    (State.powerOnPins s levels).insulation = s.insulation := by simp [State.powerOnPins]
@[simp] theorem State.powerOnPins_trips (s : State) (levels : Pins) :
    (State.powerOnPins s levels).trips = s.trips := by simp [State.powerOnPins]
@[simp] theorem State.powerOnPins_statusSeq (s : State) (levels : Pins) :
    (State.powerOnPins s levels).statusSeq = s.statusSeq := by simp [State.powerOnPins]
@[simp] theorem State.powerOnPins_pending (s : State) (levels : Pins) :
    (State.powerOnPins s levels).pending = s.pending := by simp [State.powerOnPins]

@[simp] theorem State.powerOnMonitor_mem (s : State) :
    (State.powerOnMonitor s).mem = s.mem := by
  unfold State.powerOnMonitor
  split <;> simp
@[simp] theorem State.powerOnMonitor_pins (s : State) :
    (State.powerOnMonitor s).pins = s.pins := by
  unfold State.powerOnMonitor
  split <;> simp
@[simp] theorem State.powerOnMonitor_link (s : State) :
    (State.powerOnMonitor s).link = s.link := by
  unfold State.powerOnMonitor
  split <;> simp
@[simp] theorem State.powerOnMonitor_attn (s : State) :
    (State.powerOnMonitor s).attn = s.attn := by
  unfold State.powerOnMonitor
  split <;> simp
@[simp] theorem State.powerOnMonitor_orders (s : State) :
    (State.powerOnMonitor s).orders = s.orders := by
  unfold State.powerOnMonitor
  split <;> simp
@[simp] theorem State.powerOnMonitor_metering (s : State) :
    (State.powerOnMonitor s).metering = s.metering := by
  unfold State.powerOnMonitor
  split <;> simp
@[simp] theorem State.powerOnMonitor_billing (s : State) :
    (State.powerOnMonitor s).billing = s.billing := by
  unfold State.powerOnMonitor
  split <;> simp
@[simp] theorem State.powerOnMonitor_power (s : State) :
    (State.powerOnMonitor s).power = s.power := by
  unfold State.powerOnMonitor
  split <;> simp
@[simp] theorem State.powerOnMonitor_heating (s : State) :
    (State.powerOnMonitor s).heating = s.heating := by
  unfold State.powerOnMonitor
  split <;> simp
@[simp] theorem State.powerOnMonitor_relay (s : State) :
    (State.powerOnMonitor s).relay = s.relay := by
  unfold State.powerOnMonitor
  split <;> simp
@[simp] theorem State.powerOnMonitor_trips (s : State) :
    (State.powerOnMonitor s).trips = s.trips := by
  unfold State.powerOnMonitor
  split <;> simp
@[simp] theorem State.powerOnMonitor_statusSeq (s : State) :
    (State.powerOnMonitor s).statusSeq = s.statusSeq := by
  unfold State.powerOnMonitor
  split <;> simp
@[simp] theorem State.powerOnMonitor_pending (s : State) :
    (State.powerOnMonitor s).pending = s.pending := by
  unfold State.powerOnMonitor
  split <;> simp

@[simp] theorem State.powerOn_pending (s : State) (levels : Pins) :
    (State.powerOn s levels).pending = s.pending := by simp [State.powerOn]

/-! ## Machine/Tick.lean -/

@[simp] theorem State.tick_mem (s : State) :
    (State.tick s).mem = s.mem := by simp [State.tick]
@[simp] theorem State.tick_pins (s : State) :
    (State.tick s).pins = s.pins := by simp [State.tick]
@[simp] theorem State.tick_link (s : State) :
    (State.tick s).link = s.link := by simp [State.tick]
@[simp] theorem State.tick_attn (s : State) :
    (State.tick s).attn = s.attn := by simp [State.tick]
@[simp] theorem State.tick_orders (s : State) :
    (State.tick s).orders = s.orders := by simp [State.tick]
@[simp] theorem State.tick_metering (s : State) :
    (State.tick s).metering = s.metering := by simp [State.tick]
@[simp] theorem State.tick_trips (s : State) :
    (State.tick s).trips = s.trips := by simp [State.tick]
@[simp] theorem State.tick_statusSeq (s : State) :
    (State.tick s).statusSeq = s.statusSeq := by simp [State.tick]
@[simp] theorem State.tick_pending (s : State) :
    (State.tick s).pending = s.pending := by simp [State.tick]

end Sys2Proof.Machine
end

