-- ==== Sys2Proof/Laws/Canonical.lean ====
section
/-! SUPPORT. Every shared operation keeps the canonical form of the exchange memory. -/

namespace Sys2Proof.Machine

@[simp] theorem Memory.write_wf_eq (m : Memory) (a : Nat) (v : Byte) (hm : m.wf = true) :
    (m.write a v).wf = true := Memory.write_wf a v hm

@[simp] theorem Memory.writeAll_wf_eq (m : Memory) (a : Nat) (vs : List Byte) (hm : m.wf = true) :
    (m.writeAll a vs).wf = true := Memory.writeAll_wf a vs hm

@[simp] theorem State.poke_wf (s : State) (a : Nat) (v : Byte) (h : s.mem.wf = true) :
    (State.poke s a v).mem.wf = true := by simp (maxDischargeDepth := 9) [State.poke, h]

@[simp] theorem State.pokeAll_wf (s : State) (a : Nat) (vs : List Byte) (h : s.mem.wf = true) :
    (State.pokeAll s a vs).mem.wf = true := by simp (maxDischargeDepth := 9) [State.pokeAll, h]

@[simp] theorem State.setSlotState_wf (s : State) (n : SlotNo) (st : SlotState) (h : s.mem.wf = true) :
    (State.setSlotState s n st).mem.wf = true := by simp (maxDischargeDepth := 9) [State.setSlotState, h]

@[simp] theorem State.finish_wf (s : State) (n : SlotNo) (e : Ending) (h : s.mem.wf = true) :
    (State.finish s n e).mem.wf = true := by simp (maxDischargeDepth := 9) [State.finish, h]

@[simp] theorem State.showFlagged_wf (s : State) (h : s.mem.wf = true) :
    (State.showFlagged s).mem.wf = true := by simp (maxDischargeDepth := 9) [State.showFlagged, h]

@[simp] theorem State.journalWrite_wf (s : State) (r : Record) (h : s.mem.wf = true) :
    (State.journalWrite s r).mem.wf = true := by simp (maxDischargeDepth := 9) [State.journalWrite, h]

@[simp] theorem State.placeRecord_wf (s : State) (r : Record) (h : s.mem.wf = true) :
    (State.placeRecord s r).mem.wf = true := by
  simp only [State.placeRecord]
  repeat' split
  all_goals simp (maxDischargeDepth := 9) [h]

@[simp] theorem State.closeIntervalBy_wf (place : State → Record → State) (s : State)
    (cause : CloseCause) (bandEnd : Nat) (adopted : Bool)
    (hp : ∀ (u : State) (r : Record), u.mem.wf = true → (place u r).mem.wf = true)
    (h : s.mem.wf = true) :
    (State.closeIntervalBy place s cause bandEnd adopted).mem.wf = true := by
  unfold State.closeIntervalBy
  split
  · split
    · exact h
    · split
      · exact h
      · exact hp _ _ (by simp [State.beginInterval, h])
  · exact h

@[simp] theorem State.beginHold_wf (s : State) (h : s.mem.wf = true) :
    (State.beginHold s).mem.wf = true :=
  State.closeIntervalBy_wf _ _ _ _ _ (fun u r hu => State.placeRecord_wf u r hu) (by simp (maxDischargeDepth := 9) [h])

@[simp] theorem State.enterRecord_wf (s : State) (r : Record) (h : s.mem.wf = true) :
    (State.enterRecord s r).mem.wf = true := by
  simp only [State.enterRecord]
  repeat' split
  all_goals simp (maxDischargeDepth := 9) [h]

@[simp] theorem State.closeInterval_wf (s : State) (cause : CloseCause) (bandEnd : Nat)
    (adopted : Bool) (h : s.mem.wf = true) :
    (State.closeInterval s cause bandEnd adopted).mem.wf = true :=
  State.closeIntervalBy_wf _ _ _ _ _ (fun u r hu => State.enterRecord_wf u r hu) h

@[simp] theorem State.closeOrphan_wf (s : State) (cause : CloseCause) (bandEnd : Nat) (h : s.mem.wf = true) :
    (State.closeOrphan s cause bandEnd).mem.wf = true := by
  simp only [State.closeOrphan]
  repeat' split
  all_goals simp (maxDischargeDepth := 9) [h]

@[simp] theorem State.record_wf (s : State) (r : Record) (h : s.mem.wf = true) :
    (State.record s r).mem.wf = true := by simp (maxDischargeDepth := 9) [State.record, h]

@[simp] theorem State.clockClose_wf (s : State) (h : s.mem.wf = true) :
    (State.clockClose s).mem.wf = true := by
  unfold State.clockClose
  split <;> simp (maxDischargeDepth := 9) [h]

@[simp] theorem State.applySetClock_wf (s : State) (t : Word) (h : s.mem.wf = true) :
    (State.applySetClock s t).mem.wf = true := by simp (maxDischargeDepth := 9) [State.applySetClock, h]

@[simp] theorem State.takeSetClock_wf (s : State) (t : Word) (h : s.mem.wf = true) :
    (State.takeSetClock s t).2.mem.wf = true := by
  simp only [State.takeSetClock]
  repeat' split
  all_goals simp (maxDischargeDepth := 9) [h]

@[simp] theorem State.orphanMinute_wf (s : State) (m bandBefore : Nat) (h : s.mem.wf = true) :
    (State.orphanMinute s m bandBefore).mem.wf = true := by
  simp only [State.orphanMinute]
  repeat' split
  all_goals simp (maxDischargeDepth := 9) [h]

@[simp] theorem State.minuteStart_wf (s : State) (bandBefore : Nat) (h : s.mem.wf = true) :
    (State.minuteStart s bandBefore).mem.wf = true := by
  simp only [State.minuteStart]
  repeat' split
  all_goals simp (maxDischargeDepth := 9) [h]

@[simp] theorem State.endCharge_wf (s : State) (cause : Byte) (h : s.mem.wf = true) :
    (State.endCharge s cause).mem.wf = true := by
  unfold State.endCharge
  split <;> simp (maxDischargeDepth := 9) [h]

@[simp] theorem State.tripCharge_wf (s : State) (h : s.mem.wf = true) :
    (State.tripCharge s).mem.wf = true := by
  unfold State.tripCharge
  split <;> simp (maxDischargeDepth := 9) [h]

@[simp] theorem State.applyOpenSession_wf (s : State) (id battery heating aux : Word) (h : s.mem.wf = true) :
    (State.applyOpenSession s id battery heating aux).mem.wf = true := by simp (maxDischargeDepth := 9) [State.applyOpenSession, h]

@[simp] theorem State.takeOpenSession_wf (s : State) (id battery heating aux : Word) (h : s.mem.wf = true) :
    (State.takeOpenSession s id battery heating aux).2.mem.wf = true := by
  simp only [State.takeOpenSession]
  repeat' split
  all_goals simp (maxDischargeDepth := 9) [h]

@[simp] theorem State.endClose_wf (s : State) (h : s.mem.wf = true) :
    (State.endClose s).mem.wf = true := by
  simp only [State.endClose]
  repeat' split
  all_goals simp (maxDischargeDepth := 9) [h]

@[simp] theorem State.composeClose_wf (s : State) (slot : Option SlotNo) (ses : Session) (h : s.mem.wf = true) :
    (State.composeClose s slot ses).mem.wf = true := by simp (maxDischargeDepth := 9) [State.composeClose, h]

@[simp] theorem State.completeClose_wf (s : State) (h : s.mem.wf = true) :
    (State.completeClose s).mem.wf = true := by
  simp only [State.completeClose]
  repeat' split
  all_goals simp (maxDischargeDepth := 9) [h]

@[simp] theorem State.continueClose_wf (s : State) (h : s.mem.wf = true) :
    (State.continueClose s).mem.wf = true := by
  simp only [State.continueClose]
  repeat' split
  all_goals simp (maxDischargeDepth := 9) [h]

@[simp] theorem State.beginClose_wf (s : State) (slot : SlotNo) (ses : Session) (h : s.mem.wf = true) :
    (State.beginClose s slot ses).mem.wf = true := by
  simp only [State.beginClose]
  repeat' split
  all_goals simp (maxDischargeDepth := 9) [h]

@[simp] theorem State.takeCloseSession_wf (s : State) (slot : SlotNo) (id : Word) (h : s.mem.wf = true) :
    (State.takeCloseSession s slot id).mem.wf = true := by
  simp only [State.takeCloseSession]
  repeat' split
  all_goals simp (maxDischargeDepth := 9) [h]

@[simp] theorem State.applyCalibrate_wf (s : State) (n : Nat) (old : Channel) (gain : Nat) (offset : Int) (h : s.mem.wf = true) :
    (State.applyCalibrate s n old gain offset).mem.wf = true := by simp (maxDischargeDepth := 9) [State.applyCalibrate, h]

@[simp] theorem State.takeCalibrate_wf (s : State) (channel : Byte) (gain : Word) (offset : Half) (h : s.mem.wf = true) :
    (State.takeCalibrate s channel gain offset).2.mem.wf = true := by
  simp only [State.takeCalibrate]
  repeat' split
  all_goals simp (maxDischargeDepth := 9) [h]

@[simp] theorem State.retestHold_wf (s : State) (h : s.mem.wf = true) :
    (State.retestHold s).mem.wf = true := by
  simp only [State.retestHold]
  repeat' split
  all_goals simp (maxDischargeDepth := 9) [h]

@[simp] theorem State.applyLevels_wf (s : State) (halt resume : Nat) (h : s.mem.wf = true) :
    (State.applyLevels s halt resume).mem.wf = true := by simp (maxDischargeDepth := 9) [State.applyLevels, h]

@[simp] theorem State.takeJournalLevels_wf (s : State) (halt resume : Byte) (h : s.mem.wf = true) :
    (State.takeJournalLevels s halt resume).2.mem.wf = true := by
  simp only [State.takeJournalLevels]
  repeat' split
  all_goals simp (maxDischargeDepth := 9) [h]

@[simp] theorem State.releaseHeld_wf (s : State) (h : s.mem.wf = true) :
    (State.releaseHeld s).mem.wf = true := by
  simp only [State.releaseHeld]
  repeat' split
  all_goals simp (maxDischargeDepth := 9) [h]

@[simp] theorem State.releaseWaiting_wf (s : State) (h : s.mem.wf = true) :
    (State.releaseWaiting s).mem.wf = true := by
  unfold State.releaseWaiting
  split <;> simp (maxDischargeDepth := 9) [h]

@[simp] theorem State.applyMark_wf (s : State) (m : Half) (h : s.mem.wf = true) :
    (State.applyMark s m).mem.wf = true := by simp (maxDischargeDepth := 9) [State.applyMark, h]

@[simp] theorem State.takeMark_wf (s : State) (m : Half) (h : s.mem.wf = true) :
    (State.takeMark s m).mem.wf = true := by
  unfold State.takeMark
  split <;> simp (maxDischargeDepth := 9) [h]

@[simp] theorem State.takeReport_wf (s : State) (r : FrameReport) (h : s.mem.wf = true) :
    (State.takeReport s r).mem.wf = true := by
  unfold State.takeReport
  split <;> simp (maxDischargeDepth := 9) [h]

@[simp] theorem State.endPlan_wf (s : State) (cause : Byte) (h : s.mem.wf = true) :
    (State.endPlan s cause).mem.wf = true := by
  unfold State.endPlan
  split <;> simp (maxDischargeDepth := 9) [h]

@[simp] theorem State.tripPlan_wf (s : State) (h : s.mem.wf = true) :
    (State.tripPlan s).mem.wf = true := by
  unfold State.tripPlan
  split <;> simp (maxDischargeDepth := 9) [h]

@[simp] theorem State.testSensorLoss_wf (s : State) (h : s.mem.wf = true) :
    (State.testSensorLoss s).mem.wf = true := by
  simp only [State.testSensorLoss]
  repeat' split
  all_goals simp (maxDischargeDepth := 9) [h]

@[simp] theorem State.takeHeat_wf (s : State) (slot : SlotNo) (target band hysteresis pMax : Half) (source policy mode : Byte) (h : s.mem.wf = true) :
    (State.takeHeat s slot target band hysteresis pMax source policy mode).mem.wf = true := by
  simp only [State.takeHeat]
  repeat' split
  all_goals simp (maxDischargeDepth := 9) [h]

@[simp] theorem State.takeSetSensors_wf (s : State) (mask : Byte) (packCap plateLimit : Half) (h : s.mem.wf = true) :
    (State.takeSetSensors s mask packCap plateLimit).2.mem.wf = true := by simp (maxDischargeDepth := 9) [State.takeSetSensors, h]

@[simp] theorem State.tripEffects_wf (s : State) (k : TripKind) (h : s.mem.wf = true) :
    (State.tripEffects s k).mem.wf = true := by simp (maxDischargeDepth := 9) [State.tripEffects, h]

@[simp] theorem State.tripReport_wf (s : State) (k : TripKind) (h : s.mem.wf = true) :
    (State.tripReport s k).mem.wf = true := by
  unfold State.tripReport
  split <;> simp (maxDischargeDepth := 9) [h]

@[simp] theorem State.contactLost_wf (s : State) (h : s.mem.wf = true) :
    (State.contactLost s).mem.wf = true := by simp (maxDischargeDepth := 9) [State.contactLost, h]

@[simp] theorem State.infbOpen_wf (s : State) (h : s.mem.wf = true) :
    (State.infbOpen s).mem.wf = true := by
  unfold State.infbOpen
  split <;> simp (maxDischargeDepth := 9) [h]

@[simp] theorem State.closeTimedOut_wf (s : State) (h : s.mem.wf = true) :
    (State.closeTimedOut s).mem.wf = true := by
  simp only [State.closeTimedOut]
  repeat' split
  all_goals simp (maxDischargeDepth := 9) [h]

@[simp] theorem State.weld_wf (s : State) (h : s.mem.wf = true) :
    (State.weld s).mem.wf = true := by simp (maxDischargeDepth := 9) [State.weld, h]

@[simp] theorem State.releaseTimedOut_wf (s : State) (h : s.mem.wf = true) :
    (State.releaseTimedOut s).mem.wf = true := by
  unfold State.releaseTimedOut
  split <;> simp (maxDischargeDepth := 9) [h]

@[simp] theorem State.tripIf_wf (s : State) (c : Bool) (k : TripKind) (h : s.mem.wf = true) :
    (State.tripIf s c k).mem.wf = true := by
  unfold State.tripIf
  split <;> simp (maxDischargeDepth := 9) [h]

@[simp] theorem State.stepCounts_wf (s : State) (h : s.mem.wf = true) :
    (State.stepCounts s).mem.wf = true := by simp (maxDischargeDepth := 9) [State.stepCounts, h]

@[simp] theorem State.stepPlan_wf (s : State) (h : s.mem.wf = true) :
    (State.stepPlan s).mem.wf = true := by
  simp only [State.stepPlan]
  repeat' split
  all_goals simp (maxDischargeDepth := 9) [h]

@[simp] theorem State.takeCharge_wf (s : State) (slot : SlotNo) (maxCurrent vLim endCurrent : Half) (h : s.mem.wf = true) :
    (State.takeCharge s slot maxCurrent vLim endCurrent).mem.wf = true := by
  simp only [State.takeCharge]
  repeat' split
  all_goals simp (maxDischargeDepth := 9) [h]

@[simp] theorem State.periodReports_wf (s : State) (full overvoltage : Bool) (h : s.mem.wf = true) :
    (State.periodReports s full overvoltage).mem.wf = true := by
  unfold State.periodReports
  split <;> simp (maxDischargeDepth := 9) [h]

@[simp] theorem State.endCheck_wf (s : State) (e : Ending) (h : s.mem.wf = true) :
    (State.endCheck s e).mem.wf = true := by
  unfold State.endCheck
  split <;> simp (maxDischargeDepth := 9) [h]

@[simp] theorem State.enterIdle_wf (s : State) (h : s.mem.wf = true) :
    (State.enterIdle s).mem.wf = true := by simp (maxDischargeDepth := 9) [State.enterIdle, h]

@[simp] theorem State.reportFault_wf (s : State) (before after : Condition) (h : s.mem.wf = true) :
    (State.reportFault s before after).mem.wf = true := by simp (maxDischargeDepth := 9) [State.reportFault, h]

@[simp] theorem State.validResult_wf (s : State) (stretch : Nat) (delta : Int) (h : s.mem.wf = true) :
    (State.validResult s stretch delta).mem.wf = true := by simp (maxDischargeDepth := 9) [State.validResult, h]

@[simp] theorem State.validHalf_wf (s : State) (h : HalfPeriod) (u : Int) (hs : s.mem.wf = true) :
    (State.validHalf s h u).mem.wf = true := by
  simp only [State.validHalf]
  repeat' split
  all_goals simp [hs]

@[simp] theorem State.endHalf_wf (s : State) (u : Int) (h : s.mem.wf = true) :
    (State.endHalf s u).mem.wf = true := by
  unfold State.endHalf
  repeat' split
  all_goals simp [h]

@[simp] theorem State.takeCheck_wf (s : State) (slot : SlotNo) (h : s.mem.wf = true) :
    (State.takeCheck s slot).mem.wf = true := by
  unfold State.takeCheck
  split <;> simp (maxDischargeDepth := 9) [h]

@[simp] theorem State.answer_wf (n : SlotNo) (r : Ending × State) (h : r.2.mem.wf = true) :
    (State.answer n r).mem.wf = true := by simp (maxDischargeDepth := 9) [State.answer, h]

@[simp] theorem State.takeOwned_wf (s : State) (n : SlotNo) (o : Order) (h : s.mem.wf = true) :
    (State.takeOwned s n o).mem.wf = true := by cases o <;> simp (maxDischargeDepth := 9) [State.takeOwned, h]

@[simp] theorem State.takeHead_wf (s : State) (b : Block) (n : SlotNo) (rest : List SlotNo) (h : s.mem.wf = true) :
    (State.takeHead s b n rest).mem.wf = true := by
  unfold State.takeHead
  split <;> simp (maxDischargeDepth := 9) [h]

@[simp] theorem State.drainUpTo_wf (b : Block) (fuel : Nat) (s : State)
    (h : s.mem.wf = true) : (State.drainUpTo b fuel s).mem.wf = true := by
  induction fuel generalizing s with
  | zero => exact h
  | succ n ih =>
    simp only [State.drainUpTo]
    repeat' split
    all_goals simp (maxDischargeDepth := 9) [ih, h]

@[simp] theorem State.drain_wf (s : State) (b : Block) (h : s.mem.wf = true) :
    (State.drain s b).mem.wf = true := by simp (maxDischargeDepth := 9) [State.drain, h]

@[simp] theorem State.afterClose_wf (s : State) (before : Billing) (h : s.mem.wf = true) :
    (State.afterClose s before).mem.wf = true := by
  unfold State.afterClose
  split <;> simp (maxDischargeDepth := 9) [h]

@[simp] theorem State.afterCheck_wf (s : State) (before : Insulation) (h : s.mem.wf = true) :
    (State.afterCheck s before).mem.wf = true := by
  unfold State.afterCheck
  split <;> simp (maxDischargeDepth := 9) [h]

@[simp] theorem State.withdrawCharge_wf (s : State) (n : SlotNo) (h : s.mem.wf = true) :
    (State.withdrawCharge s n).mem.wf = true := by
  unfold State.withdrawCharge
  split <;> simp (maxDischargeDepth := 9) [h]

@[simp] theorem State.withdrawHeat_wf (s : State) (n : SlotNo) (h : s.mem.wf = true) :
    (State.withdrawHeat s n).mem.wf = true := by
  unfold State.withdrawHeat
  split <;> simp (maxDischargeDepth := 9) [h]

@[simp] theorem State.withdrawCheck_wf (s : State) (h : s.mem.wf = true) :
    (State.withdrawCheck s).mem.wf = true := by simp (maxDischargeDepth := 9) [State.withdrawCheck, h]

@[simp] theorem State.withdrawRunning_wf (s : State) (n : SlotNo) (o : Order)
    (h : s.mem.wf = true) : (State.withdrawRunning s n o).2.mem.wf = true := by
  cases o <;> simp (maxDischargeDepth := 9) [State.withdrawRunning, h]

@[simp] theorem State.withdrawTarget_wf (s : State) (t : SlotNo) (h : s.mem.wf = true) :
    (State.withdrawTarget s t).2.mem.wf = true := by
  unfold State.withdrawTarget
  split <;> simp (maxDischargeDepth := 9) [h]

@[simp] theorem State.takeWithdraw_wf (s : State) (own : SlotNo) (target : Byte) (h : s.mem.wf = true) :
    (State.takeWithdraw s own target).mem.wf = true := by
  simp only [State.takeWithdraw]
  repeat' split
  all_goals simp (maxDischargeDepth := 9) [h]

@[simp] theorem State.takeOrder_wf (s : State) (n : SlotNo) (o : Order) (h : s.mem.wf = true) :
    (State.takeOrder s n o).mem.wf = true := by
  unfold State.takeOrder
  split <;> simp (maxDischargeDepth := 9) [h]

@[simp] theorem State.enqueue_wf (s : State) (b : Block) (n : SlotNo) (h : s.mem.wf = true) :
    (State.enqueue s b n).mem.wf = true := by simp (maxDischargeDepth := 9) [State.enqueue, h]

@[simp] theorem State.routeOrder_wf (s : State) (n : SlotNo) (o : Order) (h : s.mem.wf = true) :
    (State.routeOrder s n o).mem.wf = true := by
  simp only [State.routeOrder]
  repeat' split
  all_goals simp (maxDischargeDepth := 9) [h]

@[simp] theorem State.copyPost_wf (s : State) (n : SlotNo) (p : Posted) (h : s.mem.wf = true) :
    (State.copyPost s n p).mem.wf = true := by simp (maxDischargeDepth := 9) [State.copyPost, h]

@[simp] theorem State.acceptPost_wf (s : State) (n : SlotNo) (p : Posted) (h : s.mem.wf = true) :
    (State.acceptPost s n p).mem.wf = true := by simp (maxDischargeDepth := 9) [State.acceptPost, h]

@[simp] theorem State.acceptFree_wf (s : State) (n : SlotNo) (h : s.mem.wf = true) :
    (State.acceptFree s n).mem.wf = true := by simp (maxDischargeDepth := 9) [State.acceptFree, h]

@[simp] theorem State.holdWrite_wf (s : State) (n : SlotNo) (h : s.mem.wf = true) :
    (State.holdWrite s n).mem.wf = true := by simp (maxDischargeDepth := 9) [State.holdWrite, h]

@[simp] theorem State.judge_wf (s : State) (n : SlotNo) (value : Byte) (h : s.mem.wf = true) :
    (State.judge s n value).mem.wf = true := by
  simp only [State.judge]
  repeat' split
  all_goals simp (maxDischargeDepth := 9) [h]

@[simp] theorem State.takeNotice_wf (s : State) (h : s.mem.wf = true) :
    (State.takeNotice s).mem.wf = true := by
  unfold State.takeNotice
  split <;> simp (maxDischargeDepth := 9) [h]

@[simp] theorem State.post_wf (s : State) (n : SlotNo) (tag : Half) (o : Order) (h : s.mem.wf = true) :
    (State.post s n tag o).mem.wf = true := by
  unfold State.post
  split <;> simp (maxDischargeDepth := 9) [h]

@[simp] theorem State.pkonDrops_wf (s : State) (h : s.mem.wf = true) :
    (State.pkonDrops s).mem.wf = true := by simp (maxDischargeDepth := 9) [State.pkonDrops, h]

@[simp] theorem State.timeoutCheck_wf (s : State) (h : s.mem.wf = true) :
    (State.timeoutCheck s).mem.wf = true := by simp (maxDischargeDepth := 9) [State.timeoutCheck, h]

@[simp] theorem State.storeByte_wf (s : State) (a : Nat) (b : Byte) (h : s.mem.wf = true) :
    (State.storeByte s a b).mem.wf = true := by
  unfold State.storeByte
  split <;> simp (maxDischargeDepth := 9) [h]

@[simp] theorem State.markLow_wf (s : State) (b : Byte) (h : s.mem.wf = true) :
    (State.markLow s b).mem.wf = true := by simp (maxDischargeDepth := 9) [State.markLow, h]

@[simp] theorem State.windowEffect_wf (s : State) (a : Nat) (b : Byte) (h : s.mem.wf = true) :
    (State.windowEffect s a b).mem.wf = true := by
  simp only [State.windowEffect]
  repeat' split
  all_goals simp (maxDischargeDepth := 9) [h]

@[simp] theorem State.windowByte_wf (s : State) (b : Byte) (h : s.mem.wf = true) :
    (State.windowByte s b).mem.wf = true := by
  unfold State.windowByte
  split <;> simp (maxDischargeDepth := 9) [h]

@[simp] theorem State.takeNotices_wf (n : Nat) (s : State) (h : s.mem.wf = true) :
    (State.takeNotices n s).mem.wf = true := by
  induction n generalizing s with
  | zero => exact h
  | succ n ih => exact ih _ (by simp (maxDischargeDepth := 9) [h])

@[simp] theorem State.clearSlot_wf (s : State) (n : SlotNo) (h : s.mem.wf = true) :
    (State.clearSlot s n).mem.wf = true := by simp (maxDischargeDepth := 9) [State.clearSlot, h]

theorem State.clearSlots_wf (l : List SlotNo) (s : State) (h : s.mem.wf = true) :
    (l.foldl State.clearSlot s).mem.wf = true := by
  induction l generalizing s with
  | nil => exact h
  | cons n l ih => exact ih _ (by simp (maxDischargeDepth := 9) [h])

@[simp] theorem State.resetOrders_wf (s : State) (h : s.mem.wf = true) :
    (State.resetOrders s).mem.wf = true := by
  exact State.clearSlots_wf _ _ (by simp (maxDischargeDepth := 9) [h])

@[simp] theorem State.linkReset_wf (s : State) (h : s.mem.wf = true) :
    (State.linkReset s).mem.wf = true := by simp (maxDischargeDepth := 9) [State.linkReset, h]

@[simp] theorem State.writeCopy_wf (s : State) (base : Nat) (index : Byte) (seq : Word) (h : s.mem.wf = true) :
    (State.writeCopy s base index seq).mem.wf = true := by simp (maxDischargeDepth := 9) [State.writeCopy, h]

@[simp] theorem State.powerOn_wf (s : State) (levels : Pins) :
    (State.powerOn s levels).mem.wf = true := by
  have h : State.reset.mem.wf = true := resetMemory_wf
  simp only [State.powerOn]
  exact State.tripIf_wf _ _ _ (by simp (maxDischargeDepth := 9) [h])

end Sys2Proof.Machine
end

