-- ==== Sys2Proof/Laws/Ops.lean ====
section
/-! SUPPORT. What each shared operation does, said once: the pending set, the slots and their
results, the drives at a gate failure, the trip set, and where a record goes. -/

namespace Sys2Proof.Machine

/-! ## Attention -/

@[simp] theorem Attention.has_put_same (a : Attention) (c : Cause) (b : Bool) :
    (a.put c b).has c = b := by cases c <;> rfl

theorem Attention.has_put_other (a : Attention) {c d : Cause} (b : Bool) (h : d ≠ c) :
    (a.put c b).has d = a.has d := by
  cases c <;> cases d <;> first | rfl | exact absurd rfl h

@[simp] theorem Attention.put_mask (a : Attention) (c : Cause) (b : Bool) :
    (a.put c b).mask = a.mask := by cases c <;> rfl

@[simp] theorem State.raise_attn (s : State) (c : Cause) : (s.raise c).attn = s.attn.put c true := rfl

@[simp] theorem State.clear_attn (s : State) (c : Cause) : (s.clear c).attn = s.attn.put c false := rfl

/-! ## Memory of a state -/

@[simp] theorem State.poke_mem (s : State) (a : Nat) (v : Byte) :
    (s.poke a v).mem = s.mem.write a v := rfl

@[simp] theorem State.pokeAll_mem (s : State) (a : Nat) (vs : List Byte) :
    (s.pokeAll a vs).mem = s.mem.writeAll a vs := rfl

/-! ## Byte lists -/

@[simp] theorem length_beBytes (k n : Nat) : (beBytes k n).length = k := by
  induction k generalizing n with
  | zero => rfl
  | succ k ih => simp [beBytes, ih]

@[simp] theorem length_padTo (n : Nat) (l : List Byte) : (padTo n l).length = n := by
  induction n generalizing l with
  | zero => rfl
  | succ n ih => cases l <;> simp [padTo, ih]

@[simp] theorem length_resultBytes (tag : Half) (e : Ending) : (resultBytes tag e).length = 32 := by
  simp [resultBytes]

@[simp] theorem length_record_bytes (r : Record) : r.bytes.length = 64 := by simp [Record.bytes]

@[simp] theorem length_statusBody (s : State) : s.statusBody.length = 248 := by
  simp [State.statusBody]

/-! ## Slots -/

/-- A slot's bytes lie between 0040h and 0440h (R1). -/
theorem slotAddr_bounds (n : SlotNo) : 0x40 ≤ slotAddr n ∧ slotAddr n + 64 ≤ 0x440 := by
  have := n.isLt
  simp only [slotAddr, Config.slotBase, Config.slotSize]
  omega

@[simp] theorem State.slot_setSlot_same (s : State) (n : SlotNo) (r : Slot) :
    (s.setSlot n r).slot n = r := by simp [State.slot, State.setSlot]

theorem State.slot_setSlot_other (s : State) {n k : SlotNo} (r : Slot) (h : k ≠ n) :
    (s.setSlot n r).slot k = s.slot k := by
  have : (n : Nat) ≠ (k : Nat) := fun e => h (Fin.ext e.symm)
  simp [State.slot, State.setSlot, this]

/-- A slot is read from the order engine's record alone. -/
theorem State.slot_congr {s t : State} (h : t.orders = s.orders) (k : SlotNo) :
    t.slot k = s.slot k := by simp [State.slot, h]

@[simp] theorem State.slot_setSlotState_same (s : State) (n : SlotNo) (st : SlotState) :
    (s.setSlotState n st).slot n = { s.slot n with state := st } := by
  rw [State.setSlotState, State.slot_congr (State.poke_orders _ _ _), State.slot_setSlot_same]

theorem State.slot_setSlotState_other (s : State) {n k : SlotNo} (st : SlotState) (h : k ≠ n) :
    (s.setSlotState n st).slot k = s.slot k := by
  rw [State.setSlotState, State.slot_congr (State.poke_orders _ _ _),
    State.slot_setSlot_other s _ h]

@[simp] theorem State.setSlotState_mem (s : State) (n : SlotNo) (st : SlotState) :
    (s.setSlotState n st).mem = s.mem.write (slotAddr n) st.code := rfl

/-! ## The end of an order (R35) -/

/-- An order's end leaves its slot DONE with its copy. -/
@[simp] theorem State.slot_finish_same (s : State) (n : SlotNo) (e : Ending) :
    (s.finish n e).slot n = { s.slot n with state := .done } := by
  rw [State.finish, State.slot_congr (State.raise_orders _ _), State.slot_setSlotState_same,
    State.slot_congr (State.pokeAll_orders _ _ _)]

/-- An order's end leaves every other slot's record as it was. -/
theorem State.slot_finish_other (s : State) {n k : SlotNo} (e : Ending) (h : k ≠ n) :
    (s.finish n e).slot k = s.slot k := by
  rw [State.finish, State.slot_congr (State.raise_orders _ _), State.slot_setSlotState_other _ _ h,
    State.slot_congr (State.pokeAll_orders _ _ _)]

/-- The memory after an order's end: the result bytes, then byte 0. -/
theorem State.finish_mem (s : State) (n : SlotNo) (e : Ending) :
    (s.finish n e).mem =
      (s.mem.writeAll (slotAddr n + 32) (resultBytes (s.slot n).tag e)).write (slotAddr n) 0x04 :=
  rfl

/-- After an order's end its result stands in bytes 32 to 63 of the slot. -/
theorem State.finish_result (s : State) (n : SlotNo) (e : Ending) (h : s.mem.wf = true) :
    (s.finish n e).mem.readAll (slotAddr n + 32) 32 = resultBytes (s.slot n).tag e := by
  have hb := slotAddr_bounds n
  rw [State.finish_mem, Memory.readAll_write_other _ _ _ _ _ (Or.inr (by omega))]
  have := Memory.readAll_writeAll (slotAddr n + 32) (resultBytes (s.slot n).tag e) h
    (by simp only [length_resultBytes, Config.memSize]; omega)
  simpa using this

/-- After an order's end byte 0 of the slot reads 04h. -/
theorem State.finish_state (s : State) (n : SlotNo) (e : Ending) (h : s.mem.wf = true) :
    (s.finish n e).mem.read (slotAddr n) = 0x04 := by
  have hb := slotAddr_bounds n
  rw [State.finish_mem]
  exact Memory.read_write_same _ (by simp [h]) (by simp only [Config.memSize]; omega)

/-- An order's end changes only byte 0 and bytes 32 to 63 of its slot. -/
theorem State.finish_read_other (s : State) (n : SlotNo) (e : Ending) {a : Nat}
    (h : ¬engineBytes n a) : (s.finish n e).mem.read a = s.mem.read a := by
  simp only [engineBytes, not_or, not_and] at h
  rw [State.finish_mem, Memory.read_write_other _ _ h.1,
    Memory.read_writeAll_other _ _ _ (by simp only [length_resultBytes]; omega)]

/-- An order's end raises ORDER_DONE and no other cause. -/
@[simp] theorem State.finish_attn (s : State) (n : SlotNo) (e : Ending) :
    (s.finish n e).attn = s.attn.put .orderDone true := by simp [State.finish]

/-! ## Drives (R112, R117, R120) -/

@[simp] theorem State.setDemand_power (s : State) (d : Nat) :
    (s.setDemand d).power = { s.power with iDem := d } := by simp [State.setDemand]

@[simp] theorem State.setDuty_power (s : State) (d : Nat) :
    (s.setDuty d).power = { s.power with duty := d } := by simp [State.setDuty]

/-- Withdrawing the need changes nothing else of the power manager. -/
@[simp] theorem State.withdrawNeed_power (s : State) :
    s.withdrawNeed.power = { s.power with need := false } := by
  unfold State.withdrawNeed
  split
  · simp only
    split <;> simp
  · rename_i h
    cases hp : s.power with
    | mk => simp_all

/-- A gate failure (R112): no demand, no need, CHARGE GATED, no supply-fed power, and the duty cut
to what the pack-fed power asks for. -/
theorem State.failGate_power (s : State) :
    s.failGate.power =
      { s.power.gateCharge with
        iDem := 0
        need := false
        supplyFed := 0
        duty := min s.power.duty (dutyFor s.power.stage.rH s.power.lastV s.power.packFed) } := by
  simp [State.failGate, Power.gateCharge]

/-- A gate failure leaves the relay in its state. -/
@[simp] theorem State.failGate_relay_state (s : State) :
    s.failGate.relay.state = s.relay.state := by
  simp only [State.failGate, State.setDuty_relay, State.withPower_relay, State.withdrawNeed]
  split
  · split <;> simp_all [State.setRelay]
  · simp

/-- A trip's first effect (R179): no demand, no duty, no heater power. -/
@[simp] theorem State.tripDrives_power (s : State) :
    s.tripDrives.power = { s.power with iDem := 0, duty := 0, supplyFed := 0, packFed := 0 } := by
  simp [State.tripDrives]

/-! ## Trips (R178) -/

@[simp] theorem TripSet.has_add_same (t : TripSet) (k : TripKind) : (t.add k).has k = true := by
  cases k <;> rfl

theorem TripSet.has_add_other (t : TripSet) {j k : TripKind} (h : j ≠ k) :
    (t.add k).has j = t.has j := by
  cases j <;> cases k <;> first | rfl | exact absurd rfl h

/-- A report of a kind already latched changes nothing (R178). -/
theorem State.tripReport_again (s : State) (k : TripKind) (h : s.trips.set.has k = true) :
    s.tripReport k = s := by simp [State.tripReport, h]

/-- After a trip report the set holds the kind, and every kind it held before (R178). -/
theorem State.tripReport_set (s : State) (k : TripKind) :
    (s.tripReport k).trips.set = if s.trips.set.has k then s.trips.set else s.trips.set.add k := by
  unfold State.tripReport
  split
  · rfl
  · simp only [State.weldPasses_trips, State.tripEffects_trips, State.latchTrip]
    split <;> simp

/-! ## Records (R92, R93) -/

@[simp] theorem State.compose_billing (s : State) (r : Record) :
    (s.compose r).2.billing =
      { s.billing with nextSeq := s.billing.nextSeq + 1, journalMeter := r.meterEnd } := rfl

@[simp] theorem State.compose_record (s : State) (r : Record) :
    (s.compose r).1 = { r with seq := s.billing.nextSeq } := rfl

/-- A journal write (R93): W advances and the mark of a flagged record is kept. -/
theorem State.journalWrite_billing (s : State) (r : Record) :
    (s.journalWrite r).billing =
      { s.billing with
        w := s.billing.w + 1
        flaggedMark := if r.flags.flagged then some s.billing.w else s.billing.flaggedMark } := by
  simp [State.journalWrite]

/-- Where a composed record goes (R93, R101, R102). -/
theorem State.placeRecord_cases (s : State) (r : Record) :
    (s.billing.fill < 128 ∧ s.placeRecord r = s.journalWrite r)
      ∨ (¬s.billing.fill < 128 ∧ s.billing.held = none
          ∧ s.placeRecord r = (s.withBilling { s.billing with held := some r }).poke 0x000B 1)
      ∨ (¬s.billing.fill < 128 ∧ s.billing.held.isSome
          ∧ s.placeRecord r = s.withBilling { s.billing with waiting := some r }) := by
  by_cases h : s.billing.fill < 128
  · exact .inl ⟨h, by simp [State.placeRecord, Config.journalSlots, h]⟩
  · cases hh : s.billing.held with
    | none =>
      exact .inr (.inl ⟨h, rfl, by
        simp only [State.placeRecord, Config.journalSlots, h, if_false, hh]; rfl⟩)
    | some x =>
      exact .inr (.inr ⟨h, rfl, by
        simp only [State.placeRecord, Config.journalSlots, h, if_false, hh]⟩)

/-! ## Counts that have reached their limits (log entry 2) -/

/-- The half-period of a keepalive is due exactly at half its period, unless reported (R106). -/
theorem Power.halfDue_iff (p : Power) :
    p.halfDue = true ↔ ∃ count, p.keepalive = .alive count false ∧ 5 * p.period ≤ count := by
  unfold Power.halfDue
  split <;> simp_all

/-- A keepalive's expiry is due exactly at its period (R106). -/
theorem Power.expiryDue_iff (p : Power) :
    p.expiryDue = true ↔ ∃ count half, p.keepalive = .alive count half ∧ 10 * p.period ≤ count := by
  unfold Power.expiryDue
  split <;> simp_all

/-- A relay timer has expired exactly when it runs in its state and has reached its limit. -/
theorem Relay.expired_iff (r : Relay) (st : RelayState) (limit : Nat) :
    r.expired st limit = true ↔ r.state = st ∧ ∃ t, r.timer = some t ∧ limit ≤ t := by
  cases h : r.timer <;> simp [Relay.expired, h]

/-- Freshness is at the window exactly when it stands and the age has reached it (R162). -/
theorem Insulation.atWindow_iff (i : Insulation) :
    i.atWindow = true ↔ i.fresh = true ∧ ∃ l, i.last = some l ∧ 10 * i.settings.window ≤ l.age := by
  unfold Insulation.atWindow
  split <;> simp_all

/-- A check is due exactly when it runs and has run for 60 s (R165). -/
theorem Insulation.checkDue_iff (i : Insulation) :
    i.checkDue = true ↔ ∃ c, i.check = some c ∧ 600 ≤ c.timer := by
  unfold Insulation.checkDue
  split <;> simp_all

/-! ## WITHDRAW of a running standing order (log entry 11) -/

@[simp] theorem withdrawnStanding_outcome (code : Byte) (clamped : Bool) (fields : List Byte) :
    (withdrawnStanding code clamped fields).outcome = .withdrawn := rfl
@[simp] theorem withdrawnStanding_note (code : Byte) (clamped : Bool) (fields : List Byte) :
    (withdrawnStanding code clamped fields).note = clampedNote clamped := rfl

/-- Whatever the free value is, the result is that of R127 and R146 or that of R38. -/
theorem withdrawnStanding_cases (code : Byte) (clamped : Bool) (fields : List Byte) :
    withdrawnStanding code clamped fields = ⟨.withdrawn, clampedNote clamped, fields⟩
      ∨ withdrawnStanding code clamped fields = withdrawnEnding (clampedNote clamped) := by
  unfold withdrawnStanding withdrawnEnding
  split <;> simp

/-! ## Metering (R53) -/

/-- The floors of R53 never exceed what is apportioned. -/
theorem floorShares_total_le (eIn : Nat) (w : PerCat Nat) :
    (floorShares eIn w).total ≤ eIn := by
  have h : eIn * w.battery / w.total + eIn * w.heating / w.total + eIn * w.aux / w.total
      ≤ eIn * w.total / w.total := by
    have e : eIn * w.total = eIn * w.battery + eIn * w.heating + eIn * w.aux := by
      simp [PerCat.total, Nat.mul_add]
    rw [e]
    exact le_trans (Nat.add_le_add_right Nat.div_add_div_le_add_div _)
      Nat.div_add_div_le_add_div
  exact h.trans (by
    rcases Nat.eq_zero_or_pos w.total with h0 | h0
    · simp [h0]
    · rw [Nat.mul_div_cancel _ h0])

end Sys2Proof.Machine
end

