-- ==== Sys2Proof/Tests/Slice0.lean ====
section
/-!
SUPPORT. Tests: ill-formed commands refused, the spec's worked figures on one command each, and
for every statement with hypotheses a state and operands that meet them, clause by clause.
-/

namespace Sys2Proof.Tests

set_option Elab.async false

open Sys2Proof Sys2Proof.Machine

/-! ## Helpers -/

/-- The state a command leaves. -/
def after (c : Instr) (s : State) : State :=
  match exec c s with
  | .next t => t
  | _ => s

/-- The power-on state with a billing unit of its own. -/
def billed (b : Billing) : State := State.reset.withBilling b

/-- The power-on state with the link port in a WINDOW write at an address. -/
def window (a : Nat) : State :=
  State.reset.withLink { Link.reset with
    phase := .transfer .write .window 0, pointer := BitVec.ofNat 14 a }

/-- The power-on state with the link port in a phase. -/
def linked (p : LinkPhase) : State := State.reset.withLink { Link.reset with phase := p }

/-- A frame of quiet channels at 4 000 dV. -/
def frame (inlet : Int) : Frame :=
  ⟨⟨inlet, false⟩, ⟨0, false⟩, ⟨0, false⟩, ⟨0, false⟩, [⟨2301, 162⟩, ⟨2288, 160⟩, ⟨2315, 161⟩],
    4000, 215⟩

/-- A state with an order in a slot, and byte 0 showing the slot's state. -/
def placed (s : State) (n : SlotNo) (st : SlotState) (p : Posted) : State :=
  (s.setSlot n ⟨st, some p⟩).poke (slotAddr n) st.code

/-- What `OrdersShow` asks of a state, over the finite ranges of its clauses. -/
theorem ordersShow_of (s : State)
    (h : s.mem.wf = true ∧ (s.link.phase = .idle → s.link.slotWrites = [])
      ∧ (∀ b ∈ [Block.general, .billing, .power, .heating, .insulation],
          (s.queue b).Nodup ∧ (s.queue b ≠ [] → s.occupied b = true)
            ∧ ∀ n ∈ s.queue b, (s.slot n).state = .waiting
              ∧ ((s.slot n).posted.bind fun p => orderBlock p.order) = some b)
      ∧ (∀ n : SlotNo, (s.slot n).state = .waiting →
          ∃ b ∈ [Block.general, .billing, .power, .heating, .insulation], n ∈ s.queue b)
      ∧ (∀ w ∈ [Runner.charge, .heat, .check, .close], ∀ n : SlotNo,
          s.runningSlot w = some n ↔ (s.slot n).state = .running
            ∧ ((s.slot n).posted.bind fun p => orderRunner p.order) = some w)
      ∧ (∀ n : SlotNo, (s.slot n).state = .running →
          ∃ w ∈ [Runner.charge, .heat, .check, .close], s.runningSlot w = some n)
      ∧ (∀ n : SlotNo, ((s.slot n).state = .free ↔ (s.slot n).posted = none)
          ∧ (s.slot n).state ≠ .posted)
      ∧ ∀ n : SlotNo, (n ∈ s.orders.notices.map (·.1) ∨ n ∈ s.link.slotWrites.map (·.1))
          ∨ s.mem.read (slotAddr n) = (s.slot n).state.code) : OrdersShow s := by
  obtain ⟨hm, hl, hq, hw, hr, hs, hf, hb⟩ := h
  refine ⟨hm, hl, fun b => ?_, fun n hn => ?_, fun w n => ?_, fun n hn => ?_, hf, hb⟩
  · simpa [Option.bind_eq_some_iff] using hq b (by cases b <;> decide)
  · exact (hw n hn).imp fun _ x => x.2
  · simpa [Option.bind_eq_some_iff] using hr w (by cases w <;> decide) n
  · exact (hs n hn).imp fun _ x => x.2

/-! ## Well-formed commands -/

theorem test_wf_frame : (Instr.meteringFrame (frame 8388607)).wf = true := by decide
theorem test_wf_inlet_high : (Instr.meteringFrame (frame 8388608)).wf = false := by decide
theorem test_wf_inlet_low : (Instr.meteringFrame (frame (-8388608))).wf = false := by decide
theorem test_wf_pack : (Instr.meteringFrame { frame 0 with pack := ⟨8388608, false⟩ }).wf = false := by
  decide
theorem test_wf_heater :
    (Instr.meteringFrame { frame 0 with heater := ⟨8388608, false⟩ }).wf = false := by decide
theorem test_wf_aux : (Instr.meteringFrame { frame 0 with aux := ⟨8388608, false⟩ }).wf = false := by
  decide
theorem test_wf_phase_voltage :
    (Instr.meteringFrame { frame 0 with phases := [⟨3001, 0⟩] }).wf = false := by decide
theorem test_wf_phase_current :
    (Instr.meteringFrame { frame 0 with phases := [⟨0, 801⟩] }).wf = false := by decide
theorem test_wf_pack_voltage_low :
    (Instr.meteringFrame { frame 0 with packVoltage := -1 }).wf = false := by decide
theorem test_wf_pack_voltage_high :
    (Instr.meteringFrame { frame 0 with packVoltage := 9001 }).wf = false := by decide
theorem test_wf_pack_current_low :
    (Instr.meteringFrame { frame 0 with packCurrent := -10001 }).wf = false := by decide
theorem test_wf_pack_current_high :
    (Instr.meteringFrame { frame 0 with packCurrent := 10001 }).wf = false := by decide
theorem test_wf_start : (Instr.startByteRejected 0xB8).wf = true := by decide
theorem test_wf_start_accepted : (Instr.startByteRejected 0xB7).wf = false := by decide
theorem test_wf_half_high : (Instr.halfPeriodEnd 20001).wf = false := by decide
theorem test_wf_half_low : (Instr.halfPeriodEnd (-20001)).wf = false := by decide
theorem test_wf_half : (Instr.halfPeriodEnd (-20000)).wf = true := by decide

/-! ## Decoders -/

theorem test_no_word_is_a_command : decodeTableWord 16 0xB1B1 = none := by decide
theorem test_start_bytes : decodeStart 0xB1 = some (.write, .window)
    ∧ decodeStart 0xB6 = some (.read, .cause) ∧ decodeStart 0xA9 = none := by decide

/-- HEAT's parameters at bytes 4 to 14 (11_formats): −5.0 °C, band 10.0, hysteresis 2.0, 3 000 W. -/
theorem test_decode_heat :
    decodeOrder 0x30 [0xFF, 0xCE, 0, 100, 0, 20, 0x0B, 0xB8, 1, 0, 1] =
      .heat 0xFFCE 100 20 3000 1 0 1 := by decide
theorem test_decode_calibrate :
    decodeOrder 0x14 [3, 0, 1, 0, 1, 0xFF, 0xFF] = .calibrateMeter 3 65537 0xFFFF := by decide
theorem test_decode_unknown : decodeOrder 0x23 [] = .unknown 0x23 := by decide

/-! ## Link port (01) -/

/-- The example of a write that crosses a part-owned area: byte 1, at 003Eh. -/
theorem test_window_drop :
    let t := after (.windowWrite 0x55) (window 0x003E)
    t.mem.read 0x003E = 0 ∧ t.attn.writeRefused = true ∧ t.link.pointer = 0x003F := by
  decide +kernel
/-- Byte 3 of the example, at 0040h: stored and recorded. -/
theorem test_slot_state_write :
    let t := after (.slotStateWrite 0x01) (window 0x0040)
    t.mem.read 0x0040 = 0x01 ∧ t.link.slotWrites = [(0, 0x01)] := by decide +kernel
theorem test_window_wraps : (after (.windowWrite 1) (window 0x3FFF)).link.pointer = 0 := by
  decide +kernel
theorem test_pointer_write_drops_top_bits :
    (after (.pointerWrite [0xFF, 0xFE]) (linked .opened)).link.pointer = 0x3FFE := by decide +kernel
theorem test_window_read :
    (after (.windowRead 6) (linked .opened)).link.delivered = [0xFF, 0xFF, 0x4B, 0x34, 0x36, 0x01] := by
  decide +kernel
theorem test_pointer_read :
    (after (.pointerRead 4) ((linked .opened).withLink
      { (linked .opened).link with pointer := 0x1234 })).link.delivered = [0xFF, 0x12, 0x34, 0xFF] := by
  decide +kernel
theorem test_cause_read :
    (after (.causeRead 3) ((linked .opened).withAttn
      { Attention.reset with grantDue := true, journalNew := true })).link.delivered
        = [0xFF, 0x04, 0x28] := by decide +kernel
theorem test_acknowledge_level_stays :
    (after (.causeAcknowledge 1) ((linked .opened).withAttn
      { Attention.reset with trip := true })).attn.trip = true := by decide +kernel
theorem test_mask : (after (.maskWrite 0x00) (linked .opened)).attn.mask = 0x00 := by decide +kernel
theorem test_control_read :
    (after (.controlRead 3) (linked .opened)).link.delivered = [0xFF, 0xFF, 0x00] := by decide +kernel

/-- The read marks of the example: W 0003h, Rd FF90h. -/
def marks : Billing := { Billing.reset with w := 0x0003, rd := 0xFF90 }

theorem test_marks : marks.acceptsMark 0xFFF0 = true ∧ marks.acceptsMark 0x0003 = true
    ∧ marks.acceptsMark 0x0004 = false ∧ marks.acceptsMark 0xFF80 = false
    ∧ marks.acceptsMark 0xFF03 = false := by decide
theorem test_read_mark_low :
    (after (.readMarkLowByteWrite 0x01) (window 0x0007)).billing.rd = 0x0001 := by decide +kernel
theorem test_read_mark_beyond :
    let t := after (.readMarkLowByteWrite 0x02) (window 0x0007)
    t.billing.rd = 0x0000 ∧ t.attn.writeRefused = true := by decide +kernel
theorem test_read_mark_high :
    (after (.readMarkHighByteWrite 0x7F) (window 0x0006)).link.latch = 0x7F := by decide +kernel
theorem test_renewal :
    let s := (window 0x000D).withPower { Power.reset with keepalive := .alive 80 true }
    (after (.grantRenewal 0x33) s).power.keepalive = .alive 0 false
      ∧ (after (.grantRenewal 0x33) s).mem.read 0x000D = 0x33 := by decide +kernel
theorem test_status_copy :
    let t := after .statusPeriod State.reset
    t.mem.read 0x000A = 1 ∧ t.mem.readAll 0x0540 4 = [0, 0, 0, 1]
      ∧ t.mem.readAll 0x063C 4 = [0, 0, 0, 1] := by decide +kernel

/-! ## Orders (02) -/

/-- SET GRANT from power-on: clamped to 22 000 W, 3 700 W and 2 s, the result at 32 to 44. -/
theorem test_set_grant :
    (after (.setGrant 0 0x1234 0xFFFF 0x2000 1) State.reset).mem.readAll 0x0060 12
      = [0x00, 0x01, 0x12, 0x34, 0x55, 0xF0, 0x0E, 0x74, 2, 0x00, 0x55, 0xF0] := by decide +kernel

/-- The queue of the example behind CLOSE SESSION: slots 5, 6 and 7 wait, slot 3 runs. -/
def queued : State :=
  let close : Posted := ⟨1, .closeSession 9⟩
  let s := billed { Billing.reset with close := some ⟨some 3, .awaitRelay⟩ }
  (placed (placed (placed (placed s 3 .running close) 5 .waiting ⟨2, .setClock 600⟩) 6 .waiting
    ⟨3, .loadTariff 0x0640 2⟩) 7 .waiting ⟨4, .openSession 1 2 0 0⟩).setQueue .billing [5, 6, 7]

/-- WITHDRAW in slot 8 with target 6: slot 8's result fields hold 6, 11h and WAITING. -/
theorem test_withdraw :
    let t := after (.withdraw 8 0 6) queued
    t.queue .billing = [5, 7] ∧ t.mem.readAll (slotAddr 8 + 36) 3 = [6, 0x11, 0x02]
      ∧ t.mem.read (slotAddr 6 + 32) = 0x06 := by decide +kernel
theorem test_post_waits :
    (after (.setClock 1 0 5) queued).queue .billing = [5, 6, 7, 1] := by decide +kernel
theorem test_held_write :
    (after (.setClock 5 0 5) queued).mem.read (slotAddr 5) = 0x02 := by decide +kernel
theorem test_unknown_order :
    let s := (State.reset.poke (slotAddr 2 + 1) 0x77).withOrders
      { Orders.reset with notices := [(2, 0x01)] }
    (after .slotStateNotice s).mem.readAll (slotAddr 2 + 32) 2 = [0x01, 0x00] := by decide +kernel
theorem test_free_notice :
    let s := (State.reset.setSlot 2 ⟨.done, some ⟨0, .clearTrip⟩⟩).withOrders
      { (State.reset.setSlot 2 ⟨.done, some ⟨0, .clearTrip⟩⟩).orders with notices := [(2, 0x00)] }
    (after .slotStateNotice s).slot 2 = ⟨.free, none⟩ := by decide +kernel
theorem test_link_reset :
    let t := after .linkReset (queued.withLink { Link.reset with resetDue := true, pointer := 9 })
    t.link.pointer = 0 ∧ t.slot 5 = ⟨.free, none⟩ ∧ t.queue .billing = []
      ∧ t.billing.close = some ⟨none, .awaitRelay⟩ := by decide +kernel

/-! ## Metering (03) -/

/-- The metering unit of the worked frame; the DC channels yield their weights with the power-on
calibration. -/
def worked : Metering := { Metering.reset with
  inlet := ⟨65800, -12, 40000, false⟩, closedSeen := true,
  acc := ⟨3100000, 3500000, 100000⟩, accM := 3100000, wh := ⟨48210, 9375, 1402⟩, mWh := 58988 }

/-- The frame of the worked example. -/
def workedFrame : Frame := { frame 1101230 with
  pack := ⟨860000, false⟩, heater := ⟨150000, false⟩, aux := ⟨22000, false⟩ }

theorem test_worked_frame :
    let m := (after (.meteringFrame workedFrame) (State.reset.withMetering worked)).metering
    m.acc = ⟨421379, 60705, 123570⟩ ∧ m.wh = ⟨48211, 9376, 1402⟩ ∧ m.accM = 605654
      ∧ m.mWh = 58989 ∧ m.inlet.residue = 47024 ∧ m.readings.inletPower = 11056
      ∧ m.readings.inletVoltage = 2288 ∧ m.readings.inletCurrent = 162 := by decide +kernel

/-! ## Tariffs and cost (04) -/

/-- Table T1 of the example. -/
def t1 : Tariff := ⟨15, [⟨0, 120⟩, ⟨360, 280⟩, ⟨1320, 150⟩]⟩

theorem test_bands : [0, 359, 360, 1319, 1320, 1439].map t1.bandAt = [0, 0, 1, 1, 2, 2] := by decide
theorem test_rounding : reportedCost 768040 (-320) = 768 ∧ nextCarry 768040 (-320) = -280
    ∧ reportedCost 180621 (-178) = 180 ∧ nextCarry 180621 (-178) = 443 := by decide

/-- A session with an open interval of one Wh, at part time 59. -/
def inSession : Billing := { Billing.reset with
  partTime := 59, clockSet := true, table := t1, defaultTable := false, w := 2, nextSeq := 2
  session := some
    { id := 7, number := 1, battery := 8, heating := 0, aux := 0, openTime := 10, openBand := 0,
      intervalNo := 1, written := 0, wh := ⟨0, 0, 0⟩, cost := ⟨0, 0, 0⟩, carries := ⟨0, 0, 0⟩,
      flags := RecFlags.clear, closing := false }
  interval := some
    { start := 10, bandStart := 0, meterStart := 0, wh := ⟨1, 0, 0⟩, cost := ⟨120, 0, 0⟩,
      flags := RecFlags.clear, merges := 0 } }

theorem test_second : (after .partTimeTick State.reset).billing.partTime = 1 := by decide +kernel
/-- The minute start at 15 min closes the interval BOUNDARY: kind 3, cause 1, and W advances. -/
theorem test_boundary :
    let t := after .partTimeTick (billed { inSession with partTime := 899 })
    t.billing.w = 3 ∧ t.mem.readAll 0x2080 5 = [0, 0, 0, 2, 0x31] := by decide +kernel
theorem test_report_priced :
    let s := (billed inSession).withMetering { Metering.reset with
      reports := [⟨true, 99, ⟨1, 0, 2⟩, 3, 5, false, false, false⟩] }
    (after .frameReport s).billing.interval.map (fun i => (i.wh, i.cost))
      = some (⟨2, 0, 2⟩, ⟨240, 0, 240⟩) := by decide +kernel
theorem test_set_clock_record :
    let t := after (.setClock 0 0 86400) State.reset
    t.billing.partTime = 86400 ∧ t.mem.readAll 0x2040 6 = [0, 0, 0, 1, 0x70, 0x00] := by
  decide +kernel
/-- Part time returns to 0 in minute 388 of the last day: minute 390 is not reached (R63, R64). -/
theorem test_next_boundary_at_wrap :
    Billing.nextBoundary { Billing.reset with partTime := 4294966499 } = 375
      ∧ Billing.nextBoundary { Billing.reset with partTime := 4294966500 } = 0
      ∧ Billing.nextBoundary { Billing.reset with partTime := 4294967295 } = 0
      ∧ Billing.nextBoundary { Billing.reset with partTime := 86399 } = 0 := by decide
theorem test_load_tariff :
    let s := State.reset.pokeAll 0x0640 [15, 0, 0, 0, 120, 1, 0x68, 1, 24]
    (after (.loadTariff 0 0 0x0640 2) s).billing.table = ⟨15, [⟨0, 120⟩, ⟨360, 280⟩]⟩ := by
  decide +kernel

/-! ## Sessions and the journal (05) -/

/-- The carries of the decoding example pack to 2C09 2118h. -/
theorem test_packed_carries :
    packedCarries ⟨-320, -440, 280⟩ = [0x2C, 0x09, 0x21, 0x18] := by decide
theorem test_open_session :
    let t := after (.openSession 0 0 7 8 0 0) State.reset
    t.billing.sessionCounter = 1 ∧ t.mem.readAll 0x2040 8 = [0, 0, 0, 1, 0x20, 0x41, 0, 1]
      ∧ t.power.keepalive = .alive 0 false := by decide +kernel
theorem test_close_session_relay_open :
    let t := after (.closeSession 0 0 7) (billed inSession)
    t.billing.session = none ∧ t.billing.w = 4 ∧ (t.slot 0).state = .done := by decide +kernel
/-- A close whose step 2 is passed. -/
def ending : State := (billed { inSession with close := some ⟨some 3, .awaitHeld⟩ }).setSlot 3
  ⟨.running, some ⟨1, .closeSession 7⟩⟩
theorem test_end_close :
    let t := after .closeSessionEndClose ending
    t.billing.close = none ∧ t.mem.readAll (slotAddr 3 + 36) 6 = [0, 1, 0, 1, 0, 3] := by decide +kernel
/-- A close whose records are in the journal. -/
def completing : State :=
  let sum : CloseSummary := ⟨1, 2, ⟨6, 2, 1⟩, ⟨2, 1, 0⟩, ⟨-320, -440, 280⟩, 415⟩
  (billed { Billing.reset with close := some ⟨some 3, .awaitJournal sum⟩ }).setSlot 3
    ⟨.running, some ⟨1, .closeSession 7⟩⟩
/-- The CLOSE SESSION result of the decoding example. -/
theorem test_complete : (after .closeSessionComplete completing).mem.readAll (slotAddr 3 + 36) 22
    = [0, 1, 0, 2, 0x01, 0x9F, 0x2C, 0x09, 0x21, 0x18, 0, 0, 6, 0, 0, 2, 0, 0, 1, 0, 0, 2] := by
  decide +kernel
theorem test_calibrate :
    let t := after (.calibrateMeter 0 0 1 65800 0xFFF4) State.reset
    t.metering.pack = ⟨65800, -12, 0, false⟩ ∧ t.mem.read 0x2044 = 0x60 := by decide +kernel
/-- A detached close that waits for the journal refuses CALIBRATE METER with NOT_NOW (R60). -/
theorem test_calibrate_detached_close :
    let b := completing.billing
    let s := billed { b with close := b.close.map fun c => { c with slot := none } }
    let t := after (.calibrateMeter 0 0 1 65800 0) s
    s.billing.detachedClose = true ∧ s.billing.session = none ∧ s.billing.orphan = none
      ∧ TakesAtOnce s 0 .billing ∧ t.mem.read 0x0060 = 0x04
      ∧ t.metering = s.metering := by decide +kernel
theorem test_levels_hold :
    let t := after (.setJournalLevels 0 0 8 0) (billed { Billing.reset with w := 8 })
    t.billing.hold = true ∧ t.attn.journalHalt = true := by decide +kernel

/-! ## Power (06) -/

/-- The worked allocation: every gate holds, 11 000 W, 4 000 dV, a plan of 3 000 W from SUPPLY and a
CHARGE that takes 229 dA. -/
def allocated (policy : Policy) : State :=
  let s := billed inSession
  let h : Heating := { Heating.reset with
    pack := Vector.replicate 8 (.valid 43), plate := .valid 100, sensorLoss := false,
    plateSensorGuard := false, acceptance := 229, table := some [⟨-100, 0⟩, ⟨0, 100⟩]
    plan := some
      { slot := 1, target := 150, band := 100, hysteresis := 20, pMax := 3000, source := .supply,
        policy := policy, mode := .keep, clamped := false, phase := .warming, demand := 3000,
        reachedHolding := false, blockedCount := 0, lastState := .warming, seconds := 0,
        tenths := 0 } }
  let p : Power := { Power.reset with
    grant := 11000, keepalive := .alive 0 false
    charge := some
      { slot := 2, maxCurrent := 300, vLim := 4100, endCurrent := 20, clamped := false,
        cvCap := 400, ovCount := 0, state := .gated, lastState := .gated, seconds := 0,
        tenths := 0 } }
  let i : Insulation := { Insulation.reset with
    state := .measuring, condition := .ok, fresh := true, last := some ⟨3180, 0, 200, 40⟩ }
  (((((s.withHeating h).withPower p).withInsulation i).withPins ⟨true, true, true, false⟩).withRelay
    ⟨.closed, none, false⟩).withMetering { Metering.reset with
      readings := ⟨2301, 0, 4000, 0, 0⟩, closedSeen := true }

theorem test_allocation_heat_first :
    let t := after .controlPeriod (allocated .heatFirst)
    t.power.last = ⟨11000, 3226, 7774, 255, 10, 50, 400⟩ := by decide +kernel
theorem test_allocation_charge_first :
    let t := after .controlPeriod (allocated .chargeFirst)
    (t.power.last.heaterIn, t.power.last.chargeIn) = (1150, 9850) := by decide +kernel
/-- Period 1 of the CV taper: the present current 249 dA leaves a CV cap of 244. -/
theorem test_cv_taper :
    let c : Charge := ⟨2, 300, 4100, 20, false, 400, 0, .tapering, .tapering, 0, 0⟩
    cvUpdate c true 930 4100 11000 = 244 ∧ presentCurrent 930 4100 11000 = 249 := by decide
/-- The worked allocation with the keepalive at a count, under a period of 10 s. -/
def aliveAt (count : Nat) : State :=
  let s := allocated .heatFirst
  s.withPower { s.power with keepalive := .alive count false }
theorem test_half_period_of_keepalive :
    (after .keepaliveHalfPeriod (aliveAt 50)).attn.grantDue = true
      ∧ (after .keepaliveHalfPeriod (aliveAt 49)).attn.grantDue = false := by decide +kernel
theorem test_expiry :
    let t := after .keepaliveExpiry (aliveAt 100)
    t.power.keepalive = .expired ∧ t.power.effGrant = 0
      ∧ (after .keepaliveExpiry (aliveAt 99)).power.keepalive = .alive 99 false := by decide +kernel
/-- The drives outlast a link reset that re-forms the effective grant from the fallback to 0. -/
theorem test_link_reset_keeps_demand :
    let s := (allocated .heatFirst).setDemand 90
    let t := after .linkReset ((s.withLink { Link.reset with resetDue := true }).withPower
      { s.power with keepalive := .expired, grant := 0, fallback := 1500 })
    t.power.effGrant = 0 ∧ t.power.iDem = 90 ∧ t.relay.state = .closed := by decide +kernel
theorem test_pmrdy :
    (after .pmrdyNegated ((allocated .heatFirst).setDemand 90)).power.iDem = 0 := by decide +kernel
theorem test_set_power_stage :
    (after (.setPowerStage 0 0 700 601 0 99 7000) State.reset).power.stage = ⟨800, 600, 1, 100, 6000⟩ := by
  decide +kernel
theorem test_charge_without_session :
    (after (.charge 0 0 300 4100 20) State.reset).mem.read 0x0060 = 0x04 := by decide +kernel

/-! ## Heating (07) -/

/-- The scan of the example, with channel 6 excluded. -/
def oneScan : Scan := ⟨#v[-85, -92, -401, -78, 1251, -88, -131, -81], -60⟩

theorem test_scan :
    let t := after (.temperatureScan oneScan)
      (State.reset.withHeating { Heating.reset with mask := 0x40 })
    t.heating.count = 5 ∧ t.heating.tMin = some (-92) ∧ t.heating.tMax = some (-78)
      ∧ t.heating.sensorLoss = false ∧ t.heating.plate = .valid (-60) := by decide +kernel

/-- The worked acceptance table. -/
def points : List Point :=
  [⟨-100, 0⟩, ⟨0, 100⟩, ⟨100, 400⟩, ⟨250, 600⟩, ⟨450, 600⟩, ⟨500, 0⟩]

theorem test_acceptance : [-120, -100, -50, 43, 80, 150, 470, 520].map (fun t => acceptAt t points)
    = [0, 0, 50, 229, 340, 466, 360, 0] := by decide
/-- The plan of the cold start at T_min 80 asks 2 100 W, and at 150 holds with PLAN_EVENT. -/
theorem test_plan_warms :
    (after (.temperatureScan ⟨Vector.replicate 8 80, 100⟩) (allocated .heatFirst)).heating.plan.map
      (·.demand) = some 2100 := by decide +kernel
theorem test_plan_holds :
    let t := after (.temperatureScan ⟨Vector.replicate 8 150, 100⟩) (allocated .heatFirst)
    t.heating.plan.map (·.phase) = some .holding ∧ t.attn.planEvent = true := by decide +kernel
/-- The plate guard of the example: begins at 804, stands at 781, ends at 748. -/
theorem test_plate_guard :
    let h (x : Int) (g : Bool) : Heating := { Heating.reset with plate := .valid x, plateGuard := g }
    (h 804 false).testPlateGuard = true ∧ (h 781 true).testPlateGuard = true
      ∧ (h 748 true).testPlateGuard = false ∧ (h 792 false).testPlateGuard = false := by decide
theorem test_heat_sensor_loss :
    (after (.heat 0 0 150 100 20 3000 0 0 1) State.reset).mem.read 0x0060 = 0x04 := by decide +kernel
theorem test_load_acceptance :
    let s := State.reset.pokeAll 0x0640 [0xFF, 0x9C, 0, 0, 0, 0, 0, 100]
    (after (.loadAcceptance 0 0 0x0640 2) s).heating.table = some [⟨-100, 0⟩, ⟨0, 100⟩] := by
  decide +kernel
theorem test_set_sensors :
    (after (.setSensors 0 0 0x40 0xFFFF 950) State.reset).heating.packCap = 300
      ∧ (after (.setSensors 0 0 0x40 0xFFFF 950) State.reset).heating.plateLimit = 900 := by
  decide +kernel

/-! ## Insulation (08) -/

/-- Half-period 7 of the worked measurement, about to end: stretch 2, ΔU_prev 20 810. -/
def seventh : State := (State.reset.withMetering { Metering.reset with
    readings := ⟨0, 0, 4000, 0, 0⟩ }).withInsulation { Insulation.reset with
  state := .warmup, stretch := 2, samplePos := some 10400, sampleNeg := some (-10410),
  prevDelta := some 20810
  half := some ⟨true, 2, 12000, 40, 0, 0, 0, 0, false⟩ }

theorem test_first_result :
    let t := after (.halfPeriodEnd 10500) seventh
    t.insulation.last = some ⟨3180, 0, 200, 40⟩ ∧ t.insulation.condition = .ok
      ∧ t.insulation.state = .measuring ∧ t.insulation.fresh = true ∧ t.insulation.settled = 1 := by
  decide +kernel
/-- The conditions of the example in which a fault is qualified and released. -/
theorem test_conditions :
    nextCondition .ok .belowFault 35 200 40 1 3 = .warning
      ∧ nextCondition .warning .belowFault 38 200 40 3 3 = .fault
      ∧ nextCondition .fault .belowWarn 60 200 40 0 3 = .fault
      ∧ nextCondition .fault .belowWarn 90 200 40 0 3 = .warning
      ∧ nextCondition .warning .clear 240 200 40 0 3 = .warning
      ∧ nextCondition .warning .clear 260 200 40 0 3 = .ok := by decide
theorem test_settle : isSettled 20810 20100 = false ∧ isSettled 20910 20810 = true
    ∧ settleLimit 15900 = 496 ∧ settleLimit 0 = 20 := by decide
theorem test_check_idle :
    (after (.checkInsulation 0 0) State.reset).mem.readAll 0x0060 2 = [0x0A, 0x14] := by decide +kernel
theorem test_set_insulation_refused :
    (after (.setInsulation 0 0 470 12000 100 100 3 30) State.reset).mem.read 0x0060 = 0x02 := by
  decide +kernel
/-- The worked allocation with the last result at an age, under a window of 30 s. -/
def agedTo (age : Nat) : State :=
  let s := allocated .heatFirst
  s.withInsulation { s.insulation with last := some ⟨3180, age, 200, 40⟩ }
theorem test_freshness :
    (after .freshnessExpiry (agedTo 300)).insulation.fresh = false
      ∧ (after .freshnessExpiry (agedTo 299)).insulation.fresh = true
      ∧ ((agedTo 300).tick.insulation.last).map (·.age) = some 300 := by decide +kernel
theorem test_pkon :
    (after .pkonAsserted State.reset).insulation.state = .warmup := by decide +kernel

/-! ## Relay and trips (09) -/

theorem test_close_confirmed :
    (after .infbShowsClosed (State.reset.withRelay ⟨.closing, some 2, false⟩)).relay
      = ⟨.closed, some 0, false⟩ := by decide +kernel
/-- The release phase with its 300 ms run and INFB still showing closed. -/
def releasing : State := (State.reset.withRelay ⟨.release, some 3, false⟩).withPins
  { Pins.low with infb := true }
theorem test_weld :
    let t := after .releaseTimerExpiry releasing
    t.relay.state = .stuck ∧ t.trips.set.weld = true ∧ t.attn.trip = true := by decide +kernel
theorem test_module_skips_wait :
    let t := after .pmfltAsserted (allocated .heatFirst)
    t.relay.state = .release ∧ t.mem.read (slotAddr 2 + 32) = 0x08 ∧ t.heating.plan = none := by
  decide +kernel
theorem test_clear_trip :
    let s := State.reset.withTrips ⟨{ TripSet.empty with contact := true }, some ⟨.contact, 5⟩⟩
    (after (.clearTrip 0 0) s).mem.readAll 0x0064 2 = [0x02, 0x00] := by decide +kernel
theorem test_power_on_module :
    (after (.powerOnReset ⟨false, true, false, true⟩) State.reset).trips.first = some ⟨.module, 0⟩ := by
  decide +kernel

/-! ## Witnesses: the machine -/

/-- The worked allocation one period on, with drives above 0, and a command waiting. -/
def driven : State := (after .controlPeriod (allocated .heatFirst)).withPending [.partTimeTick]

theorem witness_MemoryStaysCanonical : driven.mem.wf = true ∧ ∃ t, step driven = .next t :=
  ⟨by decide +kernel, _, rfl⟩
theorem witness_HeaderStaysTrue :
    let s := (after (.openSession 0 0 7 8 0 0) State.reset).withPending [.statusPeriod]
    HeaderShows s ∧ ∃ t, step s = .next t :=
  ⟨by unfold HeaderShows; decide +kernel, _, rfl⟩
theorem witness_CausesStayTrue :
    let s := (after .releaseTimerExpiry releasing).withPending [.infbShowsOpen]
    CausesShow s ∧ ∃ t, step s = .next t :=
  ⟨by unfold CausesShow; decide +kernel, _, rfl⟩
theorem witness_DrivesStaySafe :
    DrivesSafe driven ∧ 0 < driven.power.iDem ∧ 0 < driven.power.duty
      ∧ driven.pending.head? ≠ some .linkReset ∧ 0 < driven.power.effGrant
      ∧ ∃ t, step driven = .next t :=
  ⟨by unfold DrivesSafe; decide +kernel, by decide +kernel, by decide +kernel, by decide +kernel,
    by decide +kernel, _, rfl⟩
theorem witness_MeteringConserves :
    let s := (State.reset.withMetering worked).withPending [.meteringFrame workedFrame]
    s.metering.conserved ∧ ∃ t, step s = .next t :=
  ⟨by unfold Metering.conserved; decide +kernel, _, rfl⟩
theorem witness_MeterMovesOnlyByFrame :
    (∀ f, Instr.controlPeriod ≠ .meteringFrame f) ∧ (∀ l, Instr.controlPeriod ≠ .powerOnReset l)
      ∧ ∃ t, exec .controlPeriod driven = .next t :=
  ⟨nofun, nofun, _, rfl⟩
theorem witness_OrderEncodingRoundTrips : orderBlock (.setGrant 11000 3700 10) ≠ none := by decide
theorem witness_IdleStepCounts : (allocated .heatFirst).pending = [] := rfl

/-! ## Witnesses: the link port -/

theorem witness_TransactionFrames : (linked .idle).link.phase = .idle
    ∧ (linked .opened).link.phase ≠ .idle ∧ (linked .opened).link.phase = .opened
    ∧ decodeStart 0xB0 = some (.write, .pointer) ∧ decodeStart 0xB7 = some (.read, .control) := by
  decide +kernel
theorem witness_StartByteDecides : (linked .opened).link.phase = .opened ∧ decodeStart 0xAF = none
    ∧ decodeStart 0xB8 = none ∧ (linked .ignored).link.phase = .ignored
    ∧ linkData (.windowWrite 0) = true ∧ (linked .ignored).link.slotWrites = []
    ∧ (linked .ignored).link.resetRequested = false ∧ (linked .ignored).link.heldByte = none
    ∧ (linked .idle).link.phase = .idle := by decide +kernel
theorem witness_PointerWriteSetsPointer :
    (linked .opened).link.entered .write .pointer = some 0
      ∧ (linked (.transfer .write .pointer 0)).link.entered .write .pointer = some 0
      ∧ (let l := { Link.reset with phase := .transfer .write .pointer 1, heldByte := some 0xFF }
         l.phase = .transfer .write .pointer 1 ∧ l.heldByte = some 0xFF)
      ∧ (linked (.transfer .write .pointer (0 + 2))).link.phase = .transfer .write .pointer (0 + 2) := by
  decide +kernel
theorem witness_TwoByteReadsDeliver : (linked .opened).link.entered .read .pointer = some 0
    ∧ (linked .opened).link.entered .read .cause = some 0
    ∧ (linked .opened).link.entered .read .control = some 0
    ∧ (0x00 : Byte) = BitVec.ofNat 8 ((linked .opened).link.pointer.toNat / 256) := by decide +kernel
theorem witness_WindowReadDelivers : (linked .opened).link.entered .read .window = some 0 := by
  decide
/-- The first and last staging byte, and the first and last byte of the live copies. -/
theorem witness_WindowStoresOrDrops :
    windowRow 1 (.windowWrite 1) ∧ (window 0x0640).mem.wf = true
      ∧ (window 0x0640).link.entered .write .window = some 0
      ∧ [0x0041, 0x005F, 0x0640, 0x1FFF].map hostWritable = [true, true, true, true]
      ∧ [0x0440, 0x063F, 0x0060, 0x2000].map hostWritable = [false, false, false, false]
      ∧ (∀ n : SlotNo, (window 0x0640).link.pointer.toNat ≠ slotAddr n) := by
  refine ⟨Or.inl rfl, ?_⟩
  decide +kernel
theorem witness_SlotStateWriteRecorded :
    windowRow 1 (.slotStateWrite 1) ∧ (window 0x0040).link.pointer.toNat = slotAddr 0
      ∧ (window 0x0400).link.pointer.toNat = slotAddr 15 ∧ (window 0x0400).mem.wf = true
      ∧ (window 0x0400).link.entered .write .window = some 0
      ∧ (window 0x0400).link.slotWrites.Pairwise (fun x y => x.1 < y.1) := by
  refine ⟨Or.inr (Or.inl rfl), ?_⟩
  decide +kernel

/-- The marks of the example with a transaction at 0007h, the latch holding an upper byte. -/
def marking (latch : Byte) (b : Billing) : State :=
  (billed b).withLink { Link.reset with
    phase := .transfer .write .window 0, pointer := 0x0007, latch := latch }

theorem witness_ReadMarkWrites_high :
    windowRow 1 (.readMarkHighByteWrite 1) ∧ (window 0x0006).link.pointer = 0x0006
      ∧ (window 0x0006).link.entered .write .window = some 0 := by
  refine ⟨Or.inr (Or.inr (Or.inl rfl)), ?_⟩
  decide +kernel
/-- 0004h, one beyond W, is refused, and so is FF8Fh, one behind Rd. -/
theorem witness_ReadMarkWrites_refused :
    let s := marking 0x00 marks
    windowRow 4 (.readMarkLowByteWrite 4) ∧ s.link.pointer = 0x0007
      ∧ (s.billing.w - s.billing.rd).toNat < (s.billing.w - half s.link.latch 0x04).toNat
      ∧ (s.billing.w - s.billing.rd).toNat < (s.billing.w - half 0xFF 0x8F).toNat := by
  refine ⟨Or.inr (Or.inr (Or.inr (Or.inl rfl))), ?_⟩
  decide +kernel
/-- 0003h, W itself, is applied, and so is FF90h, Rd itself. -/
theorem witness_ReadMarkWrites_applied :
    let s := marking 0x00 marks
    s.mem.wf = true ∧ s.billing.held = none ∧ s.billing.waiting = none
      ∧ (s.billing.w - half s.link.latch 0x03).toNat ≤ (s.billing.w - s.billing.rd).toNat
      ∧ (s.billing.w - half 0xFF 0x90).toNat ≤ (s.billing.w - s.billing.rd).toNat := by
  decide +kernel

/-- A CLOCK record. -/
def aRecord : Record := plainRecord Billing.reset RecFlags.clear 0 0 0 0 0 0 (.clock 0 1 false)

/-- A full journal with the hold in effect, a held record and perhaps a waiting one. -/
def fullJournal (waits : Option Record) : State :=
  marking 0x00 { Billing.reset with
    w := 128, rd := 0, hold := true, held := some aRecord, waiting := waits }

theorem witness_ReadMarkReleasesHeldRecord :
    let s := fullJournal none
    windowRow 1 (.readMarkLowByteWrite 1) ∧ s.link.entered .write .window = some 0
      ∧ s.link.pointer = 0x0007 ∧ s.mem.wf = true ∧ s.billing.held = some aRecord
      ∧ s.billing.hold = true ∧ s.billing.waiting = none
      ∧ (s.billing.w - half s.link.latch 0x01).toNat ≤ (s.billing.w - s.billing.rd).toNat
      ∧ (s.billing.w - half s.link.latch 0x01).toNat < 128 := by
  refine ⟨Or.inr (Or.inr (Or.inr (Or.inl rfl))), ?_⟩
  decide +kernel
theorem witness_ReadMarkReleasesHeldRecord_waiting :
    let s := fullJournal (some aRecord)
    s.billing.waiting = some aRecord ∧ s.billing.held = some aRecord ∧ s.billing.hold = true
      ∧ (s.billing.w - half s.link.latch 0x01).toNat = 127
      ∧ (s.billing.w - half s.link.latch 0x02).toNat < 127 := by decide +kernel

/-- A transaction at 000Dh with a keepalive. -/
def renewing (k : Keepalive) (grant fallback : Nat) : State :=
  (window 0x000D).withPower { Power.reset with keepalive := k, grant := grant, fallback := fallback }

theorem witness_RenewalRestartsKeepalive :
    windowRow 1 (.grantRenewal 1) ∧ (renewing .expired 9000 0).link.pointer = 0x000D
      ∧ (renewing .expired 9000 0).link.entered .write .window = some 0
      ∧ (renewing .expired 9000 0).mem.wf = true ∧ (renewing .expired 9000 0).power.effGrant = 0
      ∧ 0 < Power.effGrant { (renewing (.alive 9 true) 9000 0).power with keepalive := .alive 0 false }
      ∧ 0 < (renewing .expired 0 10).power.effGrant
      ∧ Power.effGrant { (renewing .expired 0 10).power with keepalive := .alive 0 false } = 0 := by
  refine ⟨Or.inr (Or.inr (Or.inr (Or.inr rfl))), ?_⟩
  decide +kernel
theorem witness_CauseAndControlWritesAct :
    (linked .opened).link.entered .write .cause = some 0
      ∧ (linked (.transfer .write .cause 3)).link.entered .write .cause = some 3
      ∧ (linked .opened).link.entered .write .control = some 0
      ∧ (linked (.transfer .write .control 1)).link.phase = .transfer .write .control 1
      ∧ (linked (.transfer .write .control (0 + 2))).link.phase = .transfer .write .control (0 + 2) := by
  decide +kernel
theorem witness_LinkResetClearsHostState :
    let s := (allocated .heatFirst).withLink { Link.reset with resetDue := true }
    s.link.resetDue = true ∧ s.orders.notices = [] ∧ s.mem.wf = true
      ∧ s.billing.session.isSome = true := by decide +kernel

/-! ## Witnesses: the order engine -/

/-- A notice for slot 15, in a state with or without an order in its bytes. -/
def noticed (st : SlotState) (v code : Byte) : State :=
  let s := (State.reset.setSlot 15 ⟨st, none⟩).poke (slotAddr 15 + 1) code
  s.withOrders { s.orders with notices := [(15, v)] }

theorem witness_NoticeJudged_post :
    (noticed .free 1 0x02).orders.notices = [(15, 1)] ∧ (noticed .free 1 0x02).mem.wf = true
      ∧ ((noticed .free 1 0x02).slot 15).state = .free
      ∧ orderCommand 15 0 ((noticed .free 1 0x02).mem.order 15).order = some (.clearTrip 15 0) := by
  decide +kernel
theorem witness_NoticeJudged_unknown :
    orderCommand 15 0 ((noticed .free 1 0x03).mem.order 15).order = none := by decide +kernel
theorem witness_NoticeJudged_free :
    (noticed .done 0 0).orders.notices = [(15, 0)] ∧ ((noticed .done 0 0).slot 15).state = .done := by
  decide +kernel
theorem witness_NoticeJudged_held :
    ¬(((noticed .done 1 0).slot 15).state = .free ∧ (1 : Byte) = 0x01)
      ∧ ¬(((noticed .done 1 0).slot 15).state = .done ∧ (1 : Byte) = 0x00) := by decide +kernel
theorem witness_PostWaitsOrIsHeld :
    orderCommand 5 0 (.setClock 1) = some (.setClock 5 0 1) ∧ (queued.slot 5).state ≠ .free
      ∧ queued.mem.wf = true ∧ (queued.slot 0).state = .free
      ∧ orderBlock (.setClock 1) = some .billing ∧ queued.occupied .billing = true
      ∧ queued.queue .billing ≠ [] := by decide +kernel
theorem witness_WithdrawEndsTarget_waiting :
    TakesAtOnce queued 8 .general ∧ (queued.slot 6).posted = some ⟨3, .loadTariff 0x0640 2⟩
      ∧ (queued.slot 6).state = .waiting ∧ orderBlock (.loadTariff 0x0640 2) = some .billing := by
  decide +kernel
theorem witness_WithdrawEndsTarget_notWithdrawable :
    (queued.slot 3).posted = some ⟨1, .closeSession 9⟩ ∧ (queued.slot 3).state = .running
      ∧ orderBlock (.closeSession 9) ≠ none
      ∧ orderCode (.closeSession 9) ∉ ([0x21, 0x30, 0x40] : List Byte) := by decide +kernel
/-- The worked allocation with the slots of its plan and its CHARGE, and a check in slot 4. -/
def running : State :=
  let s := allocated .heatFirst
  placed (placed (placed (s.withInsulation { s.insulation with check := some ⟨4, 0⟩ }) 1 .running
    ⟨0, .heat 150 100 20 3000 0 0 1⟩) 2 .running ⟨0, .charge 300 4100 20⟩) 4 .running
    ⟨0, .checkInsulation⟩
/-- A state whose check runs in slot 4 while another waits in slot 5. -/
def crowd (s : State) (timer : Nat) : State :=
  (placed (placed (s.withInsulation { s.insulation with check := some ⟨4, timer⟩ }) 4 .running
    ⟨0, .checkInsulation⟩) 5 .waiting ⟨1, .checkInsulation⟩).setQueue .insulation [5]
/-- The running orders with a second check waiting. -/
def crowded (timer : Nat) : State := crowd running timer
theorem ordersShow_crowded : OrdersShow (crowded 600) := ordersShow_of _ (by decide +kernel)
theorem witness_OrdersStayTrue :
    let s := (crowded 600).withPending [.pkonNegated]
    OrdersShow s ∧ s.queue .insulation ≠ [] ∧ ∃ t, step s = .next t :=
  ⟨ordersShow_of _ (by decide +kernel), by decide +kernel, _, rfl⟩
theorem witness_WithdrawEndsTarget_drain :
    TakesAtOnce (crowded 600) 0 .general ∧ OrdersShow (crowded 600)
      ∧ (crowded 600).slot 4 = ⟨.running, some ⟨0, .checkInsulation⟩⟩ :=
  ⟨by decide +kernel, ordersShow_crowded, by decide +kernel⟩
theorem witness_WithdrawEndsTarget_standing :
    TakesAtOnce running 0 .general
      ∧ (running.slot 2).state = .running ∧ orderCode (.charge 300 4100 20) = 0x21
      ∧ running.power.charge.isSome = true
      ∧ (running.slot 1).state = .running ∧ orderCode (.heat 150 100 20 3000 0 0 1) = 0x30
      ∧ running.heating.plan.isSome = true
      ∧ (running.slot 4).state = .running ∧ orderCode .checkInsulation = 0x40
      ∧ running.insulation.check = some ⟨4, 0⟩ ∧ running.queue .insulation = [] := by
  decide +kernel
/-- Targets 15, the taker's own slot 8, and 16. -/
theorem witness_WithdrawEndsTarget_numbers :
    (queued.slot 15).state = .free ∧ (15 : Byte).toNat = (15 : SlotNo).val ∧ (15 : SlotNo) ≠ 8
      ∧ (8 : Byte).toNat = (8 : SlotNo).val ∧ 16 ≤ (16 : Byte).toNat := by decide +kernel

/-! ## Witnesses: the orders -/

theorem witness_SetGrantSets :
    TakesAtOnce (allocated .heatFirst) 0 .power ∧ 0 < (allocated .heatFirst).power.effGrant
      ∧ TakesAtOnce State.reset 0 .power ∧ State.reset.power.effGrant = 0
      ∧ clampNat 0 22000 22001 = 22000 ∧ clampNat 2 60 1 = 2 := by decide +kernel
theorem witness_SetPowerStageSets :
    TakesAtOnce (allocated .heatFirst) 15 .power
      ∧ (allocated .heatFirst).power.iDem ≤ clampNat 0 600 0 := by decide +kernel

/-- The worked allocation with no CHARGE. -/
def uncharged : State :=
  let s := allocated .heatFirst
  s.withPower { s.power with charge := none }

theorem witness_ChargeTaken :
    TakesAtOnce (allocated .heatFirst) 0 .power
      ∧ (allocated .heatFirst).power.charge.isSome = true
      ∧ State.reset.power.charge = none ∧ State.reset.billing.sessionGate = false
      ∧ TakesAtOnce uncharged 0 .power ∧ uncharged.power.charge = none
      ∧ uncharged.billing.sessionGate = true ∧ uncharged.heating.table ≠ none := by decide +kernel

/-- The worked allocation with no plan. -/
def unheated : State :=
  let s := allocated .heatFirst
  s.withHeating { s.heating with plan := none }

/-- Codes 2, 1, 1 are the last ones defined, and 3 is not. -/
theorem witness_HeatTaken :
    TakesAtOnce (allocated .heatFirst) 0 .heating
      ∧ (allocated .heatFirst).heating.plan.isSome = true
      ∧ State.reset.heating.plan = none ∧ State.reset.heating.sensorLoss = true
      ∧ TakesAtOnce unheated 0 .heating ∧ unheated.heating.plan = none
      ∧ unheated.heating.sensorLoss = false
      ∧ (decide ((2 : Byte).toNat ≤ 2) && decide ((1 : Byte).toNat ≤ 1)
          && decide ((1 : Byte).toNat ≤ 1)) = true
      ∧ (decide ((3 : Byte).toNat ≤ 2) && decide ((0 : Byte).toNat ≤ 1)
          && decide ((0 : Byte).toNat ≤ 1)) = false := by decide +kernel
/-- A mask that leaves two channels loses the sensors of a plan; one that leaves three does not. -/
theorem witness_SetSensorsSets :
    TakesAtOnce (allocated .heatFirst) 0 .heating
      ∧ ((allocated .heatFirst).heating.plan.map (·.slot)) = some 1
      ∧ (allocated .heatFirst).heating.sensorLoss = false
      ∧ decide (Heating.count { (allocated .heatFirst).heating with mask := 0x3F } < 3) = true
      ∧ decide (Heating.count { (allocated .heatFirst).heating with mask := 0x1F } < 3) = false := by
  decide +kernel

/-- Two acceptance points in the last bytes of the staging area. -/
def stagedLast : State := State.reset.pokeAll 0x1FF8 [0xFF, 0x9C, 0, 0, 0, 0, 0, 100]

theorem witness_LoadAcceptanceLoads :
    TakesAtOnce stagedLast 0 .heating
      ∧ decide (2 ≤ (2 : Byte).toNat ∧ (2 : Byte).toNat ≤ 10 ∧ 0x0640 ≤ (0x1FF8 : Half).toNat
        ∧ (0x1FF8 : Half).toNat + 4 * (2 : Byte).toNat ≤ 0x2000) = true
      ∧ decide (2 ≤ (2 : Byte).toNat ∧ (2 : Byte).toNat ≤ 10 ∧ 0x0640 ≤ (0x1FF9 : Half).toNat
        ∧ (0x1FF9 : Half).toNat + 4 * (2 : Byte).toNat ≤ 0x2000) = false
      ∧ stagedPoints 2 (stagedLast.mem.readAll 0x1FF8 8) = [⟨-100, 0⟩, ⟨0, 100⟩]
      ∧ (∀ p ∈ ([⟨-100, 0⟩, ⟨0, 100⟩] : List Point),
          -400 ≤ p.temp ∧ p.temp ≤ 1250 ∧ p.current ≤ 600)
      ∧ ([⟨-100, 0⟩, ⟨0, 100⟩] : List Point).Pairwise (fun p q => p.temp < q.temp)
      ∧ ¬([⟨0, 0⟩, ⟨0, 0⟩] : List Point).Pairwise (fun p q => p.temp < q.temp) := by
  decide +kernel
theorem witness_CheckInsulationTaken :
    TakesAtOnce State.reset 0 .insulation ∧ State.reset.insulation.state = .idle
      ∧ TakesAtOnce (allocated .heatFirst) 0 .insulation
      ∧ (allocated .heatFirst).insulation.state ≠ .idle := by decide +kernel
/-- A fault level of 100 is refused beside a warn level of 100 and accepted beside 101; the same
settings restart nothing, and a changed U_inj does. -/
theorem witness_SetInsulationSets :
    TakesAtOnce (allocated .heatFirst) 0 .insulation
      ∧ InsSettings.valid ⟨470, 12000, 100, 100, 3, 30⟩ = false
      ∧ InsSettings.valid ⟨470, 12000, 101, 100, 3, 30⟩ = true
      ∧ InsSettings.valid ⟨100, 5000, 100, 50, 1, 10⟩ = true
      ∧ InsSettings.valid ⟨2000, 15000, 2000, 1000, 8, 60⟩ = true
      ∧ (allocated .heatFirst).insulation.restarts ⟨470, 12001, 500, 100, 3, 30⟩ = true
      ∧ (allocated .heatFirst).insulation.restarts ⟨470, 12000, 500, 100, 3, 10⟩ = false
      ∧ (allocated .heatFirst).insulation.fresh = true
      ∧ (allocated .heatFirst).insulation.last = some ⟨3180, 0, 200, 40⟩ := by decide +kernel
theorem witness_ClearTripRemoves :
    let s := State.reset.withTrips ⟨{ TripSet.empty with contact := true }, some ⟨.contact, 5⟩⟩
    TakesAtOnce s 0 .general ∧ s.trips.set.isEmpty = false ∧ s.clearedSet.isEmpty = true
      ∧ TakesAtOnce State.reset 0 .general ∧ State.reset.trips.set.isEmpty = true := by decide +kernel

/-- A billing unit with 128 records unread, in a hold. -/
def fullOf (b : Billing) : State := billed { b with w := b.rd + 128, hold := true }

/-- An open interval of one Wh. -/
def oneWh : Interval :=
  { start := 0, bandStart := 0, meterStart := 0, wh := ⟨1, 0, 0⟩, cost := ⟨0, 0, 0⟩,
    flags := RecFlags.clear, merges := 0 }

/-- A billing unit with an open orphan interval of an energy in Wh. -/
def orphanOf (wh : Nat) : Billing :=
  { Billing.reset with orphan := some ⟨{ oneWh with wh := ⟨wh, 0, 0⟩ }, ⟨0, 0, 0⟩⟩ }

/-- The power-on state with an open orphan interval of one Wh. -/
def orphaned : State := billed (orphanOf 1)

/-- A billing unit that holds a record. -/
def holding : State := billed { Billing.reset with held := some aRecord }

theorem witness_SetClockSets :
    TakesAtOnce State.reset 0 .billing ∧ Room State.reset 1 ∧ State.reset.billing.session = none
      ∧ State.reset.billing.orphan = none ∧ State.reset.billing.detachedClose = false
      ∧ (1 : Word) ≠ 0 ∧ TakesAtOnce holding 0 .billing ∧ holding.billing.held.isSome = true
      ∧ TakesAtOnce (billed inSession) 0 .billing ∧ Room (billed inSession) 2
      ∧ (billed inSession).billing.session = inSession.session
      ∧ (billed inSession).billing.interval.isSome = true
      ∧ TakesAtOnce orphaned 0 .billing ∧ orphaned.billing.orphan.isSome = true ∧ Room orphaned 2
      ∧ ∀ b ∈ [Billing.reset, orphanOf 0, inSession], TakesAtOnce (fullOf b) 0 .billing
          ∧ (fullOf b).billing.fill = 128 ∧ (fullOf b).billing.held = none := by decide +kernel
/-- The journal's last free place and its last two: 127 of 128 and a halt level just above. -/
theorem witness_Room :
    Room (billed { Billing.reset with w := 127, rd := 0, hold := true }) 1
      ∧ Room (billed { Billing.reset with w := 118, rd := 0 }) 1
      ∧ ¬Room (billed { Billing.reset with w := 119, rd := 0 }) 1 := by decide +kernel

/-- A tariff of one band in the last bytes of the staging area. -/
def tariffLast (b : Billing) : State := (billed b).pokeAll 0x1FFB [15, 0, 0, 0, 120]

theorem witness_LoadTariffLoads :
    TakesAtOnce (tariffLast Billing.reset) 0 .billing
      ∧ decide (1 ≤ (1 : Byte).toNat ∧ (1 : Byte).toNat ≤ 12 ∧ 0x0640 ≤ (0x1FFB : Half).toNat
        ∧ (0x1FFB : Half).toNat + 4 * (1 : Byte).toNat ≤ 0x1FFF) = true
      ∧ decide (1 ≤ (1 : Byte).toNat ∧ (1 : Byte).toNat ≤ 12 ∧ 0x0640 ≤ (0x1FFC : Half).toNat
        ∧ (0x1FFC : Half).toNat + 4 * (1 : Byte).toNat ≤ 0x1FFF) = false
      ∧ stagedTariff 1 ((tariffLast Billing.reset).mem.readAll 0x1FFB 5) = ⟨15, [⟨0, 120⟩]⟩
      ∧ Tariff.valid ⟨15, [⟨0, 120⟩]⟩ = true ∧ Tariff.valid ⟨15, [⟨0, 1⟩, ⟨1440, 1⟩]⟩ = false
      ∧ (tariffLast Billing.reset).billing.session = none
      ∧ TakesAtOnce (tariffLast inSession) 0 .billing
      ∧ (tariffLast inSession).billing.session ≠ none := by decide +kernel

theorem witness_OpenSessionOpens :
    TakesAtOnce State.reset 0 .billing ∧ State.reset.billing.session = none
      ∧ State.reset.billing.detachedClose = false ∧ State.reset.billing.orphan = none
      ∧ Room State.reset 1 ∧ State.reset.power.keepalive = .stopped
      ∧ TakesAtOnce (billed inSession) 0 .billing
      ∧ (billed inSession).billing.session.isSome = true
      ∧ TakesAtOnce orphaned 0 .billing ∧ orphaned.billing.orphan.isSome = true ∧ Room orphaned 2
      ∧ orphaned.billing.orphan.map (·.interval.isEmpty) = some false
      ∧ (billed (orphanOf 0)).billing.orphan.all (·.interval.isEmpty) = true
      ∧ Room (billed (orphanOf 0)) 1 ∧ (fullOf Billing.reset).billing.fill = 128 := by
  decide +kernel
theorem witness_CloseSessionBegins :
    TakesAtOnce State.reset 0 .billing ∧ State.reset.billing.session = none
      ∧ TakesAtOnce (allocated .heatFirst) 0 .billing
      ∧ (allocated .heatFirst).billing.session.map (·.id) = some 7
      ∧ (allocated .heatFirst).billing.close = none
      ∧ (allocated .heatFirst).power.charge.map (·.slot) = some 2
      ∧ (allocated .heatFirst).relay.state = .closed
      ∧ (allocated .heatFirst).trips.set.weld = false
      ∧ TakesAtOnce (billed inSession) 0 .billing ∧ (billed inSession).relay.state = .opened
      ∧ (billed inSession).power.charge = none := by decide +kernel
/-- An open session with the relay in a state and INFB and WELD as given. -/
def closable (st : RelayState) (infb weld : Bool) : State :=
  (((billed inSession).withRelay ⟨st, none, false⟩).withPins { Pins.low with infb := infb }).withTrips
    ⟨{ TripSet.empty with weld := weld }, if weld then some ⟨.weld, 0⟩ else none⟩
/-- The relay states that make a CLOSE SESSION wait, and WELD, which lets it go on. -/
theorem witness_CloseSessionBegins_relays :
    (∀ st ∈ [RelayState.opened, .closing, .closed, .currentWait, .release, .stuck],
        ∀ x ∈ [(false, false), (true, false), (true, true)],
        TakesAtOnce (closable st x.1 x.2) 0 .billing
          ∧ (closable st x.1 x.2).relay.state = st ∧ (closable st x.1 x.2).pins.infb = x.1
          ∧ (closable st x.1 x.2).trips.set.weld = x.2)
      ∧ (inSession.session.map (·.id) = some 7 ∧ inSession.close = none) := by decide +kernel
/-- A close in a slot, or detached, past its step 2, with an interval of an energy in Wh. -/
def endingOf (slot : Option SlotNo) (wh : Nat) (b : Billing) : Billing :=
  { b with
    close := some ⟨slot, .awaitHeld⟩, session := inSession.session
    interval := some { oneWh with wh := ⟨wh, 0, 0⟩ } }
/-- Detached, empty, full, at the last free place of a hold, and held with its step 2 passed. -/
theorem witness_CloseSessionEndsAndCompletes_forms :
    (∀ x ∈ [(none, 0), (none, 1), (some 3, 0), (some 3, 1)],
        let b := endingOf x.1 x.2 Billing.reset
        b.close = some ⟨x.1, .awaitHeld⟩ ∧ b.session.isSome = true ∧ b.held = none
          ∧ b.waiting = none ∧ b.interval.map (·.isEmpty) = some (x.2 == 0)
          ∧ Room (billed b) (if x.2 = 0 then 1 else 2) ∧ (billed b).mem.wf = true
          ∧ (fullOf b).billing.fill = 128)
      ∧ (let b := { endingOf (some 3) 1 Billing.reset with w := 127, hold := true }
         b.fill = 127 ∧ b.hold = true ∧ b.held = none)
      ∧ (let b := endingOf (some 3) 1 holding.billing
         b.close = some ⟨some 3, .awaitHeld⟩ ∧ b.held.isSome = true)
      ∧ (let s := (placed ending 5 .waiting ⟨2, .setClock 600⟩).setQueue .billing [5]
         s.mem.wf = true ∧ s.billing.close = some ⟨some 3, .awaitHeld⟩)
      ∧ (let s := (placed completing 5 .waiting ⟨2, .setClock 600⟩).setQueue .billing [5]
         s.mem.wf = true ∧ s.billing.outside 415 = false ∧ 3 ∉ s.queue .billing)
      ∧ (let b := { completing.billing with close := some ⟨none, .awaitJournal ⟨1, 2, ⟨6, 2, 1⟩,
            ⟨2, 1, 0⟩, ⟨-320, -440, 280⟩, 415⟩⟩ }
         b.outside 415 = false) := by decide +kernel
theorem witness_CloseSessionEndsAndCompletes :
    ending.mem.wf = true ∧ ending.slot 3 = ⟨.running, some ⟨1, .closeSession 7⟩⟩
      ∧ ending.queue .billing = [] ∧ ending.billing.close = some ⟨some 3, .awaitHeld⟩
      ∧ ending.billing.session = inSession.session ∧ ending.billing.interval = inSession.interval
      ∧ ending.billing.interval.map (·.isEmpty) = some false ∧ ending.billing.waiting = none
      ∧ Room ending 2 ∧ ending.power.keepalive ≠ .expired
      ∧ (queued.billing.close = some ⟨some 3, .awaitRelay⟩)
      ∧ completing.mem.wf = true
      ∧ completing.slot 3 = ⟨.running, some ⟨1, .closeSession 7⟩⟩
      ∧ completing.queue .billing = [] ∧ completing.billing.outside 415 = false
      ∧ (billed { completing.billing with held := some { aRecord with seq := 415 } }).billing.outside
          415 = true := by decide +kernel
theorem witness_CalibrateMeterSets :
    TakesAtOnce State.reset 0 .billing ∧ 4 ≤ (4 : Byte).toNat ∧ (3 : Byte).toNat < 4
      ∧ State.reset.metering.auxc = Channel.reset ∧ State.reset.billing.session = none
      ∧ State.reset.billing.orphan = none ∧ Room State.reset 1
      ∧ State.reset.billing.detachedClose = false
      ∧ (billed (endingOf none 1 Billing.reset)).billing.detachedClose = true
      ∧ TakesAtOnce (billed (endingOf none 1 Billing.reset)) 0 .billing
      ∧ (billed inSession).billing.session.isSome = true ∧ TakesAtOnce (billed inSession) 0 .billing := by
  decide +kernel
/-- Levels 120 and 113 are refused and 120 and 112 accepted; a hold begins at fill 8 under a halt
level of 8, with and without an interval, and ends at fill 1 under a resume level of 1. -/
theorem witness_SetJournalLevelsSets :
    TakesAtOnce State.reset 0 .billing
      ∧ clampNat 8 124 120 < (113 : Byte).toNat + 8 ∧ (112 : Byte).toNat + 8 ≤ clampNat 8 124 120
      ∧ ¬(State.reset.billing.hold = false ∧ clampNat 8 124 120 ≤ State.reset.billing.fill)
      ∧ (let s := billed { Billing.reset with w := 8 }
         TakesAtOnce s 0 .billing ∧ s.billing.hold = false ∧ clampNat 8 124 8 ≤ s.billing.fill
           ∧ s.billing.interval = none)
      ∧ (let s := billed { inSession with w := 8 }
         TakesAtOnce s 0 .billing ∧ s.billing.hold = false ∧ clampNat 8 124 8 ≤ s.billing.fill
           ∧ s.billing.session.isSome = true ∧ s.billing.interval.isSome = true
           ∧ s.billing.held = none ∧ s.billing.fill < 128)
      ∧ (let s := billed { inSession with w := 128 }
         TakesAtOnce s 0 .billing ∧ s.billing.hold = false ∧ clampNat 8 124 8 ≤ s.billing.fill
           ∧ s.billing.held = none ∧ s.billing.fill = 128)
      ∧ (let s := billed { inSession with w := 8, held := some aRecord }
         TakesAtOnce s 0 .billing ∧ s.billing.hold = false ∧ clampNat 8 124 8 ≤ s.billing.fill
           ∧ s.billing.held.isSome = true)
      ∧ (let s := billed { Billing.reset with hold := true }
         TakesAtOnce s 0 .billing ∧ s.billing.hold = true ∧ s.billing.fill ≤ (1 : Byte).toNat) := by
  decide +kernel

/-! ## Witnesses: metering and pricing -/

/-- Four low frames have passed; a fifth at 1 799 dV begins SUPPLY_LOW, and one at 1 950 does not.
A current of 5 dA keeps a current wait, and one of 4 dA ends it. -/
theorem witness_FrameMetered :
    State.reset.metering.closedSeen = false
      ∧ (State.reset.withMetering worked).metering.closedSeen = true
      ∧ inletVoltage [⟨1799, 0⟩, ⟨500, 0⟩] = 1799 ∧ inletVoltage [⟨501, 0⟩] = 501
      ∧ inletVoltage [⟨500, 0⟩] = 0
      ∧ ({ Power.reset with lowCount := 4 }.filterSupply 1799).supplyLow = true
      ∧ ({ Power.reset with lowCount := 4 }.filterSupply 1800).supplyLow = false
      ∧ ({ Power.reset with supplyLow := true }.filterSupply 1950).supplyLow = false
      ∧ 5 ≤ min 800 (inletCurrent [⟨0, 5⟩]) ∧ min 800 (inletCurrent [⟨0, 4⟩]) < 5
      ∧ (State.reset.withRelay ⟨.currentWait, some 0, false⟩).relay.state = .currentWait
      ∧ (State.reset.withRelay ⟨.currentWait, some 0, false⟩).pins.infb = false
      ∧ ((State.reset.withPins ⟨true, false, false, false⟩).pins.infb = true)
      ∧ (0 : Nat) < 860000 + 150000 + 22000 := by decide +kernel

/-- One report waits, counted or not, for a billing unit. -/
def reported (counted : Bool) (b : Billing) : State := (billed b).withMetering { Metering.reset with
  reports := [⟨counted, 0, ⟨1, 0, 0⟩, 1, 5, false, false, false⟩] }

theorem witness_ReportPriced :
    State.reset.metering.reports = [] ∧ (reported true inSession).metering.reports ≠ []
      ∧ (reported true inSession).billing.interval.isSome = true
      ∧ (reported true Billing.reset).billing.interval = none
      ∧ (reported true Billing.reset).billing.orphan = none
      ∧ (reported true orphaned.billing).billing.interval = none
      ∧ (reported true orphaned.billing).billing.orphan.isSome = true
      ∧ (reported false orphaned.billing).billing.orphan = some ⟨oneWh, ⟨0, 0, 0⟩⟩
      ∧ oneWh.isEmpty = false ∧ Room (reported false orphaned.billing) 1
      ∧ (reported false orphaned.billing).mem.wf = true := by decide +kernel
/-- A report that does not count: the orphan interval empty, merging, at a full journal, and with a
write that brings the fill to the halt level of 120. -/
theorem witness_ReportPriced_closes :
    (reported false (orphanOf 0)).billing.orphan.all (·.interval.isEmpty) = true
      ∧ (reported false { orphanOf 1 with held := some aRecord }).billing.held.isSome = true
      ∧ (reported false (fullOf (orphanOf 1)).billing).billing.fill = 128
      ∧ (reported false (fullOf (orphanOf 1)).billing).mem.wf = true
      ∧ (let b := (reported false { orphanOf 1 with w := 119 }).billing
         b.hold = false ∧ b.halt ≤ b.fill + 1 ∧ b.fill < 128 ∧ b.interval = none)
      ∧ (let b := (reported false { orphanOf 1 with w := 118 }).billing
         ¬(b.hold = false ∧ b.halt ≤ b.fill + 1) ∧ b.fill < 128) := by decide +kernel
theorem witness_CostRoundsHalfUp : (-500 : Int) ≤ -500 ∧ (-500 : Int) ≤ 499 ∧ (-500 : Int) ≤ 499 ∧ (499 : Int) ≤ 499
    ∧ nextCarry 0 (-500) = -500 ∧ nextCarry 999 0 = -1 := by decide

/-- Part times just before a second inside a minute, a minute that is no boundary, minute 15 and
minute 360, a multiple of 15 that also starts band 1. -/
theorem witness_SecondAdvances_times :
    ((0 : Word) + 1).toNat % 60 ≠ 0 ∧ ((59 : Word) + 1).toNat % 60 = 0
      ∧ ((59 : Word) + 1).toNat / 60 % 1440 % 15 ≠ 0 ∧ ((899 : Word) + 1).toNat / 60 % 1440 % 15 = 0
      ∧ ((21599 : Word) + 1).toNat / 60 % 1440 = 360 ∧ t1.startsBand 360 = true
      ∧ t1.startsBand 1 = false ∧ 360 % 7 ≠ 0 := by decide +kernel
theorem witness_SecondAdvances_intervals :
    inSession.session.isSome = true ∧ inSession.interval.map (·.isEmpty) = some false
      ∧ inSession.held = none ∧ Room (billed { inSession with partTime := 899 }) 1
      ∧ (billed { inSession with partTime := 899 }).mem.wf = true
      ∧ ({ inSession with pendingTable := some t1 }).pendingTable.isSome = true
      ∧ ({ inSession with held := some aRecord }).held.isSome = true
      ∧ Interval.isEmpty { oneWh with wh := ⟨0, 0, 0⟩ } = true
      ∧ orphaned.billing.interval = none ∧ Room orphaned 1
      ∧ (orphanOf 0).orphan.all (·.interval.isEmpty) = true ∧ (orphanOf 0).held = none
      ∧ ({ orphanOf 1 with held := some aRecord }).held.isSome = true := by decide +kernel
/-- A close at minute 15 with the journal full, and with a write that brings the fill to 120. -/
theorem witness_SecondAdvances_full :
    (let b := (fullOf { inSession with partTime := 899 }).billing
     b.fill = 128 ∧ b.held = none ∧ b.interval.map (·.isEmpty) = some false)
      ∧ (let b := { inSession with partTime := 899, w := 119 }
         b.hold = false ∧ b.halt ≤ b.fill + 1 ∧ b.fill < 127 ∧ b.held = none) := by decide +kernel
/-- An orphan interval at 06:00 of a clock that is set, under bands that start off a boundary of 7. -/
theorem witness_SecondAdvances_orphan_band :
    let b : Billing := { orphaned.billing with
      clockSet := true, partTime := 21599, table := ⟨7, t1.bands⟩ }
    b.interval = none ∧ b.orphan.isSome = true
      ∧ (b.partTime + 1).toNat % 60 = 0 ∧ (b.partTime + 1).toNat / 60 % 1440 % b.table.length ≠ 0
      ∧ b.clockSet = true ∧ b.table.startsBand 360 = true := by decide +kernel

/-! ## Witnesses: power, heating and insulation -/

/-- The worked allocation at a pack voltage, with a CV cap and an overvoltage count. -/
def atVoltage (v cvCap ovCount : Nat) : State :=
  let s := allocated .heatFirst
  (s.withPower { s.power with charge := s.power.charge.map fun c => { c with
    cvCap := cvCap, ovCount := ovCount } }).withMetering { s.metering with
      readings := ⟨2301, 0, v, 0, 0⟩ }

/-- The limit cases of 03_metering. -/
theorem witness_SharesSumToInlet :
    apportion 0 ⟨1, 2, 3⟩ = ⟨0, 0, 0⟩ ∧ apportion 42000 ⟨0, 0, 0⟩ = ⟨0, 0, 42000⟩
      ∧ apportion 11 ⟨1, 1, 1⟩ = ⟨5, 3, 3⟩ ∧ apportion 7 ⟨0, 5, 5⟩ = ⟨0, 4, 3⟩ := by decide

/-- At V_lim a CV cap of 24 falls to 19, below the end current of 20, and one of 25 does not; at
V_lim + 100 a third period reports. -/
theorem witness_ControlPeriodAllocates :
    uncharged.power.charge = none ∧ (atVoltage 4100 24 0).gates.all = true
      ∧ (atVoltage 4100 24 0).mem.wf = true
      ∧ (atVoltage 4100 24 0).power.charge.map (fun c => endsFull c true 930 4100 1000) = some true
      ∧ (atVoltage 4100 25 0).power.charge.map (fun c => endsFull c true 930 4100 1200) = some false
      ∧ (atVoltage 4200 400 2).power.charge.map (fun c => ovUpdate c 4200) = some 3
      ∧ (atVoltage 4199 400 2).power.charge.map (fun c => ovUpdate c 4199) = some 0
      ∧ (atVoltage 4200 400 2).trips.set.packOvervoltage = false := by decide +kernel
theorem witness_KeepaliveEvents :
    (aliveAt 50).power.keepalive = .alive 50 false ∧ 5 * (aliveAt 50).power.period ≤ 50
      ∧ (aliveAt 100).power.keepalive = .alive 100 false ∧ 10 * (aliveAt 100).power.period ≤ 100
      ∧ 0 < (aliveAt 100).power.effGrant
      ∧ Power.effGrant { (aliveAt 100).power with keepalive := .expired } = 0
      ∧ 0 < Power.effGrant { (aliveAt 100).power with keepalive := .expired, fallback := 1 } := by
  decide +kernel
theorem witness_KeepaliveEvents_below :
    (∀ count, (aliveAt 49).power.keepalive = .alive count false →
        count < 5 * (aliveAt 49).power.period)
      ∧ (∀ count half, (aliveAt 99).power.keepalive = .alive count half →
        count < 10 * (aliveAt 99).power.period)
      ∧ ∀ count half, State.reset.power.keepalive ≠ .alive count half := by
  refine ⟨fun _ h => ?_, fun _ _ h => ?_, nofun⟩ <;> · cases h; decide
theorem witness_PinEdgesActAtOnce :
    State.reset.pins.pmrdy = false ∧ State.reset.pins.pmflt = false ∧ State.reset.pins.pkon = false
      ∧ running.pins.pmrdy = true ∧ running.pins.pkon = true ∧ running.pins.pmflt = false
      ∧ running.trips.set.module = false ∧ running.trips.set.isEmpty = true
      ∧ running.power.charge.map (·.slot) = some 2 ∧ running.heating.plan.map (·.slot) = some 1
      ∧ running.insulation.check = some ⟨4, 0⟩ ∧ running.queue .insulation = []
      ∧ running.mem.wf = true
      ∧ (State.reset.withPins { Pins.low with pmflt := true }).pins.pmflt = true
      ∧ (State.reset.withTrips ⟨{ TripSet.empty with module := true }, none⟩).trips.set.module = true
      ∧ orphaned.billing.interval = none
      ∧ (allocated .heatFirst).insulation.check = none := by decide +kernel
/-- The results of a HEAT in slot 1 and a CHARGE in slot 2 that MODULE ends, and the TRIP record of
the session interval: bytes by the layouts of 11_formats. -/
theorem test_module_ends_orders :
    let t := after .pmfltAsserted running
    t.mem.readAll (slotAddr 1 + 32) 24 = [0x08, 0, 0, 0, 0, 150, 0, 100, 0, 20, 0x0B, 0xB8, 0, 0, 1, 1,
        0, 43, 0, 0, 0, 0, 0, 0]
      ∧ t.mem.readAll (slotAddr 2 + 32) 20 = [0x08, 0, 0, 0, 0x01, 0x2C, 0x10, 0x04, 0, 20, 1, 0x01,
        0x90, 0, 0, 0, 0, 0, 0, 0]
      ∧ t.mem.readAll 0x2080 5 = [0, 0, 0, 2, 0x35] := by decide +kernel
/-- The running orders under another billing unit. -/
def runningWith (b : Billing) : State := running.withBilling b
/-- MODULE in a running CHARGE and HEAT with the session's interval open: room in the journal, a
write that brings the fill to 120, a full journal, and a held record. -/
theorem witness_PinEdgesActAtOnce_module :
    running.pins.pmflt = false ∧ running.slot 2 = ⟨.running, some ⟨0, .charge 300 4100 20⟩⟩
      ∧ running.slot 1 = ⟨.running, some ⟨0, .heat 150 100 20 3000 0 0 1⟩⟩
      ∧ running.power.charge.map (·.slot) = some 2 ∧ running.heating.plan.map (·.slot) = some 1
      ∧ running.billing.session.isSome = true ∧ running.billing.interval.isSome = true
      ∧ running.billing.held = none ∧ running.billing.fill < 128
      ∧ ¬(running.billing.hold = false ∧ running.billing.halt ≤ running.billing.fill + 1)
      ∧ (let b := (runningWith { inSession with w := 119 }).billing
         b.hold = false ∧ b.halt ≤ b.fill + 1 ∧ b.fill < 127)
      ∧ (let s := runningWith (fullOf inSession).billing
         s.billing.fill = 128 ∧ s.billing.held = none ∧ s.mem.wf = true)
      ∧ (runningWith { inSession with held := some aRecord }).billing.held.isSome = true
      ∧ (runningWith Billing.reset).billing.session = none := by decide +kernel
theorem witness_PinEdgesActAtOnce_drain :
    OrdersShow (crowded 600) ∧ (crowded 600).pins.pkon = true
      ∧ (crowded 600).insulation.check = some ⟨4, 600⟩ :=
  ⟨ordersShow_crowded, by decide +kernel, by decide +kernel⟩
/-- Counts at 1 with T_max at 600 or the plate at 950 report; at 599 and 949 they do not. Two valid
channels lose the sensors, and three do not. -/
theorem witness_ScanFormsTable :
    overCount 1 true = 2 ∧ overCount 1 false = 0
      ∧ Heating.packHot { Heating.reset with pack := Vector.replicate 8 (.valid 600) } = true
      ∧ Heating.packHot { Heating.reset with pack := Vector.replicate 8 (.valid 599) } = false
      ∧ Heating.plateHot { Heating.reset with plate := .valid 950 } = true
      ∧ Heating.plateHot { Heating.reset with plate := .valid 949 } = false
      ∧ decide (Heating.count { (allocated .heatFirst).heating with mask := 0x3F } < 3) = true
      ∧ decide (Heating.count { (allocated .heatFirst).heating with mask := 0x1F } < 3) = false
      ∧ (allocated .heatFirst).heating.sensorLoss = false
      ∧ (allocated .heatFirst).heating.guarded = false
      ∧ unheated.heating.plan = none ∧ (allocated .heatFirst).trips.set.isEmpty = true := by
  decide +kernel
/-- The plan of the worked allocation at targets: e = 1 warms, 0 holds or ends, and in HOLDING
e = 20 warms again and 19 does not. -/
theorem witness_ScanFormsTable_plan :
    (allocated .heatFirst).heating.plan.map (fun p =>
        (p.phase, p.mode, evaluate p (150 - 149), evaluate p (150 - 150),
          evaluate { p with mode := .once } 0))
      = some (.warming, .keep, .goOn .warming 30, .goOn .holding 0, .reached)
      ∧ (allocated .heatFirst).heating.plan.map (fun p =>
          (evaluate { p with phase := .holding } 20, evaluate { p with phase := .holding } 19))
        = some (.goOn .warming 600, .goOn .holding 0)
      ∧ (allocated .heatFirst).heating.tMin = some 43 ∧ (allocated .heatFirst).mem.wf = true := by
  decide +kernel
/-- A duty that moved by 101 ‰ spoils a half-period and one by 100 does not, and so 51 and 50 dA. -/
theorem witness_HalfPeriodJudged :
    State.reset.insulation.half = none
      ∧ seventh.insulation.half = some ⟨true, 2, 12000, 40, 0, 0, 0, 0, false⟩
      ∧ HalfPeriod.isInvalid ⟨true, 0, 12000, 10, 0, 101, 0, 0, false⟩ = true
      ∧ HalfPeriod.isInvalid ⟨true, 0, 12000, 10, 0, 100, 0, 50, false⟩ = false
      ∧ HalfPeriod.isInvalid ⟨true, 0, 12000, 10, 0, 0, 0, 51, false⟩ = true
      ∧ HalfPeriod.isInvalid ⟨true, 0, 12000, 10, 0, 0, 0, 0, true⟩ = true
      ∧ seventh.insulation.prevDelta = some 20810 ∧ seventh.insulation.sampleNeg = some (-10410)
      ∧ isSettled 21460 20810 = true ∧ isSettled 21461 20810 = false
      ∧ seventh.insulation.check = none ∧ (nextStreak 2 .belowFault = 3)
      ∧ running.insulation.check = some ⟨4, 0⟩ ∧ running.mem.wf = true := by decide +kernel
theorem witness_HalfPeriodJudged_samples :
    (State.reset.withPins { Pins.low with pkon := true }).insulation.samplePos = none
      ∧ (after .pkonAsserted State.reset).insulation.half.isSome = true
      ∧ (after .pkonAsserted State.reset).insulation.sampleNeg = none
      ∧ (after .pkonAsserted State.reset).insulation.prevDelta = none := by decide +kernel
theorem witness_HalfPeriodJudged_drain :
    OrdersShow (crowd seventh 0) ∧ (crowd seventh 0).insulation.check = some ⟨4, 0⟩
      ∧ (crowd seventh 0).insulation.half = seventh.insulation.half
      ∧ isSettled (10400 - -10410) 20810 = true :=
  ⟨ordersShow_of _ (by decide +kernel), by decide +kernel, by decide +kernel, by decide⟩
theorem witness_ResistanceComputed :
    rIsoOf 470 12000 0 = 0 ∧ rIsoOf 470 12000 24000 = 65535 ∧ (0 : Int) < 2 * 12000 - 23999
      ∧ rIsoOf 470 12000 23999 = 65535 ∧ rIsoOf 470 12000 20910 = 3180 := by decide
/-- Ages of 300 and 299 under a window of 30 s, and timers of 600 and 599. -/
theorem witness_FreshnessAndCheckTimeLimits :
    State.reset.insulation.fresh = false ∧ (agedTo 300).insulation.fresh = true
      ∧ (agedTo 300).insulation.last = some ⟨3180, 10 * 30, 200, 40⟩
      ∧ (agedTo 300).insulation.settings.window = 30
      ∧ (agedTo 299).insulation.last.map (·.age) = some (10 * 30 - 1)
      ∧ State.reset.insulation.check = none ∧ running.insulation.check = some ⟨4, 0⟩
      ∧ (crowded 599).insulation.check = some ⟨4, 599⟩
      ∧ ((crowded 600).setQueue .insulation []).insulation.check = some ⟨4, 600⟩
      ∧ (crowded 600).slot 4 = ⟨.running, some ⟨0, .checkInsulation⟩⟩
      ∧ ((crowded 600).setQueue .insulation []).queue .insulation = []
      ∧ ((crowded 600).setQueue .insulation []).mem.wf = true := by decide +kernel
theorem witness_FreshnessAndCheckTimeLimits_drain :
    OrdersShow (crowded 600) ∧ (crowded 600).insulation.check = some ⟨4, 600⟩ :=
  ⟨ordersShow_crowded, by decide +kernel⟩
theorem witness_StatusCopyWritten : (allocated .heatFirst).mem.wf = true := by decide +kernel

/-! ## Witnesses: the relay -/

/-- The power-on state with the relay in a state, INFB at a level and the need set or not. -/
def relayed (st : RelayState) (timer : Option Nat) (infb need : Bool) : State :=
  ((State.reset.withRelay ⟨st, timer, false⟩).withPins { Pins.low with infb := infb }).withPower
    { Power.reset with need := need }

/-- A close timer at 2 and at 1, a closure timer at 3 and at 2, and no timer. -/
theorem witness_RelayCloses :
    (relayed .closing (some 2) false true).pins.infb = false
      ∧ (relayed .closing (some 2) false true).relay = ⟨.closing, some 2, false⟩
      ∧ (relayed .closing (some 1) false true).relay = ⟨.closing, some 1, false⟩
      ∧ (relayed .closing (some 2) false true).trips.set.isEmpty = true
      ∧ (relayed .opened (some 3) true false).pins.infb = true
      ∧ (relayed .opened (some 3) true false).relay = ⟨.opened, some 3, false⟩
      ∧ (relayed .opened (some 2) true false).relay = ⟨.opened, some 2, false⟩
      ∧ (relayed .opened (some 3) true false).trips.set.weld = false
      ∧ State.reset.relay.timer = none
      ∧ (let s := (relayed .closing (some 2) false false).withTrips
            ⟨{ TripSet.empty with contact := true }, some ⟨.contact, 0⟩⟩
         s.trips.set.contact = true ∧ s.power.need = false) := by decide +kernel
/-- Timers at their limits of 100, 20 and 3, and one below them. -/
theorem witness_RelayOpens :
    (∀ x ∈ [(RelayState.closed, 100), (.closed, 99), (.currentWait, 20), (.currentWait, 19),
          (.release, 3), (.release, 2)], ∀ infb ∈ [true, false],
        (relayed x.1 (some x.2) infb true).relay = ⟨x.1, some x.2, false⟩
          ∧ (relayed x.1 (some x.2) infb true).pins.infb = infb
          ∧ (relayed x.1 (some x.2) infb true).trips.set.weld = false)
      ∧ (relayed .stuck none true false).relay.state = .stuck
      ∧ (relayed .opened none true false).relay.state = .opened
      ∧ (relayed .closing none true false).relay.state = .closing
      ∧ (relayed .closed none true true).trips.set.isEmpty = true
      ∧ State.reset.pins.infb = false := by decide +kernel

end Sys2Proof.Tests
end

/-! # The start byte and a rejected transaction (R4) -/

section
namespace Sys2Proof.Machine

/-! ## The start byte's fields -/

/-- The target that the number in bits 1 and 0 of a start byte names (R4). -/
def targetOfCode : Nat → Target
  | 0 => .pointer
  | 1 => .window
  | 2 => .cause
  | _ => .control

theorem startPattern_iff (b : Byte) : startPattern b = true ↔ b.extractLsb' 3 5 = 0b10110#5 :=
  beq_iff_eq

theorem decodeTarget_eq (b : Byte) : decodeTarget b = targetOfCode (b.toNat % 4) := by
  have hbit0 : b.getLsbD 0 = decide (b.toNat % 4 % 2 = 1) := by
    rw [BitVec.getLsbD, Nat.testBit_zero, Nat.mod_mod_of_dvd _ (by decide)]
  have hbit1 : b.getLsbD 1 = decide (b.toNat % 4 / 2 = 1) := by
    rw [BitVec.getLsbD, Nat.testBit_eq_decide_div_mod_eq, decide_eq_decide]
    omega
  have hlt : b.toNat % 4 < 4 := Nat.mod_lt _ (by decide)
  rw [decodeTarget, hbit0, hbit1]
  generalize b.toNat % 4 = code at hlt
  interval_cases code <;> rfl

theorem decodeStart_eq (b : Byte) : decodeStart b =
    if b.extractLsb' 3 5 = 0b10110#5 then
      some (if b.getLsbD 2 = true then .read else .write, targetOfCode (b.toNat % 4))
    else none := by
  simp only [decodeStart, startPattern_iff, decodeTarget_eq]

/-! ## The framing commands, by the phase of the transaction -/

theorem execTransactionStart_of_idle {s : State} (h : s.link.phase = .idle) :
    execTransactionStart s = .next (s.withLink s.link.start) := by
  rw [execTransactionStart, if_pos h]

theorem execTransactionEnd_of_not_idle {s : State} (h : s.link.phase ≠ .idle) :
    execTransactionEnd s = .next s.endTransaction := by
  rw [execTransactionEnd, if_neg h]

theorem execStartByteRejected_of_opened {s : State} (b : Byte) (h : s.link.phase = .opened) :
    execStartByteRejected b s = .next (s.withLink { s.link with phase := phaseAfterStart b }) := by
  rw [execStartByteRejected, if_pos h]

theorem phaseAfterStart_of_decodeStart_none {b : Byte} (h : decodeStart b = none) :
    phaseAfterStart b = .ignored := by
  rw [phaseAfterStart, h]

/-- A transaction that leaves no notice, no reset request and no held byte ends without a trace:
only KSEL's negation shows (R3). -/
theorem State.endTransaction_of_nothing_recorded {s : State} (hwrites : s.link.slotWrites = [])
    (hreset : s.link.resetRequested = false) (hheld : s.link.heldByte = none) :
    s.endTransaction = s.withLink { s.link with phase := .idle } := by
  have horders : s.withOrders { s.orders with notices := s.orders.notices ++ [] } = s := by
    rw [List.append_nil]; rfl
  rw [State.endTransaction, hwrites, hreset, Bool.or_false, horders, ← hwrites, ← hreset, ← hheld]

/-! ## Data commands of a transaction that cannot be of their kind -/

theorem Link.entered_of_ignored {l : Link} (h : l.phase = .ignored) (d : Dir) (t : Target) :
    l.entered d t = none := by
  rw [Link.entered, h]

theorem State.readPair_of_not_entered {s : State} {t : Target} (h : s.link.entered .read t = none)
    (pair : List Byte) (clocked : Nat) : s.readPair t pair clocked = s := by
  rw [State.readPair, h]

theorem State.windowByte_of_not_entered {s : State} (h : s.link.entered .write .window = none)
    (b : Byte) : s.windowByte b = s := by
  rw [State.windowByte, h]

/-- After a rejected start byte no data command does anything: each asks `Link.entered` first,
which no direction and target meet (R4). -/
theorem exec_linkData_of_ignored {s : State} {c : Instr} (h : s.link.phase = .ignored)
    (hc : linkData c = true) : exec c s = .next s := by
  have hnone : ∀ d t, s.link.entered d t = none := Link.entered_of_ignored h
  cases c with
  | pointerRead n | causeRead n | controlRead n =>
    exact congrArg Host.Outcome.next (State.readPair_of_not_entered (hnone _ _) _ n)
  | windowWrite v | slotStateWrite v | readMarkHighByteWrite v | readMarkLowByteWrite v
  | grantRenewal v =>
    exact congrArg Host.Outcome.next (State.windowByte_of_not_entered (hnone _ _) v)
  | pointerWrite data => simp only [exec, execPointerWrite, hnone]
  | windowRead n => simp only [exec, execWindowRead, hnone]
  | causeAcknowledge code => simp only [exec, execCauseAcknowledge, hnone]
  | maskWrite mask => simp only [exec, execMaskWrite, hnone]
  | linkResetRequest mode => simp only [exec, execLinkResetRequest, hnone]
  | _ => exact absurd hc (by simp [linkData])

/-! ## The statement -/

/-- Settles O13: the start byte's fields from `decodeStart_eq`, the rejected transaction from the
link's phase. -/
theorem startByteDecides : Obligations.StartByteDecides := by
  unfold Obligations.StartByteDecides
  refine ⟨fun b => ?fields, by decide, fun s b hopened hrejected => ?rejected,
    fun s c hignored hdata => exec_linkData_of_ignored hignored hdata,
    fun s hignored hwrites hreset hheld => ?ended, fun s hidle => ?started⟩
  case fields => exact (decodeStart_eq b).trans rfl
  case rejected =>
    rw [← phaseAfterStart_of_decodeStart_none hrejected]
    exact execStartByteRejected_of_opened b hopened
  case ended =>
    have hbusy : s.link.phase ≠ .idle := by rw [hignored]; nofun
    exact (execTransactionEnd_of_not_idle hbusy).trans
      (congrArg Host.Outcome.next (State.endTransaction_of_nothing_recorded hwrites hreset hheld))
  case started => exact ⟨_, execTransactionStart_of_idle hidle, rfl⟩

end Sys2Proof.Machine
end

/-! # The three shares of the inlet energy (R53, R54) -/

section
namespace Sys2Proof.Machine

theorem PerCat.total_eq_zero_iff (w : PerCat Nat) :
    w.total = 0 ↔ w.battery = 0 ∧ w.heating = 0 ∧ w.aux = 0 := by
  simp only [PerCat.total, Nat.add_eq_zero_iff, and_assoc]

/-! ## The floors -/

theorem floorShares_total (eIn : Nat) (w : PerCat Nat) : (floorShares eIn w).total =
    eIn * w.battery / w.total + eIn * w.heating / w.total + eIn * w.aux / w.total :=
  rfl

/-- Two additions of quotients carry at most 1 each, so three floors miss at most 2 (R53). -/
theorem floorShares_total_bounds (eIn : Nat) {w : PerCat Nat} (hw : 0 < w.total) :
    (floorShares eIn w).total ≤ eIn ∧ eIn ≤ (floorShares eIn w).total + 2 := by
  have hwhole : (eIn * w.battery + eIn * w.heating + eIn * w.aux) / w.total = eIn := by
    rw [← Nat.mul_add, ← Nat.mul_add]
    exact Nat.mul_div_cancel eIn hw
  rw [Nat.add_div hw, Nat.add_div hw] at hwhole
  rw [floorShares_total]
  split_ifs at hwhole <;> omega

theorem floorShares_zero (w : PerCat Nat) : floorShares 0 w = ⟨0, 0, 0⟩ := by
  simp only [floorShares, PerCat.map, Nat.zero_mul, Nat.zero_div]

/-! ## The remainder -/

theorem addRemainder_total (w a : PerCat Nat) (r : Nat) :
    (addRemainder w a r).total = a.total + r := by
  unfold addRemainder
  split_ifs <;> simp only [PerCat.total] <;> omega

theorem addRemainder_zero (w a : PerCat Nat) : addRemainder w a 0 = a := by
  simp only [addRemainder, Nat.add_zero, ite_self]

/-- A first largest weight is above 0 when any is, so a weight of 0 never takes the remainder. -/
theorem addRemainder_keeps_of_weight_zero {w : PerCat Nat} (hw : 0 < w.total) (a : PerCat Nat)
    (r : Nat) :
    (w.battery = 0 → (addRemainder w a r).battery = a.battery)
      ∧ (w.heating = 0 → (addRemainder w a r).heating = a.heating)
      ∧ (w.aux = 0 → (addRemainder w a r).aux = a.aux) := by
  have hsome := mt w.total_eq_zero_iff.mpr hw.ne'
  unfold addRemainder
  split_ifs with hbattery hheating
  · exact ⟨fun h => by omega, fun _ => rfl, fun _ => rfl⟩
  · exact ⟨fun _ => rfl, fun h => by omega, fun _ => rfl⟩
  · exact ⟨fun _ => rfl, fun _ => rfl, fun h => by omega⟩

/-! ## The shares -/

theorem apportion_of_total_zero (eIn : Nat) {w : PerCat Nat} (hw : w.total = 0) :
    apportion eIn w = ⟨0, 0, eIn⟩ :=
  if_pos hw

theorem apportion_of_total_pos (eIn : Nat) {w : PerCat Nat} (hw : 0 < w.total) :
    apportion eIn w
      = addRemainder w (floorShares eIn w) (eIn - (floorShares eIn w).total) :=
  if_neg hw.ne'

theorem apportion_total (eIn : Nat) (w : PerCat Nat) : (apportion eIn w).total = eIn := by
  rcases Nat.eq_zero_or_pos w.total with hw | hw
  · rw [apportion_of_total_zero eIn hw, PerCat.total, Nat.zero_add, Nat.zero_add]
  · rw [apportion_of_total_pos eIn hw, addRemainder_total,
      Nat.add_sub_cancel' (floorShares_total_bounds eIn hw).1]

theorem apportion_zero (w : PerCat Nat) : apportion 0 w = ⟨0, 0, 0⟩ := by
  rcases Nat.eq_zero_or_pos w.total with hw | hw
  · exact apportion_of_total_zero 0 hw
  · rw [apportion_of_total_pos 0 hw, Nat.zero_sub, addRemainder_zero, floorShares_zero]

theorem apportion_of_weight_zero (eIn : Nat) {w : PerCat Nat} (hw : 0 < w.total) :
    (w.battery = 0 → (apportion eIn w).battery = 0)
      ∧ (w.heating = 0 → (apportion eIn w).heating = 0)
      ∧ (w.aux = 0 → (apportion eIn w).aux = 0) := by
  have hfloor {d : Nat} (hd : d = 0) : eIn * d / w.total = 0 := by
    rw [hd, Nat.mul_zero, Nat.zero_div]
  obtain ⟨hbattery, hheating, haux⟩ := addRemainder_keeps_of_weight_zero hw
    (floorShares eIn w) (eIn - (floorShares eIn w).total)
  rw [apportion_of_total_pos eIn hw]
  exact ⟨fun h => (hbattery h).trans (hfloor h), fun h => (hheating h).trans (hfloor h),
    fun h => (haux h).trans (hfloor h)⟩

/-! ## The statement -/

/-- Settles O45: the sum from `apportion_total`, the remainder's bound from the carries of
`floorShares_total_bounds`, and R54's cases from the case of the weights' total. -/
theorem sharesSumToInlet : Obligations.SharesSumToInlet := by
  unfold Obligations.SharesSumToInlet
  intro eIn w
  refine ⟨apportion_total eIn w, ?noEnergy, fun hw => apportion_of_total_zero eIn hw,
    fun hw => ?weighted⟩
  case noEnergy =>
    rintro rfl
    exact apportion_zero w
  case weighted =>
    obtain ⟨hle, hnear⟩ := floorShares_total_bounds eIn hw
    exact ⟨Nat.sub_le_iff_le_add'.mpr hnear, hle, apportion_of_total_pos eIn hw,
      apportion_of_weight_zero eIn hw⟩

end Sys2Proof.Machine
end

/-! # The insulation resistance and its limits (R157) -/

section
namespace Sys2Proof.Machine

/-! ## The four cases of R_iso -/

theorem rIsoOf_of_nonpos (rM uInj : Nat) {delta : Int} (hdelta : delta ≤ 0) :
    rIsoOf rM uInj delta = 0 :=
  if_pos hdelta

theorem rIsoOf_of_den_nonpos (rM : Nat) {uInj : Nat} {delta : Int} (hdelta : 0 < delta)
    (hden : 2 * (uInj : Int) - delta ≤ 0) : rIsoOf rM uInj delta = 65535 :=
  (if_neg hdelta.not_ge).trans (if_pos hden)

/-- Inside both limits the quotient is of a factor and a denominator of at least 0, so its passage
to `Nat` loses nothing. -/
theorem quotient_nonneg (rM : Nat) {uInj : Nat} {delta : Int} (hdelta : 0 < delta)
    (hden : 0 < 2 * (uInj : Int) - delta) : 0 ≤ rM * delta / (2 * (uInj : Int) - delta) :=
  Int.ediv_nonneg (Int.mul_nonneg rM.cast_nonneg hdelta.le) hden.le

theorem rIsoOf_of_den_pos (rM : Nat) {uInj : Nat} {delta : Int} (hdelta : 0 < delta)
    (hden : 0 < 2 * (uInj : Int) - delta) :
    rIsoOf rM uInj delta =
      if 65534 < (rM * delta / (2 * (uInj : Int) - delta)).toNat then 65535
      else (rM * delta / (2 * (uInj : Int) - delta)).toNat :=
  (if_neg hdelta.not_ge).trans (if_neg hden.not_ge)

theorem rIsoOf_of_quotient_le {rM uInj : Nat} {delta : Int} (hdelta : 0 < delta)
    (hden : 0 < 2 * (uInj : Int) - delta)
    (hq : rM * delta / (2 * (uInj : Int) - delta) ≤ 65534) :
    (rIsoOf rM uInj delta : Int) = rM * delta / (2 * (uInj : Int) - delta) := by
  have hle : (rM * delta / (2 * (uInj : Int) - delta)).toNat ≤ 65534 := Int.toNat_le.mpr hq
  rw [rIsoOf_of_den_pos rM hdelta hden, if_neg hle.not_gt]
  exact Int.toNat_of_nonneg (quotient_nonneg rM hdelta hden)

theorem rIsoOf_of_lt_quotient {rM uInj : Nat} {delta : Int} (hdelta : 0 < delta)
    (hden : 0 < 2 * (uInj : Int) - delta)
    (hq : 65534 < rM * delta / (2 * (uInj : Int) - delta)) : rIsoOf rM uInj delta = 65535 := by
  rw [rIsoOf_of_den_pos rM hdelta hden, if_pos (Int.lt_toNat.mpr hq)]

/-! ## The thresholds -/

/-- The largest level at the largest pack voltage: 2 000 Ω/V at 900 V is 1 800 kΩ (R158). -/
theorem threshold_le {level v : Nat} (hlevel : level ≤ 2000) (hv : v ≤ 9000) :
    threshold level v ≤ 1800 :=
  Nat.div_le_div_right (c := 10000) (Nat.mul_le_mul hlevel hv)

theorem warnRelease_lt {w : Nat} (hw : w ≤ 1800) : warnRelease w < 65535 := by
  unfold warnRelease
  omega

theorem faultRelease_lt {f : Nat} (hf : f ≤ 1800) : faultRelease f < 65535 := by
  unfold faultRelease
  omega

/-! ## The statement -/

/-- Settles O55: one lemma per case of R157, and ABOVE_RANGE is above both releases because
`threshold_le` bounds every threshold. -/
theorem resistanceComputed : Obligations.ResistanceComputed := by
  unfold Obligations.ResistanceComputed
  intro rM uInj delta
  refine ⟨rIsoOf_of_nonpos rM uInj, rIsoOf_of_den_nonpos rM, rIsoOf_of_quotient_le,
    rIsoOf_of_lt_quotient, fun level v hlevel hv => ?releases⟩
  case releases =>
    have hthreshold := threshold_le hlevel hv
    exact ⟨warnRelease_lt hthreshold, faultRelease_lt hthreshold⟩

end Sys2Proof.Machine
end

/-! # What the commands have in common -/

section
namespace Sys2Proof.Machine

/-! ## Frames -/

/-- A frame, part by part. -/
theorem sameBut_iff {ps : List Part} {s t : State} : SameBut ps s t ↔
    (.mem ∉ ps → t.mem = s.mem) ∧ (.pins ∉ ps → t.pins = s.pins)
      ∧ (.link ∉ ps → t.link = s.link) ∧ (.attn ∉ ps → t.attn = s.attn)
      ∧ (.orders ∉ ps → t.orders = s.orders) ∧ (.metering ∉ ps → t.metering = s.metering)
      ∧ (.billing ∉ ps → t.billing = s.billing) ∧ (.power ∉ ps → t.power = s.power)
      ∧ (.heating ∉ ps → t.heating = s.heating) ∧ (.insulation ∉ ps → t.insulation = s.insulation)
      ∧ (.relay ∉ ps → t.relay = s.relay) ∧ (.trips ∉ ps → t.trips = s.trips)
      ∧ (.statusSeq ∉ ps → t.statusSeq = s.statusSeq) ∧ (.pending ∉ ps → t.pending = s.pending) := by
  constructor
  · intro h
    exact ⟨h .mem, h .pins, h .link, h .attn, h .orders, h .metering, h .billing, h .power,
      h .heating, h .insulation, h .relay, h .trips, h .statusSeq, h .pending⟩
  · rintro ⟨h1, h2, h3, h4, h5, h6, h7, h8, h9, h10, h11, h12, h13, h14⟩ p hp
    cases p with
    | mem => exact h1 hp
    | pins => exact h2 hp
    | link => exact h3 hp
    | attn => exact h4 hp
    | orders => exact h5 hp
    | metering => exact h6 hp
    | billing => exact h7 hp
    | power => exact h8 hp
    | heating => exact h9 hp
    | insulation => exact h10 hp
    | relay => exact h11 hp
    | trips => exact h12 hp
    | statusSeq => exact h13 hp
    | pending => exact h14 hp

/-! ## Commands that share a meaning -/

/-- The row of an order is the post of that order in its slot (log entry 4). -/
theorem exec_orderCommand {n : SlotNo} {tag : Half} {o : Order} {c : Instr}
    (h : orderCommand n tag o = some c) (s : State) : exec c s = .next (s.post n tag o) := by
  cases o with
  | unknown code => cases h
  | _ => cases h; rfl

/-- The five rows of a WINDOW data byte have one meaning (log entry 5). -/
theorem exec_windowRow {v : Byte} {c : Instr} (h : windowRow v c) (s : State) :
    exec c s = .next (s.windowByte v) := by
  obtain rfl | rfl | rfl | rfl | rfl := h <;> rfl

/-! ## The front of the queue -/

/-- Settles O1: the step takes the front command and leaves the rest. -/
theorem stepRunsFrontCommand : Obligations.StepRunsFrontCommand := by
  intro c rest s
  exact congrArg (exec c) rfl

/-- Settles O2: each meaning answers with a next state, and the frame lemmas of the operations it
calls keep the queue. -/
theorem everyCommandCompletes : Obligations.EveryCommandCompletes := by
  intro c s
  cases c with
  | withdraw | clearTrip | setClock | loadTariff | openSession | closeSession | calibrateMeter
  | setJournalLevels | setGrant | charge | setPowerStage | heat | loadAcceptance | setSensors
  | checkInsulation | setInsulation => exact ⟨_, rfl, by simp⟩
  | windowWrite | slotStateWrite | readMarkHighByteWrite | readMarkLowByteWrite | grantRenewal =>
    exact ⟨_, rfl, by simp⟩
  | pointerRead | causeRead | controlRead => exact ⟨_, rfl, by simp⟩
  | pointerWrite | windowRead | causeAcknowledge | maskWrite | linkResetRequest =>
    exact ⟨_, rfl, by split <;> simp⟩
  | frameReport =>
    simp only [exec, execFrameReport]
    split
    · exact ⟨_, rfl, by simp⟩
    · exact ⟨_, rfl, rfl⟩
  | _ => exact ⟨_, rfl, by simp [apply_ite State.pending]⟩

end Sys2Proof.Machine
end

/-! # Moves that no invariant sees, but for the drives that fall -/

section
namespace Sys2Proof.Machine

/-! ## What the invariants see of a state -/

/-- The billing unit's part of the header, with the hold (R2, R98). -/
def Billing.ledger (b : Billing) :
    Half × Half × Nat × Nat × Bool × Option Record × Option Half :=
  (b.w, b.rd, b.halt, b.resume, b.hold, b.held, b.flaggedMark)

/-- The three level causes (R14). -/
def Attention.levels (a : Attention) : Bool × Bool × Bool :=
  (a.trip, a.journalHalt, a.insulationWarn)

/-- Every supply gate but the grant's holds (R111, log entry 25). -/
def State.gatesButGrant (s : State) : Bool := { s.gates with grant := true }.all

/-- The eight gates: the grant's and the others. -/
theorem State.gates_all_iff (s : State) :
    s.gates.all = true ↔ s.gatesButGrant = true ∧ 0 < s.power.effGrant := by
  simp only [State.gatesButGrant, Gates.all, State.gates, Bool.and_eq_true, decide_eq_true_eq]
  tauto

theorem State.gatesButGrant_iff (s : State) : s.gatesButGrant = true ↔
    s.billing.sessionGate = true ∧ s.trips.set.isEmpty = true ∧ s.billing.hold = false
      ∧ s.power.supplyLow = false ∧ s.pins.pmrdy = true ∧ s.pins.pkon = true
      ∧ s.insulation.fresh = true := by
  simp only [State.gatesButGrant, Gates.all, State.gates, Bool.and_eq_true, Bool.not_eq_true',
    and_true, and_assoc]

theorem State.heaterHeldOff_iff (s : State) : s.heaterHeldOff = false ↔
    s.trips.set.isEmpty = true ∧ s.heating.guarded = false ∧ s.heating.sensorLoss = false := by
  simp only [State.heaterHeldOff, Bool.or_eq_false_iff, Bool.not_eq_false', and_assoc]

/-- A demand that stands after a move stood before it or was formed with every gate and a CLOSED
relay, and the gates and the relay it needs are kept. -/
def DemandKept (s t : State) : Prop :=
  0 < t.power.iDem →
    (0 < s.power.iDem ∨ s.gates.all = true ∧ s.relay.state = .closed)
      ∧ (s.relay.state = .closed → t.relay.state = .closed)
      ∧ (s.gatesButGrant = true → t.gatesButGrant = true)
      ∧ (0 < s.power.effGrant → 0 < t.power.effGrant)

/-- A duty that stands after a move stood before it or was formed while nothing held the heater off,
and nothing holds it off that did not before. -/
def DutyKept (s t : State) : Prop :=
  0 < t.power.duty →
    (0 < s.power.duty ∨ s.heaterHeldOff = false)
      ∧ (s.heaterHeldOff = false → t.heaterHeldOff = false)

/-- A move that leaves alone what the invariants see beside the drives: memory, link, orders, trips, the
level causes, the energy counters, the billing unit's ledger and the running slots. -/
structure Calm (s t : State) : Prop where
  mem : t.mem = s.mem := by simp
  link : t.link = s.link := by simp
  orders : t.orders = s.orders := by simp
  trips : t.trips = s.trips := by simp
  counters : t.metering.counters = s.metering.counters := by simp
  levels : t.attn.levels = s.attn.levels := by simp
  condition : t.insulation.condition = s.insulation.condition := by simp
  ledger : t.billing.ledger = s.billing.ledger := by simp
  running : ∀ w, t.runningSlot w = s.runningSlot w
  close : CloseHasSession s.billing → CloseHasSession t.billing := by simp

/-- A calm move that also keeps the demand and the duty safe: no invariant sees it. -/
structure Quiet (s t : State) : Prop extends Calm s t where
  demand : DemandKept s t
  duty : DutyKept s t

theorem Calm.trans {s t u : State} (hst : Calm s t) (htu : Calm t u) : Calm s u where
  mem := htu.mem.trans hst.mem
  link := htu.link.trans hst.link
  orders := htu.orders.trans hst.orders
  trips := htu.trips.trans hst.trips
  counters := htu.counters.trans hst.counters
  levels := htu.levels.trans hst.levels
  condition := htu.condition.trans hst.condition
  ledger := htu.ledger.trans hst.ledger
  running w := (htu.running w).trans (hst.running w)
  close h := htu.close (hst.close h)

theorem DemandKept.of_zero {s t : State} (h : t.power.iDem = 0) : DemandKept s t := fun hd => by
  omega

theorem DutyKept.of_zero {s t : State} (h : t.power.duty = 0) : DutyKept s t := fun hd => by omega

theorem DemandKept.of_same {s t : State} (hdem : t.power.iDem ≤ s.power.iDem)
    (hrelay : t.relay.state = s.relay.state) (hgates : t.gatesButGrant = s.gatesButGrant)
    (hgrant : t.power.effGrant = s.power.effGrant) : DemandKept s t := fun hd =>
  ⟨.inl (by omega), by rw [hrelay]; exact id, by rw [hgates]; exact id, by rw [hgrant]; exact id⟩

theorem DutyKept.of_same {s t : State} (hduty : t.power.duty ≤ s.power.duty)
    (htrips : t.trips = s.trips) (hheating : t.heating = s.heating) : DutyKept s t := fun hd =>
  ⟨.inl (by omega), by simp only [State.heaterHeldOff, htrips, hheating]; exact id⟩

theorem Quiet.refl (s : State) : Quiet s s where
  running _ := rfl
  demand := .of_same le_rfl rfl rfl rfl
  duty := .of_same le_rfl rfl rfl

/-- The slot of each runner, from the four blocks. -/
theorem State.runningSlot_congr {s t : State}
    (hcharge : t.power.charge.map (·.slot) = s.power.charge.map (·.slot))
    (hplan : t.heating.plan.map (·.slot) = s.heating.plan.map (·.slot))
    (hcheck : t.insulation.check.map (·.slot) = s.insulation.check.map (·.slot))
    (hclose : t.billing.close.bind (·.slot) = s.billing.close.bind (·.slot)) :
    ∀ w, t.runningSlot w = s.runningSlot w
  | .charge => hcharge
  | .heat => hplan
  | .check => hcheck
  | .close => hclose

/-- Equal parts make equal gates. -/
theorem State.gatesButGrant_congr {s t : State} (hgate : t.billing.sessionGate = s.billing.sessionGate)
    (hhold : t.billing.hold = s.billing.hold) (htrips : t.trips = s.trips)
    (hlow : t.power.supplyLow = s.power.supplyLow) (hpins : t.pins = s.pins)
    (hfresh : t.insulation.fresh = s.insulation.fresh) : t.gatesButGrant = s.gatesButGrant := by
  simp only [State.gatesButGrant, State.gates, hgate, hhold, htrips, hlow, hpins, hfresh]

/-! ## Step 2 of a CLOSE SESSION -/

/-- A close whose step 2 is passed (R86). -/
def Closing.pass (c : Closing) : Closing :=
  match c.phase with
  | .awaitRelay => { c with phase := .awaitHeld }
  | .awaitHeld | .awaitJournal _ => c

theorem State.passStep2_billing (s : State) :
    s.passStep2.billing = { s.billing with close := s.billing.close.map Closing.pass } := by
  have hkept {c : Option Closing} (hc : s.billing.close = c) (h : c.map Closing.pass = c) :
      s.billing = { s.billing with close := c.map Closing.pass } := by rw [h, ← hc]
  unfold State.passStep2
  cases hclose : s.billing.close with
  | none => exact hkept hclose rfl
  | some c =>
    obtain ⟨slot, phase⟩ := c
    cases phase with
    | awaitRelay => rfl
    | _ => exact hkept hclose rfl

@[simp] theorem Closing.pass_pass (c : Closing) : c.pass.pass = c.pass := by
  obtain ⟨slot, phase⟩ := c
  cases phase <;> rfl

@[simp] theorem Closing.pass_slot (c : Closing) : c.pass.slot = c.slot := by
  obtain ⟨slot, phase⟩ := c
  cases phase <;> rfl

@[simp] theorem Closing.pass_early (c : Closing) : c.pass.early = c.early := by
  obtain ⟨slot, phase⟩ := c
  cases phase <;> rfl

/-- The billing unit is as before, or step 2 of its close is passed (R86). -/
def Billing.SameOrPassed (b b' : Billing) : Prop :=
  b' = b ∨ b' = { b with close := b.close.map Closing.pass }

theorem Billing.SameOrPassed.trans {a b c : Billing} (hab : a.SameOrPassed b)
    (hbc : b.SameOrPassed c) : a.SameOrPassed c := by
  obtain rfl | rfl := hab
  · exact hbc
  · obtain rfl | rfl := hbc
    · exact .inr rfl
    · refine .inr ?_
      simp [Function.comp_def]

theorem State.passStep2_sameOrPassed (s : State) : s.billing.SameOrPassed s.passStep2.billing :=
  .inr s.passStep2_billing

/-! ## Moves of the drives and the relay -/

/-- A move of the drives and the relay: the demand and the duty do not rise, and a demand that stands
finds the relay CLOSED where it was. -/
structure DrivesFall (s t : State) : Prop where
  same : SameBut [.billing, .power, .insulation, .relay] s t := by simp [sameBut_iff]
  billing : s.billing.SameOrPassed t.billing := by exact .inl (by simp)
  watch : t.insulation = { s.insulation with half := t.insulation.half } := by simp
  charge : t.power.charge.map (·.slot) = s.power.charge.map (·.slot) := by simp
  grant : t.power.effGrant = s.power.effGrant := by rfl
  low : t.power.supplyLow = s.power.supplyLow := by simp
  demand : 0 < t.power.iDem →
    0 < s.power.iDem ∧ (s.relay.state = .closed → t.relay.state = .closed)
  duty : t.power.duty ≤ s.power.duty := by simp

theorem DrivesFall.refl (s : State) : DrivesFall s s where
  same _ _ := by cases ‹Part› <;> rfl
  demand h := ⟨h, id⟩

theorem DrivesFall.trans {s t u : State} (hst : DrivesFall s t) (htu : DrivesFall t u) :
    DrivesFall s u where
  same := by
    have h1 := sameBut_iff.mp hst.same
    have h2 := sameBut_iff.mp htu.same
    simp only [List.mem_cons, reduceCtorEq, List.not_mem_nil, or_self, or_false, or_true,
      not_false_eq_true, not_true_eq_false, forall_const, false_implies, true_and] at h1 h2
    simp [sameBut_iff, h1, h2]
  billing := hst.billing.trans htu.billing
  watch := by rw [htu.watch, hst.watch]
  charge := htu.charge.trans hst.charge
  grant := htu.grant.trans hst.grant
  low := htu.low.trans hst.low
  demand h := by
    obtain ⟨ht, hclosed⟩ := htu.demand h
    obtain ⟨hs, hclosed'⟩ := hst.demand ht
    exact ⟨hs, hclosed ∘ hclosed'⟩
  duty := htu.duty.trans hst.duty

theorem Billing.SameOrPassed.closeHasSession {b b' : Billing} (h : b.SameOrPassed b') :
    CloseHasSession b' ↔ CloseHasSession b := by
  obtain rfl | rfl := h
  · rfl
  · simp [CloseHasSession, Billing.sessionGate, Option.any_map]

theorem Billing.SameOrPassed.ledger {b b' : Billing} (h : b.SameOrPassed b') :
    b'.ledger = b.ledger := by
  obtain rfl | rfl := h <;> rfl

theorem Billing.SameOrPassed.sessionGate {b b' : Billing} (h : b.SameOrPassed b') :
    b'.sessionGate = b.sessionGate := by
  obtain rfl | rfl := h <;> rfl

theorem Billing.SameOrPassed.closeSlot {b b' : Billing} (h : b.SameOrPassed b') :
    b'.close.bind (·.slot) = b.close.bind (·.slot) := by
  obtain rfl | rfl := h
  · rfl
  · cases b.close <;> simp

theorem Billing.SameOrPassed.hold {b b' : Billing} (h : b.SameOrPassed b') :
    b'.hold = b.hold := by
  obtain rfl | rfl := h <;> rfl

theorem DrivesFall.quiet {s t : State} (h : DrivesFall s t) : Quiet s t := by
  obtain ⟨hmem, hpins, hlink, hattn, horders, hmetering, -, -, hheating, -, -, htrips, -, -⟩ :=
    sameBut_iff.mp h.same
  simp only [List.mem_cons, reduceCtorEq, List.not_mem_nil, or_self, not_false_eq_true,
    forall_const] at hmem hpins hlink hattn horders hmetering hheating htrips
  have hgates : t.gatesButGrant = s.gatesButGrant :=
    State.gatesButGrant_congr h.billing.sessionGate h.billing.hold htrips h.low hpins
      (by rw [h.watch])
  exact
    { mem := hmem, link := hlink, orders := horders, trips := htrips
      counters := by rw [hmetering]
      levels := by rw [hattn]
      condition := by rw [h.watch]
      ledger := h.billing.ledger
      running := State.runningSlot_congr h.charge (by rw [hheating]) (by rw [h.watch])
        h.billing.closeSlot
      close := h.billing.closeHasSession.mpr
      demand := fun hd => by
        obtain ⟨hs, hclosed⟩ := h.demand hd
        exact ⟨.inl hs, hclosed, by rw [hgates]; exact id, by rw [h.grant]; exact id⟩
      duty := .of_same h.duty htrips hheating }

/-! ## The drives (R112, R117, R120) -/

@[simp] theorem State.setDemand_insulation (s : State) (d : Nat) : (s.setDemand d).insulation =
    { s.insulation with half := s.insulation.half.map fun h => h.watch s.power.duty d } := rfl

@[simp] theorem State.setDuty_insulation (s : State) (d : Nat) : (s.setDuty d).insulation =
    { s.insulation with half := s.insulation.half.map fun h => h.watch d s.power.iDem } := rfl

theorem drivesFall_setDemand {s : State} {d : Nat} (h : d ≤ s.power.iDem) :
    DrivesFall s (s.setDemand d) where
  demand hd := ⟨by simp only [State.setDemand_power] at hd; omega, by simp⟩

theorem drivesFall_setDuty {s : State} {d : Nat} (h : d ≤ s.power.duty) :
    DrivesFall s (s.setDuty d) where
  demand hd := ⟨by simpa using hd, by simp⟩
  duty := by simpa using h

theorem drivesFall_withdrawNeed (s : State) : DrivesFall s s.withdrawNeed where
  grant := by rw [State.withdrawNeed_power]; rfl
  demand hd := by
    refine ⟨by simpa using hd, fun hclosed => ?_⟩
    unfold State.withdrawNeed
    split
    · simp [State.setRelay]
    · exact hclosed

theorem drivesFall_failGate (s : State) : DrivesFall s s.failGate where
  watch := by simp [State.failGate]
  charge := by simp [State.failGate_power, Power.gateCharge, Function.comp_def]
  grant := by rw [State.failGate_power]; rfl
  low := by simp [State.failGate_power, Power.gateCharge]
  demand hd := by simp [State.failGate_power] at hd
  duty := by simp [State.failGate_power]

theorem drivesFall_failGateIf (s : State) (held now : Bool) :
    DrivesFall s (s.failGateIf held now) := by
  unfold State.failGateIf
  split
  · exact drivesFall_failGate s
  · exact .refl s

/-! ## The relay (R169 to R176) -/

/-- A relay that is not CLOSED, or a demand of 0, lets the relay move freely. -/
def State.Idle (s : State) : Prop := s.relay.state ≠ .closed ∨ s.power.iDem = 0

theorem State.Idle.demand {s : State} (h : s.Idle) (st : RelayState) (hd : 0 < s.power.iDem) :
    s.relay.state = .closed → st = .closed := fun hclosed => by
  obtain h | h := h
  · exact absurd hclosed h
  · omega

theorem drivesFall_setRelay {s : State} (h : s.Idle) (st : RelayState) (timer : Option Nat)
    (skips : Bool) : DrivesFall s (s.setRelay st timer skips) where
  demand hd := ⟨hd, h.demand st hd⟩

theorem drivesFall_passStep2 (s : State) : DrivesFall s s.passStep2 where
  grant := by rw [State.passStep2_power]
  billing := s.passStep2_sameOrPassed
  demand hd := ⟨by simpa using hd, by simp⟩

theorem drivesFall_enterClosing {s : State} (h : s.Idle) : DrivesFall s s.enterClosing := by
  unfold State.enterClosing
  split
  · exact drivesFall_setRelay h _ _ _
  · exact drivesFall_setRelay h _ _ _

theorem drivesFall_enterOpen {s : State} (h : s.Idle) : DrivesFall s s.enterOpen := by
  have hopened := drivesFall_setRelay h .opened (if s.pins.infb then some 0 else none) false
  have hpassed := hopened.trans (drivesFall_passStep2 _)
  unfold State.enterOpen
  extract_lets opened
  split
  · exact hpassed.trans (drivesFall_enterClosing (.inl (by simp [State.setRelay])))
  · exact hpassed

theorem drivesFall_endReleaseIfOpen (s : State) : DrivesFall s s.endReleaseIfOpen := by
  unfold State.endReleaseIfOpen
  split
  next hrelease => exact drivesFall_enterOpen (.inl (by simp [hrelease.1]))
  next => exact .refl s

theorem drivesFall_enterRelease {s : State} (h : s.Idle) (skips : Bool) :
    DrivesFall s (s.enterRelease skips) :=
  (drivesFall_setRelay h _ _ _).trans (drivesFall_endReleaseIfOpen _)

theorem State.leaveClosed_iDem (s : State) : s.leaveClosed.power.iDem = 0 := by
  simp [State.leaveClosed]

theorem drivesFall_leaveClosed (s : State) : DrivesFall s s.leaveClosed :=
  drivesFall_setDemand (Nat.zero_le _)

theorem drivesFall_openRequest (s : State) (skip : Bool) : DrivesFall s (s.openRequest skip) := by
  have hleft : s.leaveClosed.Idle := .inr s.leaveClosed_iDem
  unfold State.openRequest
  split
  next => exact drivesFall_passStep2 s
  next hclosing => exact drivesFall_enterRelease (.inl (by simp [hclosing])) _
  next =>
    split
    · exact (drivesFall_leaveClosed s).trans (drivesFall_enterRelease hleft _)
    · exact (drivesFall_leaveClosed s).trans (drivesFall_setRelay hleft _ _ _)
  next hwait =>
    split
    · exact drivesFall_enterRelease (.inl (by simp [hwait])) _
    · exact .refl s
  next => exact .refl s
  next => exact .refl s

theorem drivesFall_setNeed (s : State) : DrivesFall s s.setNeed := by
  have hneed : DrivesFall s (s.withPower { s.power with need := true }) :=
    { demand := fun hd => ⟨hd, id⟩ }
  unfold State.setNeed
  split
  next hopened => exact hneed.trans (drivesFall_enterClosing (.inl (by simp [hopened])))
  next hclosed => exact
    { demand := fun hd => ⟨hd, fun _ => rfl⟩ }
  all_goals exact hneed

end Sys2Proof.Machine
end

/-! # The quiet operations of each block -/

section
namespace Sys2Proof.Machine

/-! ## Causes -/

theorem Attention.levels_put_edge (a : Attention) {c : Cause} (h : c.isLevel = false) (b : Bool) :
    (a.put c b).levels = a.levels := by
  cases c <;> first | rfl | cases h

theorem quiet_withAttn {s : State} {a : Attention} (h : a.levels = s.attn.levels) :
    Quiet s (s.withAttn a) where
  levels := h
  running _ := rfl
  demand := .of_same le_rfl rfl rfl rfl
  duty := .of_same le_rfl rfl rfl

theorem quiet_raise (s : State) {c : Cause} (h : c.isLevel = false) : Quiet s (s.raise c) :=
  quiet_withAttn (s.attn.levels_put_edge h true)

theorem quiet_clear (s : State) {c : Cause} (h : c.isLevel = false) : Quiet s (s.clear c) :=
  quiet_withAttn (s.attn.levels_put_edge h false)

/-! ## The billing unit -/

theorem quiet_withBilling {s : State} {b : Billing} (hledger : b.ledger = s.billing.ledger)
    (hclose : b.close = s.billing.close) (hgate : b.sessionGate = s.billing.sessionGate)
    (hsession : b.session.isSome = s.billing.session.isSome) : Quiet s (s.withBilling b) where
  ledger := hledger
  running := State.runningSlot_congr rfl rfl rfl (by simp [hclose])
  close := by simp [CloseHasSession, hclose, hgate, hsession]
  demand := .of_same le_rfl rfl (State.gatesButGrant_congr (by simp [hgate])
    (by simp only [Billing.ledger, Prod.mk.injEq] at hledger; simp [hledger]) rfl rfl rfl rfl) rfl
  duty := .of_same le_rfl rfl rfl

/-- A detached CLOSE SESSION that ends leaves no slot running (R42, R88). -/
theorem quiet_closeDetached {s : State} {ph : ClosePhase}
    (h : s.billing.close = some ⟨none, ph⟩) :
    Quiet s (s.withBilling { s.billing with close := none }) where
  ledger := rfl
  running := State.runningSlot_congr rfl rfl rfl (by simp [h])
  close := by simp [CloseHasSession]
  demand := .of_same le_rfl rfl rfl rfl
  duty := .of_same le_rfl rfl rfl

/-! ## The metering unit and the pins -/

theorem quiet_withMetering {s : State} {m : Metering} (h : m.counters = s.metering.counters) :
    Quiet s (s.withMetering m) where
  counters := h
  running _ := rfl
  demand := .of_same le_rfl rfl rfl rfl
  duty := .of_same le_rfl rfl rfl

theorem Metering.counters_setChannel (m : Metering) (n : Nat) (c : Channel) :
    (m.setChannel n c).counters = m.counters := by
  unfold Metering.setChannel
  split <;> rfl

/-- The lines of the module and the pack may rise, and INFB and PMFLT move (R111). -/
theorem quiet_withPins {s : State} {p : Pins} (hpmrdy : s.pins.pmrdy = true → p.pmrdy = true)
    (hpkon : s.pins.pkon = true → p.pkon = true) : Quiet s (s.withPins p) where
  running _ := rfl
  demand hd := ⟨.inl hd, id, by
    rw [State.gatesButGrant_iff, State.gatesButGrant_iff]
    rintro ⟨h1, h2, h3, h4, h5, h6, h7⟩
    exact ⟨h1, h2, h3, h4, hpmrdy h5, hpkon h6, h7⟩, id⟩
  duty := .of_same le_rfl rfl rfl

/-! ## The heating controller -/

/-- A new table, count, plan or guard state: what begins to hold the heater off takes the duty to 0
(R120). -/
theorem quiet_withHeating {s : State} {h : Heating}
    (hplan : h.plan.map (·.slot) = s.heating.plan.map (·.slot))
    (hguard : h.guarded = s.heating.guarded) (hloss : h.sensorLoss = s.heating.sensorLoss) :
    Quiet s (s.withHeating h) where
  running := State.runningSlot_congr rfl hplan rfl rfl
  demand := .of_same le_rfl rfl rfl rfl
  duty hd := ⟨.inl hd, by simp [State.heaterHeldOff, hguard, hloss]⟩

theorem calm_withHeating {s : State} {h : Heating}
    (hplan : h.plan.map (·.slot) = s.heating.plan.map (·.slot)) : Calm s (s.withHeating h) where
  running := State.runningSlot_congr rfl hplan rfl rfl

theorem quiet_dutyOff {s : State} {h : Heating}
    (hplan : h.plan.map (·.slot) = s.heating.plan.map (·.slot)) :
    Quiet s (s.withHeating h).dutyOff where
  toCalm := (calm_withHeating hplan).trans (drivesFall_setDuty (Nat.zero_le _)).quiet.toCalm
  demand := .of_same (by simp [State.dutyOff]) (by simp)
    (State.gatesButGrant_congr (by simp) (by simp) (by simp) (by simp [State.dutyOff]) (by simp)
      (by simp [State.dutyOff])) (by simp [State.dutyOff]; rfl)
  duty := .of_zero (by simp [State.dutyOff])

theorem quiet_testGuards (s : State) : Quiet s s.testGuards := by
  unfold State.testGuards
  extract_lets _ h s1
  split
  next => exact quiet_dutyOff rfl
  next hkept =>
    exact
      { toCalm := calm_withHeating rfl
        demand := .of_same le_rfl rfl rfl rfl
        duty := fun hd => ⟨.inl hd, by
          simp only [State.heaterHeldOff_iff]
          rintro ⟨htrips, hguard, hloss⟩
          refine ⟨htrips, ?_, hloss⟩
          simpa [s1, hguard] using hkept⟩ }

theorem quiet_reformAcceptance (s : State) : Quiet s s.reformAcceptance :=
  quiet_withHeating rfl rfl rfl

theorem quiet_takeTable (s : State) (scan : Scan) : Quiet s (s.takeTable scan) :=
  quiet_withHeating rfl rfl rfl

theorem quiet_firstHolding (s : State) (p : Plan) (phase : PlanPhase) :
    Quiet s (s.firstHolding p phase) := by
  unfold State.firstHolding
  split
  · exact quiet_raise s rfl
  · exact .refl s

/-! ## The insulation monitor -/

theorem quiet_withInsulation {s : State} {i : Insulation}
    (hcondition : i.condition = s.insulation.condition) (hfresh : i.fresh = s.insulation.fresh)
    (hcheck : i.check.map (·.slot) = s.insulation.check.map (·.slot)) :
    Quiet s (s.withInsulation i) where
  condition := hcondition
  running := State.runningSlot_congr rfl rfl hcheck rfl
  demand := .of_same le_rfl rfl (State.gatesButGrant_congr rfl rfl rfl rfl rfl hfresh) rfl
  duty := .of_same le_rfl rfl rfl

theorem quiet_beginHalf (s : State) (positive : Bool) : Quiet s (s.beginHalf positive) :=
  quiet_withInsulation rfl rfl rfl

/-! ## A gate that fails in a calm move (R112) -/

/-- A calm move after which a failed gate has taken the demand to 0. -/
theorem Calm.failGate {s t : State} (h : Calm s t) (hduty : DutyKept s t) : Quiet s t.failGate where
  toCalm := h.trans (drivesFall_failGate t).quiet.toCalm
  demand := .of_zero (by simp [State.failGate_power])
  duty hd := by
    obtain ⟨hfrom, hoff⟩ := hduty (lt_of_lt_of_le hd (drivesFall_failGate t).duty)
    exact ⟨hfrom, by simpa [State.heaterHeldOff] using hoff⟩

/-- A calm move in which one gate may fail: where it has not, the demand must be safe. -/
theorem Calm.failGateIf {s t : State} (h : Calm s t) (hduty : DutyKept s t) {held now : Bool}
    (hkept : (held = true → now = true) → DemandKept s t) : Quiet s (t.failGateIf held now) := by
  unfold State.failGateIf
  split
  next => exact h.failGate hduty
  next hnot =>
    exact { toCalm := h, demand := hkept (by simpa using hnot), duty := hduty }

/-! ## The power manager -/

theorem calm_withPower {s : State} {p : Power}
    (hcharge : p.charge.map (·.slot) = s.power.charge.map (·.slot)) : Calm s (s.withPower p) where
  running := State.runningSlot_congr hcharge rfl rfl rfl

theorem quiet_withPower {s : State} {p : Power}
    (hcharge : p.charge.map (·.slot) = s.power.charge.map (·.slot))
    (hdem : p.iDem ≤ s.power.iDem) (hduty : p.duty ≤ s.power.duty)
    (hlow : p.supplyLow = s.power.supplyLow) (hgrant : p.effGrant = s.power.effGrant) :
    Quiet s (s.withPower p) where
  toCalm := calm_withPower hcharge
  demand := .of_same hdem rfl (State.gatesButGrant_congr rfl rfl rfl hlow rfl rfl) hgrant
  duty := .of_same hduty rfl rfl

/-- The grant or the keepalive changed: where the effective grant falls to 0 its gate fails (R109,
R112). -/
theorem quiet_regrant {s : State} {p : Power}
    (hcharge : p.charge.map (·.slot) = s.power.charge.map (·.slot))
    (hdem : p.iDem = s.power.iDem) (hduty : p.duty = s.power.duty)
    (hlow : p.supplyLow = s.power.supplyLow) :
    Quiet s ((s.withPower p).failGateIf (decide (0 < s.power.effGrant)) (decide (0 < p.effGrant))) :=
  (calm_withPower hcharge).failGateIf (.of_same hduty.le rfl rfl) fun hheld hd =>
    ⟨.inl (hdem ▸ hd), id,
      (State.gatesButGrant_congr (s := s) (t := s.withPower p) rfl rfl rfl hlow rfl rfl).trans,
      by simpa using hheld⟩

theorem quiet_setKeepalive (s : State) (k : Keepalive) : Quiet s (s.setKeepalive k) :=
  quiet_regrant rfl rfl rfl rfl

theorem quiet_applyGrant (s : State) (g f p : Nat) : Quiet s (s.applyGrant g f p) :=
  quiet_regrant rfl rfl rfl rfl

theorem Power.effGrant_reported (p : Power) :
    { p with keepalive := p.keepalive.reported }.effGrant = p.effGrant := by
  unfold Power.effGrant
  cases h : p.keepalive <;> simp [Keepalive.reported]

theorem quiet_applyStage (s : State) (g : Stage) : Quiet s (s.applyStage g) := by
  have hstage : DrivesFall s (s.withPower { s.power with stage := g }) :=
    { demand := fun hd => ⟨hd, id⟩ }
  unfold State.applyStage
  split
  next hlower => exact (hstage.trans (drivesFall_setDemand (le_of_lt hlower))).quiet
  next => exact hstage.quiet

/-- What the filter may change: its count and SUPPLY_LOW (R110). -/
theorem Power.filterSupply_eq (p : Power) (v : Nat) : p.filterSupply v =
    { p with lowCount := (p.filterSupply v).lowCount, supplyLow := (p.filterSupply v).supplyLow } := by
  unfold Power.filterSupply
  split
  · rfl
  · split <;> rfl

theorem quiet_takeVoltage (s : State) (v : Nat) : Quiet s (s.takeVoltage v) := by
  have hsame := s.power.filterSupply_eq v
  refine (calm_withPower (by rw [hsame])).failGateIf
    (.of_same (by rw [State.withPower_power, hsame]) rfl rfl) fun hheld hd => ?_
  have hlow : s.power.supplyLow = false → (s.power.filterSupply v).supplyLow = false := by
    simpa using hheld
  refine ⟨.inl (by rw [State.withPower_power, hsame] at hd; exact hd), id, ?_, fun hgrant => ?_⟩
  · rw [State.gatesButGrant_iff, State.gatesButGrant_iff]
    rintro ⟨h1, h2, h3, h4, h5, h6, h7⟩
    exact ⟨h1, h2, h3, hlow h4, h5, h6, h7⟩
  · have hnot : s.power.supplyLow = false := by
      cases hs : s.power.supplyLow with
      | false => rfl
      | true => simp [Power.effGrant, hs] at hgrant
    rw [State.withPower_power, Power.effGrant, hlow hnot, hsame]
    simpa [Power.effGrant, hnot] using hgrant

/-! ## INFB -/

theorem quiet_setInfb (s : State) (closed : Bool) : Quiet s (s.setInfb closed) where
  counters := rfl
  levels := rfl
  condition := rfl
  running := State.runningSlot_congr rfl rfl rfl rfl
  demand := .of_same le_rfl rfl rfl rfl
  duty := .of_same le_rfl rfl rfl

/-! ## The control period (R113 to R120) -/

/-- A demand after the slew came from a target above 0, and the relay was CLOSED (R117). -/
theorem slew_pos {closed quiet : Bool} {sUp iDem iTgt : Nat}
    (h : 0 < slew closed quiet sUp iDem iTgt) : closed = true ∧ 0 < iTgt := by
  unfold slew at h
  cases closed with
  | false => simp at h
  | true =>
    refine ⟨rfl, ?_⟩
    simp only [Bool.not_true, Bool.false_eq_true, if_false] at h
    split at h
    · exact h
    · split at h <;> omega

/-- A target above 0 came from a grant that every gate let through (R114, R115). -/
theorem targetDemand_pos {st : Stage} {charge : Option Charge} {i : PeriodInputs}
    (h : 0 < targetDemand st i.v (allocate st charge i)) : i.allGates = true := by
  by_contra hgates
  have hnone : (allocate st charge i) = ⟨0, 0⟩ := by
    cases hp : i.policy <;> simp [allocate, serve, hgates, hp]
  simp [targetDemand, hnone] at h

theorem nextDuty_pos {heldOff quiet : Bool} {duty target : Nat}
    (h : 0 < nextDuty heldOff quiet duty target) : heldOff = false := by
  cases heldOff with
  | false => rfl
  | true => simp [nextDuty] at h

theorem drivesFall_periodNeed (s : State) (need : Bool) : DrivesFall s (s.periodNeed need) := by
  unfold State.periodNeed
  split
  · exact drivesFall_setNeed s
  · exact drivesFall_withdrawNeed s

theorem State.periodNeed_closed {s : State} (need : Bool) (h : s.relay.state = .closed) :
    (s.periodNeed need).relay.state = .closed := by
  unfold State.periodNeed State.setNeed State.withdrawNeed
  rw [h]
  split
  · rfl
  · split
    · rfl
    · exact h

/-- A demand formed with every gate and the relay CLOSED (R117). -/
theorem quiet_setDemand {s : State} {d : Nat}
    (h : 0 < d → s.gates.all = true ∧ s.relay.state = .closed) : Quiet s (s.setDemand d) where
  running := State.runningSlot_congr (by simp) (by simp) rfl (by simp)
  demand hd := ⟨.inr (h (by simpa using hd)), by simp,
    (State.gatesButGrant_congr (by simp) (by simp) (by simp) (by simp) (by simp) rfl).trans, id⟩
  duty := .of_same (by simp) (by simp) (by simp)

/-- A duty formed while nothing holds the heater off (R120). -/
theorem quiet_setDuty {s : State} {d : Nat} (h : 0 < d → s.heaterHeldOff = false) :
    Quiet s (s.setDuty d) where
  running := State.runningSlot_congr (by simp) (by simp) rfl (by simp)
  demand := .of_same (by simp) (by simp)
    (State.gatesButGrant_congr (by simp) (by simp) (by simp) (by simp) (by simp) rfl) rfl
  duty hd := ⟨.inr (h (by simpa using hd)), by simp [State.heaterHeldOff]⟩

/-! ## The tick -/

theorem Power.effGrant_tick (p : Power) : p.tick.effGrant = p.effGrant := by
  unfold Power.effGrant Power.tick
  cases h : p.keepalive <;> simp [Keepalive.tick]

end Sys2Proof.Machine
end

/-! # An invariant through the operations of the blocks -/

section
namespace Sys2Proof.Machine

/-! ## Where an invariant stands aside for a while -/

/-- What a command has begun and not yet ended: the orders taken from their queue or post and not yet
ended or running, the blocks whose queue is still to be drained, and an indicator at 000Ch that is
still to be written. -/
structure Busy where
  limbo : List (SlotNo × Order)
  draining : List Block
  stale : Bool

/-- Nothing is begun. -/
def Busy.none : Busy := ⟨[], [], false⟩

/-- An order is taken. -/
def Busy.take (l : Busy) (n : SlotNo) (o : Order) : Busy := { l with limbo := (n, o) :: l.limbo }

/-- A block's queue is to be drained. -/
def Busy.drain (l : Busy) (b : Block) : Busy := { l with draining := b :: l.draining }

/-- The blocks whose queue is to be drained after an order is taken: a CLOSE SESSION may end at once. -/
def Busy.afterTake (l : Busy) : Order → Busy
  | .closeSession _ => l.drain .billing
  | _ => l

/-- The invariant does not see what is begun, except the indicator. -/
def LabelFree (P : Busy → State → Prop) : Prop :=
  ∀ (l l' : Busy) (s : State), l.stale = l'.stale → P l s → P l' s

/-- A slot holds a running order of a kind. -/
def State.RunsAs (s : State) (n : SlotNo) (w : Runner) : Prop :=
  (s.slot n).state = .running ∧ ∃ p, (s.slot n).posted = some p ∧ orderRunner p.order = some w

/-! ## Two parts of a composite operation -/

/-- The monitor takes a new condition and freshness: INSULATION_WARN follows, and the insulation gate
may fail (R149, R161, R162). -/
def State.newCondition (s : State) (i : Insulation) : State :=
  ((s.withInsulation i).reportWarn s.insulation.condition i.condition).failGateIf
    s.insulation.fresh i.fresh

/-- What a trip report does after the drives are down (R179). -/
def State.tripRest (s : State) (k : TripKind) : State :=
  let s1 := (s.openRequest k.skips).tripCharge.tripPlan
  (s1.closeInterval .trip s1.billing.band false).weldPasses k

theorem State.tripReport_of_new {s : State} {k : TripKind} (h : s.trips.set.has k = false) :
    s.tripReport k = (s.latchTrip k).tripDrives.tripRest k := by
  simp [State.tripReport, h, State.tripRest, State.tripEffects]

/-- The first step of a CLOSE SESSION: its slot runs, its session is closing, a running CHARGE ends, and
the session gate fails (R86). -/
def State.startClose (s : State) (n : SlotNo) (ses : Session) : State :=
  (((s.setSlotState n .running).withBilling { s.billing with
    session := some { ses with closing := true }
    close := some ⟨some n, .awaitRelay⟩ }).endCharge endSessionClosed).failGate

/-! ## What the operations of the blocks are made of -/

/-- A predicate is kept by every move that the operations of the blocks are made of. -/
structure BodyKept (P : Busy → State → Prop) : Prop where
  quiet : ∀ {l s t}, Quiet s t → P l s → P l t
  relabel : ∀ {l l' : Busy} {s}, l.limbo = l'.limbo → l.stale = l'.stale →
    l.draining ⊆ l'.draining → P l s → P l' s
  /- The journal and the header (R93 to R102). -/
  journal : ∀ {l s} (r : Record), s.billing.fill < 128 → P l s → P l (s.journalWrite r)
  holdRecord : ∀ {l s} (r : Record), s.billing.held = none → P l s →
    P l ((s.withBilling { s.billing with held := some r }).poke Config.hdrHeld 1)
  freeHeld : ∀ {l s}, P l s →
    P l ((s.withBilling { s.billing with held := none }).poke Config.hdrHeld 0)
  holdBegins : ∀ {l s}, P l s →
    P l (((s.withBilling { s.billing with hold := true }).raise .journalHalt).failGate)
  holdEnds : ∀ {l s}, P l s → P l s.endHold
  levels : ∀ {l s} (halt resume : Nat), P l s →
    P l (((s.withBilling { s.billing with halt := halt, resume := resume }).poke Config.hdrHalt
      (BitVec.ofNat 8 halt)).poke Config.hdrResume (BitVec.ofNat 8 resume))
  mark : ∀ {l s} (m : Half), P l s → P { l with stale := true }
    ((s.withBilling { s.billing with rd := m }).pokeAll Config.hdrRd (beBytes 2 m.toNat))
  shown : ∀ {l s}, P l s → P { l with stale := false } s.showFlagged
  /- Trips and the insulation condition (R159 to R162, R178 to R183). -/
  trip : ∀ {l s} {k : TripKind}, s.trips.set.has k = false → P l s →
    P l (s.latchTrip k).tripDrives
  clears : ∀ {l s}, P l s → P l s.clearTrips
  condition : ∀ {l s} {i : Insulation}, i.check = s.insulation.check →
    (i.condition = .fault → s.insulation.condition = .fault ∨ s.trips.set.insulation = true) →
    P l s → P l (s.newCondition i)
  fault : ∀ {l s} {i : Insulation}, i.check = s.insulation.check → i.condition = .fault →
    s.trips.set.insulation = false → P l s →
    P l ((s.newCondition i).latchTrip .insulation).tripDrives
  /- Sessions (R81, R87). -/
  sessionOpens : ∀ {l s} (ses : Session) (count : Nat), s.billing.session = none → P l s →
    P l (s.withBilling { s.billing with sessionCounter := count, session := some ses })
  sessionEnds : ∀ {l s slot} (sum : CloseSummary), s.billing.close = some ⟨slot, .awaitHeld⟩ →
    P l s → P l (s.withBilling { s.billing with
      session := none, interval := none, close := some ⟨slot, .awaitJournal sum⟩ })
  /- The ends of orders (R30, R34, R88). -/
  finishes : ∀ {l s n o} (e : Ending), P (l.take n o) s → P l (s.finish n e)
  chargeEnds : ∀ {l s n c} (e : Ending), s.power.charge = some c →
    n = c.slot ∨ s.RunsAs n .charge → P l s → P l (s.dropCharge.finish n e)
  planEnds : ∀ {l s n p} (e : Ending), s.heating.plan = some p →
    n = p.slot ∨ s.RunsAs n .heat → P l s → P l (s.dropPlan.finish n e)
  checkEnds : ∀ {l s c} (e : Ending), s.insulation.check = some c → P l s →
    P (l.drain .insulation)
      ((s.withInsulation { s.insulation with check := none }).finish c.slot e)
  closeEnds : ∀ {l s n ph} (e : Ending), s.billing.close = some ⟨some n, ph⟩ → P l s →
    P (l.drain .billing) ((s.withBilling { s.billing with close := none }).finish n e)
  /- Orders that begin to run (R31, R33). -/
  chargeRuns : ∀ {l s n o} {c : Charge}, orderRunner o = some .charge → c.slot = n →
    s.power.charge = none → P (l.take n o) s →
    P l ((s.setSlotState n .running).withPower
      { s.power with charge := some c, lastVLim := c.vLim })
  planRuns : ∀ {l s n o} {p : Plan}, orderRunner o = some .heat → p.slot = n →
    s.heating.plan = none → P (l.take n o) s →
    P l ((s.setSlotState n .running).withHeating { s.heating with plan := some p })
  checkRuns : ∀ {l s n}, LabelFree P ∨ s.insulation.check = none →
    P (l.take n .checkInsulation) s →
    P l ((s.setSlotState n .running).withInsulation { s.insulation with check := some ⟨n, 0⟩ })
  closeRuns : ∀ {l s n id ses}, s.billing.session = some ses → s.billing.close = none →
    P (l.take n (.closeSession id)) s → P l (s.startClose n ses)

namespace BodyKept

variable {P : Busy → State → Prop} (k : BodyKept P) {l : Busy} {s : State}
include k

/-! ## The journal (R92 to R102) -/

theorem weaken (b : Block) (h : P l s) : P (l.drain b) s :=
  k.relabel (l := l) rfl rfl (List.subset_cons_self _ _) h

theorem falls {t : State} (h : DrivesFall s t) (hs : P l s) : P l t := k.quiet h.quiet hs

theorem placeRecord (r : Record) (h : P l s) : P l (s.placeRecord r) := by
  obtain ⟨hroom, heq⟩ | ⟨-, hheld, heq⟩ | ⟨-, -, heq⟩ := s.placeRecord_cases r
  · exact heq ▸ k.journal r hroom h
  · exact heq ▸ k.holdRecord r hheld h
  · exact heq ▸ k.quiet (quiet_withBilling rfl rfl rfl rfl) h

theorem cutInterval {ses : Session} (hses : s.billing.session = some ses) (i : Interval)
    (cause : CloseCause) (bandEnd : Nat) (h : P l s) : P l (s.cutInterval ses i cause bandEnd).2 :=
  k.quiet (quiet_withBilling rfl rfl (by simp [Billing.sessionGate, hses, Session.afterWritten])
    (by simp [hses])) (k.quiet (quiet_withBilling rfl rfl rfl rfl) h)

theorem beginInterval (meter : Word) (h : P l s) : P l (s.beginInterval meter) :=
  k.quiet (quiet_withBilling rfl rfl rfl rfl) h

theorem closeIntervalBy {place : State → Record → State}
    (hplace : ∀ {s : State} (r : Record), P l s → P l (place s r)) (cause : CloseCause)
    (bandEnd : Nat) (adopted : Bool) (h : P l s) :
    P l (s.closeIntervalBy place cause bandEnd adopted) := by
  unfold State.closeIntervalBy
  split
  next ses i hses _ =>
    split
    · exact k.quiet (quiet_withBilling rfl rfl rfl rfl) h
    · split
      · exact k.quiet (quiet_withBilling rfl rfl rfl rfl) h
      · exact hplace _ (k.beginInterval _ (k.cutInterval hses _ _ _ h))
  next => exact h

theorem beginHold (h : P l s) : P l s.beginHold :=
  k.closeIntervalBy (fun r hr => k.placeRecord r hr) _ _ _ (k.holdBegins h)

theorem enterRecord (r : Record) (h : P l s) : P l (s.enterRecord r) := by
  unfold State.enterRecord
  extract_lets s1
  split
  · exact k.beginHold (k.placeRecord r h)
  · exact k.placeRecord r h

theorem closeInterval (cause : CloseCause) (bandEnd : Nat) (adopted : Bool) (h : P l s) :
    P l (s.closeInterval cause bandEnd adopted) :=
  k.closeIntervalBy (fun r hr => k.enterRecord r hr) _ _ _ h

theorem record (r : Record) (h : P l s) : P l (s.record r) :=
  k.enterRecord _ (k.quiet (quiet_withBilling rfl rfl rfl rfl) h)

theorem closeOrphan (cause : CloseCause) (bandEnd : Nat) (h : P l s) :
    P l (s.closeOrphan cause bandEnd) := by
  unfold State.closeOrphan
  split
  next =>
    split
    · exact k.quiet (quiet_withBilling rfl rfl rfl rfl) h
    · split
      · exact k.quiet (quiet_withBilling rfl rfl rfl rfl) h
      · exact k.enterRecord _ (k.quiet (quiet_withBilling rfl rfl rfl rfl)
          (k.quiet (quiet_withBilling rfl rfl rfl rfl) h))
  next => exact h

theorem adoptPending (h : P l s) : P l s.adoptPending := by
  unfold State.adoptPending
  split
  · exact k.quiet (quiet_withBilling rfl rfl rfl rfl) h
  · exact h

/-! ## Clock and tariffs (R63 to R76) -/

theorem clockClose (h : P l s) : P l s.clockClose := by
  unfold State.clockClose
  split
  next ses i hses _ => exact k.enterRecord _ (k.cutInterval hses _ _ _ h)
  next => exact k.closeOrphan _ _ h

theorem clockReopen (h : P l s) : P l s.clockReopen := by
  unfold State.clockReopen
  split
  · exact k.beginInterval _ h
  · exact h

theorem applySetClock (t : Word) (h : P l s) : P l (s.applySetClock t) :=
  k.clockReopen (k.record _ (k.quiet (quiet_withBilling rfl rfl rfl rfl) (k.clockClose h)))

theorem takeSetClock (t : Word) (h : P l s) : P l (s.takeSetClock t).2 := by
  unfold State.takeSetClock
  split
  · exact h
  · split
    · exact h
    · exact k.applySetClock t h

theorem disposeTariff (t : Tariff) (h : P l s) : P l (s.disposeTariff t).2 := by
  unfold State.disposeTariff
  split
  · exact k.quiet (quiet_withBilling rfl rfl rfl rfl) h
  · exact k.quiet (quiet_withBilling rfl rfl rfl rfl) h

theorem takeLoadTariff (offset : Half) (count : Byte) (h : P l s) :
    P l (s.takeLoadTariff offset count).2 := by
  unfold State.takeLoadTariff
  extract_lets t
  split
  · exact h
  · split
    · exact h
    · exact k.disposeTariff _ h

theorem orphanMinute (m band : Nat) (h : P l s) : P l (s.orphanMinute m band) := by
  unfold State.orphanMinute
  split
  · exact k.closeOrphan _ _ h
  · split
    · exact k.quiet (quiet_withBilling rfl rfl rfl rfl) h
    · exact h

theorem minuteStart (band : Nat) (h : P l s) : P l (s.minuteStart band) := by
  unfold State.minuteStart
  extract_lets m
  split
  next =>
    split
    · exact k.closeInterval _ _ _ (k.adoptPending h)
    · exact k.closeInterval _ _ _ h
    · exact h
  next => exact k.orphanMinute _ _ h

theorem advanceTime (h : P l s) : P l s.advanceTime :=
  k.quiet (quiet_withBilling rfl rfl rfl rfl) h

/-! ## The ends of standing orders (R34, R127, R146, R165) -/

theorem endCharge (cause : Byte) (h : P l s) : P l (s.endCharge cause) := by
  unfold State.endCharge
  split
  next c hc => exact k.chargeEnds _ hc (.inl rfl) h
  next => exact h

theorem tripCharge (h : P l s) : P l s.tripCharge := by
  unfold State.tripCharge
  split
  next c hc => exact k.chargeEnds _ hc (.inl rfl) h
  next => exact h

theorem endPlan (cause : Byte) (h : P l s) : P l (s.endPlan cause) := by
  unfold State.endPlan
  split
  next p hp => exact k.quiet (quiet_raise _ rfl) (k.planEnds _ hp (.inl rfl) h)
  next => exact h

theorem tripPlan (h : P l s) : P l s.tripPlan := by
  unfold State.tripPlan
  split
  next p hp => exact k.quiet (quiet_raise _ rfl) (k.planEnds _ hp (.inl rfl) h)
  next => exact h

theorem endCheck (e : Ending) (h : P l s) : P (l.drain .insulation) (s.endCheck e) := by
  unfold State.endCheck
  split
  next c hc => exact k.checkEnds _ hc h
  next => exact k.weaken _ h

/-! ## Trips (R178, R179) -/

theorem weldPasses (kind : TripKind) (h : P l s) : P l (s.weldPasses kind) := by
  unfold State.weldPasses
  split
  · exact k.falls (drivesFall_passStep2 _) h
  · exact h

theorem tripRest (kind : TripKind) (h : P l s) : P l (s.tripRest kind) :=
  k.weldPasses _ (k.closeInterval _ _ _ (k.tripPlan (k.tripCharge
    (k.falls (drivesFall_openRequest s _) h))))

theorem tripReport (kind : TripKind) (h : P l s) : P l (s.tripReport kind) := by
  cases hnew : s.trips.set.has kind with
  | true => rw [State.tripReport_again s kind hnew]; exact h
  | false => rw [State.tripReport_of_new hnew]; exact k.tripRest kind (k.trip hnew h)

theorem tripIf (c : Bool) (kind : TripKind) (h : P l s) : P l (s.tripIf c kind) := by
  unfold State.tripIf
  split
  · exact k.tripReport kind h
  · exact h

/-! ## Sessions (R80 to R88) -/

end BodyKept

/-- A record that enters the journal leaves the close alone. -/
theorem State.placeRecord_close (s : State) (r : Record) :
    (s.placeRecord r).billing.close = s.billing.close := by
  obtain ⟨-, heq⟩ | ⟨-, -, heq⟩ | ⟨-, -, heq⟩ := s.placeRecord_cases r <;>
    simp [heq, State.journalWrite_billing]

theorem State.placeRecord_session (s : State) (r : Record) :
    (s.placeRecord r).billing.session = s.billing.session := by
  obtain ⟨-, heq⟩ | ⟨-, -, heq⟩ | ⟨-, -, heq⟩ := s.placeRecord_cases r <;>
    simp [heq, State.journalWrite_billing]

theorem State.closeIntervalBy_close {place : State → Record → State}
    (hplace : ∀ (s : State) (r : Record), (place s r).billing.close = s.billing.close) (s : State)
    (cause : CloseCause) (bandEnd : Nat) (adopted : Bool) :
    (s.closeIntervalBy place cause bandEnd adopted).billing.close = s.billing.close := by
  unfold State.closeIntervalBy
  split
  · split
    · rfl
    · split
      · rfl
      · exact hplace _ _
  · rfl

theorem State.beginHold_close (s : State) : s.beginHold.billing.close = s.billing.close := by
  simp [State.beginHold, State.closeIntervalBy_close State.placeRecord_close]

theorem State.enterRecord_close (s : State) (r : Record) :
    (s.enterRecord r).billing.close = s.billing.close := by
  unfold State.enterRecord
  extract_lets s1
  split
  · rw [State.beginHold_close, State.placeRecord_close]
  · exact State.placeRecord_close s r

theorem State.endClose_close (s : State) : s.endClose.billing.close = s.billing.close := by
  unfold State.endClose
  split
  · split
    · rfl
    · exact State.enterRecord_close _ _
  · rfl

theorem State.adoptPending_close (s : State) : s.adoptPending.billing.close = s.billing.close := by
  unfold State.adoptPending
  split <;> rfl

/-- Without a session no record opens one. -/
theorem State.enterRecord_session_none {s : State} (r : Record) (h : s.billing.session = none) :
    (s.enterRecord r).billing.session = none := by
  unfold State.enterRecord
  extract_lets s1
  have hs1 : s1.billing.session = none := (State.placeRecord_session s r).trans h
  split
  · simp [State.beginHold, State.closeIntervalBy, hs1]
  · exact hs1

theorem State.closeOrphan_session_none {s : State} (cause : CloseCause) (bandEnd : Nat)
    (h : s.billing.session = none) : (s.closeOrphan cause bandEnd).billing.session = none := by
  unfold State.closeOrphan
  split
  · split
    · exact h
    · split
      · exact h
      · exact State.enterRecord_session_none _ h
  · exact h

namespace BodyKept

variable {P : Busy → State → Prop} (k : BodyKept P) {l : Busy} {s : State}
include k

theorem applyOpenSession (id battery heating aux : Word) (hnone : s.billing.session = none)
    (h : P l s) : P l (s.applyOpenSession id battery heating aux) :=
  k.quiet (quiet_setKeepalive _ _) (k.beginInterval _ (k.record _
    (k.sessionOpens _ _ (State.closeOrphan_session_none _ _ hnone) (k.closeOrphan _ _ h))))

theorem takeOpenSession (id battery heating aux : Word) (h : P l s) :
    P l (s.takeOpenSession id battery heating aux).2 := by
  unfold State.takeOpenSession
  split
  · exact h
  · split
    · exact h
    next hfree =>
      simp only [not_or, Option.not_isSome_iff_eq_none] at hfree
      exact k.applyOpenSession _ _ _ _ hfree.1 h

theorem endClose (h : P l s) : P l s.endClose := by
  unfold State.endClose
  split
  next ses i hses _ =>
    split
    · exact k.quiet (quiet_withBilling rfl rfl rfl rfl) h
    · exact k.enterRecord _ (k.cutInterval hses _ _ _ h)
  next => exact h

theorem composeClose {slot : Option SlotNo} (ses : Session)
    (hclose : s.billing.close = some ⟨slot, .awaitHeld⟩) (h : P l s) :
    P l (s.composeClose slot ses) :=
  k.enterRecord _ (k.quiet (quiet_setKeepalive _ _) (k.sessionEnds _ hclose
    (k.quiet (quiet_withBilling rfl rfl rfl rfl) h)))

theorem completeClose (h : P l s) : P (l.drain .billing) s.completeClose := by
  unfold State.completeClose
  split
  next slot sum hclose =>
    split
    · exact k.weaken _ h
    · extract_lets s1
      cases slot with
      | some n => exact k.closeEnds _ hclose h
      | none => exact k.weaken _ (k.quiet (quiet_closeDetached hclose) h)
  next => exact k.weaken _ h

theorem continueClose (h : P l s) : P (l.drain .billing) s.continueClose := by
  unfold State.continueClose
  split
  next slot hclose =>
    split
    · exact k.weaken _ h
    · extract_lets s1
      have hs1 : s1.billing.close = some ⟨slot, .awaitHeld⟩ :=
        (State.adoptPending_close _).trans ((State.endClose_close s).trans hclose)
      split
      · exact k.completeClose (k.composeClose _ hs1 (k.adoptPending (k.endClose h)))
      · exact k.weaken _ h
  next => exact k.weaken _ h

theorem beginClose {n : SlotNo} {ses : Session} (h : P l (s.startClose n ses)) :
    P l ((s.setSlotState n .running).beginClose n ses) := by
  have hopen := k.falls (drivesFall_openRequest _ false) h
  unfold State.beginClose
  extract_lets _ s1 s2 s3
  split
  · exact k.falls (drivesFall_passStep2 _) hopen
  · exact hopen

theorem takeCloseSession {n : SlotNo} {id : Word} (h : P (l.take n (.closeSession id)) s) :
    P (l.drain .billing) (s.takeCloseSession n id) := by
  unfold State.takeCloseSession
  split
  next ses hses =>
    split
    · exact k.weaken _ (k.finishes _ h)
    next hfree =>
      simp only [not_or, Option.not_isSome_iff_eq_none] at hfree
      exact k.continueClose (k.beginClose (k.closeRuns hses hfree.2 h))
  next => exact k.weaken _ (k.finishes _ h)

theorem takeCalibrate (channel : Byte) (gain : Word) (offset : Half) (h : P l s) :
    P l (s.takeCalibrate channel gain offset).2 := by
  unfold State.takeCalibrate
  split
  · exact h
  · extract_lets g q
    split
    · exact h
    · exact k.record _ (k.quiet (quiet_withMetering (Metering.counters_setChannel _ _ _)) h)

theorem retestHold (h : P l s) : P l s.retestHold := by
  unfold State.retestHold
  split
  · exact k.beginHold h
  · split
    · exact k.holdEnds h
    · exact h

theorem takeJournalLevels (halt resume : Byte) (h : P l s) :
    P l (s.takeJournalLevels halt resume).2 := by
  unfold State.takeJournalLevels
  extract_lets hl
  split
  · exact h
  · exact k.retestHold (k.levels _ _ h)

theorem releaseHeld (h : P l s) : P l s.releaseHeld := by
  unfold State.releaseHeld
  split
  · split
    · exact k.enterRecord _ (k.freeHeld h)
    · exact h
  · exact h

theorem releaseWaiting (h : P l s) : P l s.releaseWaiting := by
  unfold State.releaseWaiting
  split
  · exact k.enterRecord _ (k.quiet (quiet_withBilling rfl rfl rfl rfl) h)
  · exact h

theorem retestResume (h : P l s) : P l s.retestResume := by
  unfold State.retestResume
  split
  · exact k.holdEnds h
  · exact h

theorem takeMark (m : Half) (hl : l.stale = false) (h : P l s) : P l (s.takeMark m) := by
  unfold State.takeMark
  split
  · have hshown := k.retestResume (k.shown (k.releaseWaiting (k.releaseHeld (k.mark m h))))
    rwa [← hl] at hshown
  · exact k.quiet (quiet_raise _ rfl) h

theorem takeReport (r : FrameReport) (h : P l s) : P l (s.takeReport r) := by
  have hmeter := k.quiet (t := s.withBilling { s.billing with meter := r.mWh })
    (quiet_withBilling rfl rfl rfl rfl) h
  unfold State.takeReport
  extract_lets _ s1
  split
  · refine k.quiet ?_ hmeter
    unfold Billing.takeCounted
    split
    · exact quiet_withBilling rfl rfl rfl rfl
    · exact quiet_withBilling rfl rfl rfl rfl
  · exact k.closeOrphan _ _ hmeter

/-! ## The heating controller (R130 to R146) -/

theorem testSensorLoss (h : P l s) : P l s.testSensorLoss := by
  unfold State.testSensorLoss
  extract_lets loss _ s1
  split
  next => exact k.endPlan _ (k.quiet (quiet_dutyOff rfl) h)
  next hkept =>
    refine k.quiet { toCalm := calm_withHeating rfl, demand := .of_same le_rfl rfl rfl rfl, duty := ?_ } h
    refine fun hd => ⟨.inl hd, ?_⟩
    simp only [State.heaterHeldOff_iff]
    rintro ⟨htrips, hguard, hloss⟩
    exact ⟨htrips, hguard, by simpa [s1, hloss] using hkept⟩

theorem takeHeat {n : SlotNo} {target band hysteresis pMax : Half} {source policy mode : Byte}
    (h : P (l.take n (.heat target band hysteresis pMax source policy mode)) s) :
    P l (s.takeHeat n target band hysteresis pMax source policy mode) := by
  unfold State.takeHeat
  split
  · exact k.finishes _ h
  next hfree =>
    split
    · split
      · exact k.finishes _ h
      · exact k.planRuns rfl rfl (Option.not_isSome_iff_eq_none.mp hfree) h
    · exact k.finishes _ h

theorem takeLoadAcceptance (offset : Half) (count : Byte) (h : P l s) :
    P l (s.takeLoadAcceptance offset count).2 := by
  unfold State.takeLoadAcceptance
  extract_lets pts
  split
  · exact h
  · split
    · exact h
    · exact k.quiet (quiet_reformAcceptance _) (k.quiet (quiet_withHeating rfl rfl rfl) h)

theorem takeSetSensors (mask : Byte) (packCap plateLimit : Half) (h : P l s) :
    P l (s.takeSetSensors mask packCap plateLimit).2 :=
  k.quiet (quiet_reformAcceptance _) (k.quiet (quiet_testGuards _) (k.testSensorLoss
    (k.quiet (quiet_withHeating rfl rfl rfl) h)))

theorem stepCounts (h : P l s) : P l s.stepCounts :=
  k.tripIf _ _ (k.tripIf _ _ (k.quiet (quiet_withHeating rfl rfl rfl) h))

theorem stepPlan (h : P l s) : P l s.stepPlan := by
  unfold State.stepPlan
  split
  next p t hp _ =>
    split
    · exact k.endPlan _ (k.quiet (quiet_withHeating (by simp [hp]) rfl rfl) h)
    · exact k.quiet (quiet_firstHolding _ _ _)
        (k.quiet (quiet_withHeating (by simp [hp, Heating.evaluated]) rfl rfl) h)
  next => exact h

theorem temperatureScan (scan : Scan) (h : P l s) :
    P l (s.takeTable scan).testSensorLoss.testGuards.stepCounts.reformAcceptance.stepPlan :=
  k.stepPlan (k.quiet (quiet_reformAcceptance _) (k.stepCounts (k.quiet (quiet_testGuards _)
    (k.testSensorLoss (k.quiet (quiet_takeTable _ _) h)))))

/-! ## The relay (R171 to R176) -/

theorem contactLost (hidle : s.Idle) (h : P l s) : P l s.contactLost :=
  k.falls (drivesFall_endReleaseIfOpen _) (k.tripReport _
    (k.falls (drivesFall_setRelay hidle _ _ _) h))

theorem infbClosed (h : P l s) : P l s.infbClosed := by
  unfold State.infbClosed
  split
  next hst => exact k.falls (drivesFall_setRelay (.inl (by simp [hst])) _ _ _) h
  next hst => exact k.falls (drivesFall_setRelay (.inl (by simp [hst])) _ _ _) h
  all_goals exact h

theorem infbOpen (h : P l s) : P l s.infbOpen := by
  unfold State.infbOpen
  split
  next => exact k.contactLost (.inr s.leaveClosed_iDem) (k.falls (drivesFall_leaveClosed s) h)
  next hst => exact k.contactLost (.inl (by simp [hst])) h
  next hst => exact k.falls (drivesFall_enterOpen (.inl (by simp [hst]))) h
  next hst => exact k.falls (drivesFall_enterOpen (.inl (by simp [hst]))) h
  next hst => exact k.falls (drivesFall_setRelay (.inl (by simp [hst])) _ _ _) h
  next => exact h

theorem closeTimedOut (h : P l s) : P l s.closeTimedOut := by
  unfold State.closeTimedOut
  extract_lets s1
  split
  next hst => exact k.falls (drivesFall_enterOpen (.inl (by simp [hst]))) (k.tripReport _ h)
  next => exact k.tripReport _ h

theorem weld (hidle : s.Idle) (h : P l s) : P l s.weld :=
  k.tripReport _ (k.falls (drivesFall_setRelay hidle _ _ _) h)

theorem releaseTimedOut (hidle : s.Idle) (h : P l s) : P l s.releaseTimedOut := by
  unfold State.releaseTimedOut
  split
  · exact k.weld hidle h
  · exact k.falls (drivesFall_enterOpen hidle) h

theorem endCurrentWait (h : P l s) : P l s.endCurrentWait := by
  unfold State.endCurrentWait
  split
  next hst => exact k.falls (drivesFall_enterRelease (.inl (by simp [hst.1])) _) h
  next => exact h

/-! ## The power manager (R105 to R126) -/

theorem renew (h : P l s) : P l s.renew := by
  have hcleared := k.quiet (quiet_clear s (c := .grantDue) rfl) h
  unfold State.renew
  extract_lets s1
  split
  · exact hcleared
  · exact k.quiet (quiet_setKeepalive _ _) hcleared
  · exact k.quiet (quiet_setKeepalive _ _) hcleared

theorem takeCharge {n : SlotNo} {maxCurrent vLim endCurrent : Half}
    (h : P (l.take n (.charge maxCurrent vLim endCurrent)) s) :
    P l (s.takeCharge n maxCurrent vLim endCurrent) := by
  unfold State.takeCharge
  split
  · exact k.finishes _ h
  next hfree =>
    split
    · exact k.finishes _ h
    · exact k.chargeRuns rfl rfl (Option.not_isSome_iff_eq_none.mp hfree) h

theorem drivePeriod {i : PeriodInputs} (sh : Shares) {iTgt : Nat}
    (hclosed : i.relayClosed = true → s.relay.state = .closed)
    (hgates : 0 < iTgt → s.gates.all = true) (h : P l s) : P l (s.drivePeriod i sh iTgt) := by
  unfold State.drivePeriod
  extract_lets st s1 iDem supplyFed packFed duty s2 _ s3
  have hs1 : P l s1 := k.falls (drivesFall_periodNeed s _) h
  have hdem : P l (s1.setDemand iDem) := by
    refine k.quiet (quiet_setDemand fun hpos => ?_) hs1
    obtain ⟨hrelay, htgt⟩ := slew_pos hpos
    refine ⟨?_, State.periodNeed_closed _ (hclosed hrelay)⟩
    have hfall := drivesFall_periodNeed s (i.allGates && decide (0 < iTgt))
    have hall := hgates htgt
    rw [State.gates_all_iff] at hall ⊢
    exact ⟨(State.gatesButGrant_congr (by simp) (by simp) (by simp) hfall.low
      (by simp) (by simp)).trans hall.1, hfall.grant ▸ hall.2⟩
  have hs2 : P l s2 := by
    refine k.quiet (quiet_setDuty fun hpos => ?_) hdem
    simpa [State.heaterHeldOff, s1] using nextDuty_pos hpos
  have hs3 : P l s3 := by
    refine k.quiet (quiet_withPower ?_ le_rfl le_rfl rfl rfl) hs2
    simp [Function.comp_def, Charge.afterPeriod]
  exact k.quiet (quiet_withHeating (by simp [Function.comp_def, Plan.takePower]) rfl rfl) hs3

theorem periodReports (full overvoltage : Bool) (h : P l s) :
    P l (s.periodReports full overvoltage) := by
  unfold State.periodReports
  refine k.tripIf _ _ ?_
  split
  · exact k.endCharge _ h
  · exact h

/-! ## The insulation monitor (R149 to R167) -/

theorem enterWarmup (h : P l s) : P l s.enterWarmup :=
  k.quiet (quiet_beginHalf _ _) (k.quiet (quiet_withInsulation rfl rfl rfl) h)

theorem enterIdle (h : P l s) : P (l.drain .insulation) s.enterIdle :=
  k.endCheck _ (k.condition
    (i := { s.insulation.discard with state := .idle, condition := .unknown, streak := 0, fresh := false })
    rfl (fun hfault => nomatch hfault) h)

end BodyKept

theorem State.newCondition_trips (s : State) (i : Insulation) :
    (s.newCondition i).trips = s.trips := by simp [State.newCondition]

namespace BodyKept

variable {P : Busy → State → Prop} (k : BodyKept P) {l : Busy} {s : State}
include k

theorem validResult (stretch : Nat) (delta : Int) (h : P l s) :
    P (l.drain .insulation) (s.validResult stretch delta) := by
  unfold State.validResult
  extract_lets e i s1 s2 s3
  refine k.endCheck _ ?_
  have htrips : s2.trips = s.trips := s.newCondition_trips i
  show P l (s2.tripIf _ _)
  unfold State.tripIf
  split
  next hfault =>
    simp only [Bool.and_eq_true, beq_iff_eq] at hfault
    cases hnew : s2.trips.set.has .insulation with
    | true =>
      rw [State.tripReport_again _ _ hnew]
      exact k.condition (i := i) rfl (fun _ => .inr (by rw [htrips] at hnew; exact hnew)) h
    | false =>
      rw [State.tripReport_of_new hnew]
      exact k.tripRest _ (k.fault (i := i) rfl hfault.1 (by rw [htrips] at hnew; exact hnew) h)
  next hkept =>
    refine k.condition (i := i) rfl (fun hfault => .inl ?_) h
    simpa [hfault] using hkept

theorem validHalf (hp : HalfPeriod) (u : Int) (h : P l s) :
    P (l.drain .insulation) (s.validHalf hp u) := by
  unfold State.validHalf
  extract_lets _ i
  have hi : i.condition = s.insulation.condition ∧ i.fresh = s.insulation.fresh
      ∧ i.check = s.insulation.check := by
    simp only [i, Insulation.store]
    split <;> exact ⟨rfl, rfl, rfl⟩
  obtain ⟨hcond, hfresh, hcheck⟩ := hi
  split
  next =>
    exact k.weaken _ (k.quiet (quiet_beginHalf _ _)
      (k.quiet (quiet_withInsulation hcond hfresh (by rw [hcheck])) h))
  next d _ =>
    extract_lets t s1
    have ht : t.1.condition = i.condition ∧ t.1.fresh = i.fresh ∧ t.1.check = i.check := by
      simp only [t, Insulation.testResult, Insulation.countSettled, Insulation.countUnsettled]
      split
      · exact ⟨rfl, rfl, rfl⟩
      · split <;> (dsimp only; split) <;> exact ⟨rfl, rfl, rfl⟩
    obtain ⟨tcond, tfresh, tcheck⟩ := ht
    have hs1 : P l s1 := k.quiet (quiet_beginHalf _ _)
      (k.quiet (quiet_withInsulation (tcond.trans hcond) (tfresh.trans hfresh)
        (by rw [tcheck, hcheck])) h)
    split
    · exact k.validResult _ _ hs1
    · exact k.weaken _ hs1

theorem endHalf (u : Int) (h : P l s) : P (l.drain .insulation) (s.endHalf u) := by
  unfold State.endHalf
  split
  next hp _ =>
    split
    · exact k.weaken _ (k.quiet (quiet_beginHalf _ _) (k.quiet (quiet_withInsulation rfl rfl rfl) h))
    · exact k.validHalf _ _ h
  next => exact k.weaken _ h

theorem takeCheck {n : SlotNo} (hfree : LabelFree P ∨ s.insulation.check = none)
    (h : P (l.take n .checkInsulation) s) : P l (s.takeCheck n) := by
  unfold State.takeCheck
  split
  · exact k.finishes _ h
  · exact k.checkRuns hfree h
  · exact k.checkRuns hfree h

/-- Freshness as it is formed again, with the insulation gate that may fail (R167). -/
theorem refresh {held now : Bool} (hheld : held = s.insulation.fresh) (h : P l s) :
    P l ((s.withInsulation { s.insulation with fresh := now }).failGateIf held now) := by
  have hcalm : Calm s (s.withInsulation { s.insulation with fresh := now }) :=
    { running := State.runningSlot_congr rfl rfl rfl rfl }
  refine k.quiet (hcalm.failGateIf (.of_same le_rfl rfl rfl) fun hkept hd => ?_) h
  refine ⟨.inl hd, id, ?_, id⟩
  rw [State.gatesButGrant_iff, State.gatesButGrant_iff]
  rintro ⟨h1, h2, h3, h4, h5, h6, h7⟩
  exact ⟨h1, h2, h3, h4, h5, h6, hkept (hheld ▸ h7)⟩

theorem applyInsulation (g : InsSettings) (h : P l s) : P l (s.applyInsulation g) := by
  have hset : P l (s.withInsulation { s.insulation with settings := g }) :=
    k.quiet (quiet_withInsulation rfl rfl rfl) h
  unfold State.applyInsulation
  extract_lets _ s1 s2 now
  have hs2 : P l s2 ∧ s2.insulation.fresh = s.insulation.fresh := by
    simp only [s2]
    split
    · exact ⟨k.enterWarmup hset, rfl⟩
    · exact ⟨hset, rfl⟩
  exact k.refresh hs2.2.symm hs2.1

theorem takeSetInsulation (rM uInj warn fault : Half) (kk window : Byte) (h : P l s) :
    P l (s.takeSetInsulation rM uInj warn fault kk window).2 := by
  unfold State.takeSetInsulation
  extract_lets g
  split
  · exact h
  · exact k.applyInsulation g h

/-! ## Taking an order (R30, R31, R33) -/

theorem answer {n : SlotNo} {o : Order} {r : Ending × State} (h : P (l.take n o) r.2) :
    P l (State.answer n r) :=
  k.finishes _ h

/-- An order taken from its post or its queue: of a block that is free, and not the WITHDRAW that the
order engine takes itself. -/
theorem takeOwned {n : SlotNo} {o : Order}
    (ho : LabelFree P ∨ (∀ t, o ≠ .withdraw t) ∧ (o = .checkInsulation → s.insulation.check = none))
    (h : P (l.take n o) s) : P (l.afterTake o) (s.takeOwned n o) := by
  cases o with
  | withdraw t =>
    obtain hfree | ⟨hnot, -⟩ := ho
    · exact hfree _ _ _ (by rfl) h
    · exact absurd rfl (hnot t)
  | clearTrip => exact k.answer (k.clears h)
  | setClock t => exact k.answer (k.takeSetClock t h)
  | loadTariff offset count => exact k.answer (k.takeLoadTariff _ _ h)
  | openSession id b h' a => exact k.answer (k.takeOpenSession _ _ _ _ h)
  | closeSession id => exact k.takeCloseSession h
  | calibrateMeter ch g q => exact k.answer (k.takeCalibrate _ _ _ h)
  | setJournalLevels h' r => exact k.answer (k.takeJournalLevels _ _ h)
  | setGrant g f p => exact k.answer (k.quiet (quiet_applyGrant _ _ _ _) h)
  | charge m v e => exact k.takeCharge h
  | setPowerStage eta m u r h' => exact k.answer (k.quiet (quiet_applyStage _ _) h)
  | heat t b h' p src pol md => exact k.takeHeat h
  | loadAcceptance offset count => exact k.answer (k.takeLoadAcceptance _ _ h)
  | setSensors mask cap limit => exact k.answer (k.takeSetSensors _ _ _ h)
  | checkInsulation => exact k.takeCheck (ho.imp id fun h => h.2 rfl) h
  | setInsulation r u w f kk win => exact k.answer (k.takeSetInsulation _ _ _ _ _ _ h)
  | unknown code => exact k.finishes _ h

end BodyKept

end Sys2Proof.Machine
end

/-! # An invariant through every command -/

section
namespace Sys2Proof.Machine

/-! ## The queues outside the order engine -/

theorem Calm.queues {s t : State} (h : Calm s t) : t.orders.queues = s.orders.queues := by
  rw [h.orders]

@[simp] theorem State.finish_queues (s : State) (n : SlotNo) (e : Ending) :
    (s.finish n e).orders.queues = s.orders.queues := by
  simp [State.finish, State.setSlotState, State.setSlot]

@[simp] theorem State.setSlotState_queues (s : State) (n : SlotNo) (st : SlotState) :
    (s.setSlotState n st).orders.queues = s.orders.queues := by
  simp [State.setSlotState, State.setSlot]

@[simp] theorem State.endCharge_queues (s : State) (cause : Byte) :
    (s.endCharge cause).orders.queues = s.orders.queues := by
  unfold State.endCharge
  split <;> simp

/-- No operation of a block moves a post queue (R29, R32). -/
theorem queues_bodyKept (q : Queues) : BodyKept fun _ s => s.orders.queues = q where
  quiet h hq := h.queues.trans hq
  relabel _ _ _ hq := hq
  journal r _ hq := by simpa using hq
  holdRecord _ _ hq := by simpa using hq
  freeHeld hq := by simpa using hq
  holdBegins hq := by simpa using hq
  holdEnds hq := by simpa using hq
  levels _ _ hq := by simpa using hq
  mark _ hq := by simpa using hq
  shown hq := by simpa using hq
  trip _ hq := by simpa using hq
  clears hq := by simpa using hq
  condition _ _ hq := by simpa [State.newCondition] using hq
  fault _ _ _ hq := by simpa [State.newCondition] using hq
  sessionOpens _ _ _ hq := hq
  sessionEnds _ _ hq := hq
  finishes _ hq := by simpa using hq
  chargeEnds _ _ _ hq := by simpa using hq
  planEnds _ _ _ hq := by simpa using hq
  checkEnds _ _ hq := by simpa using hq
  closeEnds _ _ hq := by simpa using hq
  chargeRuns _ _ _ hq := by simpa using hq
  planRuns _ _ _ hq := by simpa using hq
  checkRuns _ hq := by simpa using hq
  closeRuns _ _ hq := by simpa [State.startClose] using hq

theorem labelFree_of_const (p : State → Prop) : LabelFree fun _ s => p s :=
  fun _ _ _ _ h => h

/-- No take lengthens a queue (R32). -/
@[simp] theorem State.takeOwned_queues (s : State) (n : SlotNo) (o : Order) :
    (s.takeOwned n o).orders.queues = s.orders.queues :=
  (queues_bodyKept s.orders.queues).takeOwned (l := Busy.none) (.inl (labelFree_of_const _)) rfl

@[simp] theorem State.continueClose_queues (s : State) :
    s.continueClose.orders.queues = s.orders.queues :=
  (queues_bodyKept s.orders.queues).continueClose (l := Busy.none) rfl

@[simp] theorem State.completeClose_queues (s : State) :
    s.completeClose.orders.queues = s.orders.queues :=
  (queues_bodyKept s.orders.queues).completeClose (l := Busy.none) rfl

@[simp] theorem State.endCheck_queues (s : State) (e : Ending) :
    (s.endCheck e).orders.queues = s.orders.queues :=
  (queues_bodyKept s.orders.queues).endCheck (l := Busy.none) e rfl

@[simp] theorem State.enterIdle_queues (s : State) :
    s.enterIdle.orders.queues = s.orders.queues :=
  (queues_bodyKept s.orders.queues).enterIdle (l := Busy.none) rfl

@[simp] theorem State.endHalf_queues (s : State) (u : Int) :
    (s.endHalf u).orders.queues = s.orders.queues :=
  (queues_bodyKept s.orders.queues).endHalf (l := Busy.none) u rfl

@[simp] theorem Queues.get_put_same (q : Queues) (b : Block) (l : List SlotNo) :
    (q.put b l).get b = l := by cases b <;> rfl

theorem Queues.get_put_other (q : Queues) {b b' : Block} (l : List SlotNo) (h : b' ≠ b) :
    (q.put b l).get b' = q.get b' := by
  cases b <;> cases b' <;> first | rfl | exact absurd rfl h

theorem State.queue_congr {s t : State} (h : t.orders.queues = s.orders.queues) (b : Block) :
    t.queue b = s.queue b := by rw [State.queue, h, State.queue]

@[simp] theorem State.queue_setQueue_same (s : State) (b : Block) (l : List SlotNo) :
    (s.setQueue b l).queue b = l := by simp [State.queue, State.setQueue]

theorem State.queue_setQueue_other (s : State) {b b' : Block} (l : List SlotNo) (h : b' ≠ b) :
    (s.setQueue b l).queue b' = s.queue b' := by
  simp [State.queue, State.setQueue, Queues.get_put_other _ _ h]

@[simp] theorem State.takeHead_queue (s : State) (b : Block) (n : SlotNo) (rest : List SlotNo) :
    (s.takeHead b n rest).queue b = rest := by
  unfold State.takeHead
  split
  · rw [State.queue_congr (State.takeOwned_queues _ _ _), State.queue_setQueue_same]
  · exact State.queue_setQueue_same s b rest

/-- A drain with fuel for the whole queue ends with it empty or its block occupied (R32). -/
theorem State.drainUpTo_done (b : Block) {fuel : Nat} {s : State}
    (h : (s.queue b).length ≤ fuel) :
    (State.drainUpTo b fuel s).queue b = [] ∨ (State.drainUpTo b fuel s).occupied b = true := by
  induction fuel generalizing s with
  | zero => exact .inl (List.eq_nil_of_length_eq_zero (Nat.le_zero.mp h))
  | succ fuel ih =>
    unfold State.drainUpTo
    split
    next hq => exact .inl hq
    next n rest hq =>
      split
      next hocc => exact .inr hocc
      next => exact ih (by simpa [hq] using h)

theorem State.drain_done (s : State) (b : Block) :
    (s.drain b).queue b = [] ∨ (s.drain b).occupied b = true :=
  State.drainUpTo_done b le_rfl

/-! ## The link port through its data commands -/

/-- A data command that is entered finds the link out of idle. -/
theorem Link.phase_of_entered {l : Link} {d : Dir} {t : Target} {n : Nat}
    (h : l.entered d t = some n) : l.phase ≠ .idle := by
  intro hidle
  simp [Link.entered, hidle] at h

theorem Link.pairRead_slotWrites (t : Target) (pair : List Byte) (l : Link) (n m : Nat) :
    (Link.pairRead t pair l n m).slotWrites = l.slotWrites := by
  induction m generalizing l n with
  | zero => rfl
  | succ m ih => rw [Link.pairRead, ih]; cases n <;> rfl

theorem Link.pairRead_phase (t : Target) (pair : List Byte) (l : Link) (n m : Nat) :
    (Link.pairRead t pair l n m).phase ≠ .idle := by
  induction m generalizing l n with
  | zero => nofun
  | succ m ih => exact ih _ _

theorem Link.windowBytes_slotWrites (m : Memory) (l : Link) (n j : Nat) :
    (Link.windowBytes m l n j).slotWrites = l.slotWrites := by
  induction j generalizing l n with
  | zero => rfl
  | succ j ih =>
    rw [Link.windowBytes, ih]
    match n with
    | 0 | 1 | n + 2 => rfl

theorem Link.windowBytes_phase (m : Memory) (l : Link) (n j : Nat) :
    (Link.windowBytes m l n j).phase ≠ .idle := by
  induction j generalizing l n with
  | zero => nofun
  | succ j ih => exact ih _ _

theorem Link.pointerByte_slotWrites (l : Link) (n : Nat) (b : Byte) :
    (l.pointerByte n b).slotWrites = l.slotWrites := by
  unfold Link.pointerByte
  dsimp only
  split <;> rfl

theorem Link.pointerBytes_slotWrites (l : Link) (n : Nat) (bs : List Byte) :
    (l.pointerBytes n bs).slotWrites = l.slotWrites := by
  induction bs generalizing l n with
  | nil => rfl
  | cons b bs ih => rw [Link.pointerBytes, ih, Link.pointerByte_slotWrites]

theorem Link.pointerBytes_phase (l : Link) (n : Nat) (bs : List Byte) :
    (l.pointerBytes n bs).phase ≠ .idle := by
  induction bs generalizing l n with
  | nil => nofun
  | cons b bs ih => exact ih _ _

/-! ## What the commands are made of -/

/-- A write to a slot's state byte is judged: its notice is taken, or the row of an order stands for
both (R24, log entry 4). -/
def Judged (n : SlotNo) (s s' : State) : Prop :=
  s' = s ∨ ∃ v rest, s.orders.notices = (n, v) :: rest
    ∧ s' = s.withOrders { s.orders with notices := rest }

/-- A predicate is kept as well by every move of the post queues (R29, R32, R38). -/
structure QueueKept (P : Busy → State → Prop) : Prop extends BodyKept P where
  waits : LabelFree P ∨ ∀ {l s b}, P l s →
    (b ∉ l.draining → s.queue b ≠ [] → s.occupied b = true)
      ∧ ∀ n ∈ s.queue b, ∃ p, (s.slot n).posted = some p ∧ orderBlock p.order = some b
  drained : ∀ {l s b}, s.queue b = [] ∨ s.occupied b = true → P (l.drain b) s → P l s
  requeue : ∀ {l s} (b : Block) (q : List SlotNo), LabelFree P → P l s → P l (s.setQueue b q)
  takesHead : ∀ {l s b n rest p}, (∀ e ∈ l.limbo, orderBlock e.2 = some .general) →
    s.queue b = n :: rest → s.occupied b = false → (s.slot n).posted = some p →
    P l s → P (l.take n p.order) (s.setQueue b rest)
  unqueues : ∀ {l s n p own} (e : Ending), (∀ x ∈ l.limbo, x.1 = own) → n ≠ own →
    (s.slot n).state = .waiting → (s.slot n).posted = some p → P l s →
    P l ((s.unqueue n p.order).finish n e)

/-- A predicate is kept by every move that the commands are made of, beside METERING_FRAME, LINK_RESET
and POWER_ON_RESET. -/
structure Kept (P : Busy → State → Prop) : Prop extends QueueKept P where
  /- Posts and frees (R24 to R29). -/
  postTaken : ∀ {s s' n} (p : Posted), Judged n s s' → (s.slot n).state = .free →
    (∀ b, orderBlock p.order = some b → s.occupied b = false) → P .none s →
    P (Busy.none.take n p.order) (s'.copyPost n p)
  postWaits : ∀ {s s' n b} (p : Posted), Judged n s s' → (s.slot n).state = .free →
    orderBlock p.order = some b → s.occupied b = true ∨ s.queue b ≠ [] → P .none s →
    P .none ((s'.copyPost n p).enqueue b n)
  frees : ∀ {s s' n}, Judged n s s' → (s.slot n).state = .done → P .none s →
    P .none (s'.acceptFree n)
  holds : ∀ {s s' n}, Judged n s s' → P .none s → P .none (s'.holdWrite n)
  /- The link port and the live copies (R3 to R12, R22). -/
  link : ∀ {s} {k : Link}, k.slotWrites = s.link.slotWrites →
    (k.phase = .idle → s.link.phase = .idle) → P .none s → P .none (s.withLink k)
  starts : ∀ {s}, s.link.phase = .idle → P .none s → P .none (s.withLink s.link.start)
  ends : ∀ {s}, P .none s → P .none s.endTransaction
  stores : ∀ {s a n} (b : Byte), slotAt a = some n → s.link.phase ≠ .idle → P .none s →
    P .none ((s.poke a b).recordState n b)
  pokes : ∀ {s a} (b : Byte), slotAt a = none → hostWritable a = true → a ≠ Config.hdrRd →
    a ≠ Config.hdrRd + 1 → P .none s → P .none (s.poke a b)
  copies : ∀ {s} (seq : Word), P .none s →
    P .none (s.writeCopy (nextCopy (s.mem.read Config.hdrFresh)).1
      (nextCopy (s.mem.read Config.hdrFresh)).2 seq)

/-- A relay timer that counts leaves the drives alone (R172). -/
theorem drivesFall_relayTimer (s : State) {r : Relay} (h : r.state = s.relay.state) :
    DrivesFall s (s.withRelay r) where
  demand hd := ⟨hd, h.trans⟩

namespace QueueKept

variable {P : Busy → State → Prop} (k : QueueKept P) {l : Busy} {s : State}
include k

/-! ## Draining a queue (R32) -/

/-- The head of a queue of a free block taken, as the drain does it. -/
theorem takeHead {b : Block} {n : SlotNo} {rest : List SlotNo}
    (hlimbo : ∀ e ∈ l.limbo, orderBlock e.2 = some .general) (hb : b ∈ l.draining)
    (hbgen : b ≠ .general) (hq : s.queue b = n :: rest) (hocc : s.occupied b = false)
    (h : P l s) : P l (s.takeHead b n rest) := by
  unfold State.takeHead
  split
  next p hp =>
    have htaken := k.takesHead hlimbo hq hocc hp h
    obtain hfree | hqueued := k.waits
    · refine hfree (l.afterTake p.order) l _ ?_ (k.toBodyKept.takeOwned (.inl hfree) htaken)
      cases p.order <;> rfl
    · obtain ⟨p', hp', hblock⟩ := (hqueued h).2 n (hq ▸ List.mem_cons_self)
      obtain rfl : p' = p := Option.some.inj (hp'.symm.trans hp)
      have hdone := k.toBodyKept.takeOwned (.inr ⟨?notWithdraw, ?checkFree⟩) htaken
      case notWithdraw =>
        intro t ho
        rw [ho] at hblock
        exact hbgen (Option.some.inj hblock).symm
      case checkFree =>
        intro ho
        rw [ho] at hblock
        obtain rfl : b = .insulation := (Option.some.inj hblock).symm
        simpa [State.occupied] using hocc
      refine k.relabel ?_ ?_ ?_ hdone
      · cases p'.order <;> rfl
      · cases p'.order <;> rfl
      · cases ho : p'.order with
        | closeSession id =>
          rw [ho] at hblock
          obtain rfl : b = .billing := (Option.some.inj hblock).symm
          exact List.cons_subset.mpr ⟨hb, List.Subset.refl _⟩
        | _ => exact List.Subset.refl _
  next hnone =>
    obtain hfree | hqueued := k.waits
    · exact k.requeue _ _ hfree h
    · obtain ⟨p, hp, -⟩ := (hqueued h).2 n (hq ▸ List.mem_cons_self)
      rw [hnone] at hp
      cases hp

theorem drainUpTo {b : Block} (hlimbo : ∀ e ∈ l.limbo, orderBlock e.2 = some .general)
    (hb : b ∈ l.draining) (hbgen : b ≠ .general) (fuel : Nat) (h : P l s) :
    P l (State.drainUpTo b fuel s) := by
  induction fuel generalizing s with
  | zero => exact h
  | succ fuel ih =>
    unfold State.drainUpTo
    split
    next => exact h
    next n rest hq =>
      split
      next => exact h
      next hocc => exact ih (k.takeHead hlimbo hb hbgen hq (by simpa using hocc) h)

theorem drain {b : Block} (hlimbo : ∀ e ∈ l.limbo, orderBlock e.2 = some .general)
    (hbgen : b ≠ .general) (h : P (l.drain b) s) : P l (s.drain b) :=
  k.drained (s.drain_done b) (k.drainUpTo (l := l.drain b) hlimbo List.mem_cons_self hbgen _ h)

/-- A block that may have ended its timed order: its queue drains where it has, and waits behind an
occupied block or is empty where it has not. -/
theorem drainIf {b : Block} {t : State} {c : Prop} [Decidable c]
    (hlimbo : ∀ e ∈ l.limbo, orderBlock e.2 = some .general) (hbgen : b ≠ .general)
    (hb : b ∉ l.draining) (hq : t.orders.queues = s.orders.queues)
    (hc : ¬c → s.occupied b = true → t.occupied b = true) (hs : P l s) (ht : P (l.drain b) t) :
    P l (if c then t.drain b else t) := by
  split
  next => exact k.drain hlimbo hbgen ht
  next hnot =>
    obtain hfree | hqueued := k.waits
    · exact hfree (l.drain b) l _ rfl ht
    · refine k.drained ?_ ht
      rw [State.queue_congr hq]
      by_cases hempty : s.queue b = []
      · exact .inl hempty
      · exact .inr (hc hnot ((hqueued hs).1 hb hempty))

theorem afterClose {t : State} (hb : Block.billing ∉ l.draining)
    (hlimbo : ∀ e ∈ l.limbo, orderBlock e.2 = some .general)
    (hq : t.orders.queues = s.orders.queues) (hs : P l s) (ht : P (l.drain .billing) t) :
    P l (t.afterClose s.billing) :=
  k.drainIf hlimbo (by simp) hb hq (by simp [State.occupied]) hs ht

theorem afterCheck {t : State} (hb : Block.insulation ∉ l.draining)
    (hlimbo : ∀ e ∈ l.limbo, orderBlock e.2 = some .general)
    (hq : t.orders.queues = s.orders.queues) (hs : P l s) (ht : P (l.drain .insulation) t) :
    P l (t.afterCheck s.insulation) := by
  refine k.drainIf hlimbo (by simp) hb hq (fun hc hocc => ?_) hs ht
  simpa [State.occupied, show s.insulation.check.isSome = true from hocc,
    Option.isSome_iff_ne_none] using hc

/-! ## WITHDRAW (R38) -/

theorem withdrawRunning {own n : SlotNo} {t : Byte} {p : Posted}
    (hrun : (s.slot n).state = .running) (hp : (s.slot n).posted = some p)
    (h : P (Busy.none.take own (.withdraw t)) s) :
    P (Busy.none.take own (.withdraw t)) (s.withdrawRunning n p.order).2 := by
  unfold State.withdrawRunning
  split
  next m v e ho =>
    simp only [State.withdrawCharge]
    split
    next c hc => exact k.chargeEnds _ hc (.inr ⟨hrun, p, hp, by rw [ho]; rfl⟩) h
    next => exact h
  next _ _ _ _ _ _ _ ho =>
    simp only [State.withdrawHeat]
    split
    next pl hpl =>
      exact k.quiet (quiet_raise _ rfl) (k.planEnds _ hpl (.inr ⟨hrun, p, hp, by rw [ho]; rfl⟩) h)
    next => exact h
  next =>
    exact k.afterCheck (by simp [Busy.take, Busy.none]) (by simp [Busy.take, Busy.none, orderBlock])
      (State.endCheck_queues _ _) h (k.endCheck _ h)
  all_goals exact h

theorem withdrawTarget {own n : SlotNo} {t : Byte} (hn : n ≠ own)
    (h : P (Busy.none.take own (.withdraw t)) s) :
    P (Busy.none.take own (.withdraw t)) (s.withdrawTarget n).2 := by
  unfold State.withdrawTarget
  split
  next p hwait hp => exact k.unqueues _ (by simp [Busy.take, Busy.none]) hn hwait hp h
  next p hrun hp => exact k.withdrawRunning hrun hp h
  next => exact h

theorem takeWithdraw {own : SlotNo} {t : Byte} (h : P (Busy.none.take own (.withdraw t)) s) :
    P .none (s.takeWithdraw own t) := by
  unfold State.takeWithdraw
  split
  · extract_lets n r
    split
    next => exact k.finishes _ h
    next hn => exact k.finishes _ (k.withdrawTarget hn h)
  · exact k.finishes _ h

end QueueKept

namespace Kept

variable {P : Busy → State → Prop} (k : Kept P) {l : Busy} {s : State}
include k

/-! ## Posts and notices (R24 to R29) -/

theorem acceptPost {s' : State} {n : SlotNo} (p : Posted) (hj : Judged n s s')
    (hfree : (s.slot n).state = .free) (h : P .none s) : P .none (s'.acceptPost n p) := by
  have hocc : ∀ b, (s'.copyPost n p).occupied b = s.occupied b := by
    intro b
    obtain rfl | ⟨v, rest, -, rfl⟩ := hj <;> cases b <;> simp [State.occupied]
  have hqueue : ∀ b, (s'.copyPost n p).queue b = s.queue b := by
    intro b
    obtain rfl | ⟨v, rest, -, rfl⟩ := hj <;> rfl
  unfold State.acceptPost State.routeOrder
  split
  next hblock => exact k.finishes _ (k.postTaken p hj hfree (by simp [hblock]) h)
  next b hblock =>
    split
    next hbusy =>
      refine k.postWaits p hj hfree hblock ?_ h
      simpa [hocc, hqueue] using hbusy
    next hidle =>
      simp only [hocc, hqueue, Bool.or_eq_true, not_or, Bool.not_eq_true, Bool.not_eq_false',
        List.isEmpty_iff] at hidle
      obtain ⟨hnotocc, hempty⟩ := hidle
      have hcopied := k.postTaken p hj hfree (fun b' hb' => by
        rw [hblock] at hb'
        cases hb'
        exact hnotocc) h
      unfold State.takeOrder
      split
      next t ho =>
        rw [ho] at hcopied
        exact k.takeWithdraw hcopied
      next hnot =>
        have hdone := k.toBodyKept.takeOwned (.inr ⟨fun t ho => hnot t ho, fun ho => ?free⟩) hcopied
        case free =>
          rw [ho] at hblock
          cases hblock
          have := hocc .insulation
          rw [hnotocc] at this
          simpa [State.occupied] using this
        cases ho : p.order with
        | closeSession id =>
          rw [ho] at hdone hblock
          cases hblock
          refine k.drained (.inl ?_) hdone
          rw [State.queue_congr (State.takeOwned_queues _ _ _), hqueue]
          exact hempty
        | _ => rw [ho] at hdone; exact hdone

theorem post (n : SlotNo) (tag : Half) (o : Order) (h : P .none s) : P .none (s.post n tag o) := by
  unfold State.post
  split
  next hfree => exact k.acceptPost _ (.inl rfl) hfree h
  next => exact k.holds (.inl rfl) h

theorem takeNotice (h : P .none s) : P .none s.takeNotice := by
  unfold State.takeNotice
  split
  next n v rest hnotices =>
    have hj : Judged n s (s.withOrders { s.orders with notices := rest }) :=
      .inr ⟨v, rest, hnotices, rfl⟩
    have hslot : (s.withOrders { s.orders with notices := rest }).slot n = s.slot n := rfl
    unfold State.judge
    split
    next hst =>
      split
      · exact k.acceptPost _ hj (hslot ▸ hst) h
      · exact k.holds hj h
    next hst =>
      split
      · exact k.frees hj (hslot ▸ hst) h
      · exact k.holds hj h
    all_goals exact k.holds hj h
  next => exact h

theorem takeNotices (n : Nat) (h : P .none s) : P .none (State.takeNotices n s) := by
  induction n generalizing s with
  | zero => exact h
  | succ n ih => exact ih (k.takeNotice h)

/-! ## The link port (R3 to R18) -/

theorem linkStays {kk : Link} (hwrites : kk.slotWrites = s.link.slotWrites)
    (hphase : kk.phase ≠ .idle) (h : P .none s) : P .none (s.withLink kk) :=
  k.link hwrites (fun hidle => absurd hidle hphase) h

theorem windowEffect (a : Nat) (b : Byte) (hphase : s.link.phase ≠ .idle) (h : P .none s) :
    P .none (s.windowEffect a b) := by
  unfold State.windowEffect
  split
  next => exact k.link rfl id h
  next hrd =>
    split
    next => exact k.link rfl id (k.takeMark _ rfl h)
    next hrd1 =>
      split
      next hrenew =>
        exact k.renew (k.pokes b (by rw [hrenew]; decide) (by rw [hrenew]; decide) hrd hrd1 h)
      next =>
        split
        next hwritable =>
          unfold State.storeByte
          split
          next n hn => exact k.stores b hn hphase h
          next hn => exact k.pokes b hn hwritable hrd hrd1 h
        next =>
          unfold State.dropByte
          split
          · exact h
          · exact k.quiet (quiet_raise _ rfl) (k.link rfl id h)

theorem windowByte (b : Byte) (h : P .none s) : P .none (s.windowByte b) := by
  unfold State.windowByte
  split
  next n hn =>
    exact k.linkStays rfl nofun (k.windowEffect _ b (Link.phase_of_entered hn) h)
  next => exact h

theorem readPair (t : Target) (pair : List Byte) (n : Nat) (h : P .none s) :
    P .none (s.readPair t pair n) := by
  unfold State.readPair
  split
  next => exact k.linkStays (Link.pairRead_slotWrites _ _ _ _ _) (Link.pairRead_phase _ _ _ _ _) h
  next => exact h

theorem acknowledge (code : Byte) (h : P .none s) : P .none (s.acknowledge code) := by
  unfold State.acknowledge
  split
  · split
    next => exact h
    next hedge => exact k.quiet (quiet_clear _ (by simpa using hedge)) h
  · exact h

/-! ## Every command -/

/-- Every command but the three that move the meter or reset the part. -/
theorem exec {c : Instr} {t : State} (hframe : ∀ f, c ≠ .meteringFrame f) (hreset : c ≠ .linkReset)
    (hpower : ∀ levels, c ≠ .powerOnReset levels) (h : P .none s)
    (ht : Machine.exec c s = .next t) : P .none t := by
  cases c with
  | meteringFrame f => exact absurd rfl (hframe f)
  | linkReset => exact absurd rfl hreset
  | powerOnReset levels => exact absurd rfl (hpower levels)
  | withdraw | clearTrip | setClock | loadTariff | openSession | closeSession | calibrateMeter
  | setJournalLevels | setGrant | charge | setPowerStage | heat | loadAcceptance | setSensors
  | checkInsulation | setInsulation => cases ht; exact k.post _ _ _ h
  | windowWrite v | slotStateWrite v | readMarkHighByteWrite v | readMarkLowByteWrite v
  | grantRenewal v => cases ht; exact k.windowByte v h
  | pointerRead | causeRead | controlRead => cases ht; exact k.readPair _ _ _ h
  | startByteRejected b =>
    cases ht
    split
    · refine k.linkStays rfl ?_ h
      simp only [phaseAfterStart]
      split <;> nofun
    · exact h
  | pointerWrite data =>
    cases ht
    split
    · exact k.linkStays (Link.pointerBytes_slotWrites _ _ _) (Link.pointerBytes_phase _ _ _) h
    · exact h
  | windowRead n =>
    cases ht
    split
    · exact k.linkStays (Link.windowBytes_slotWrites _ _ _ _) (Link.windowBytes_phase _ _ _ _) h
    · exact h
  | causeAcknowledge code =>
    cases ht
    split
    · exact k.linkStays rfl nofun (k.acknowledge code h)
    · exact h
  | maskWrite mask =>
    cases ht
    split
    · exact k.linkStays rfl nofun (k.quiet (quiet_withAttn rfl) h)
    · exact h
    · exact h
  | linkResetRequest mode =>
    cases ht
    split
    · exact k.linkStays rfl nofun h
    · exact h
    · exact h
  | transactionStart =>
    cases ht
    split
    next hidle => exact k.starts hidle h
    next => exact h
  | transactionEnd =>
    cases ht
    split
    · exact h
    · exact k.ends h
  | slotStateNotice => cases ht; exact k.takeNotice h
  | closeSessionEndClose =>
    cases ht
    exact k.afterClose (by simp [Busy.none]) (by simp [Busy.none]) (State.continueClose_queues s) h
      (k.continueClose h)
  | closeSessionComplete =>
    cases ht
    exact k.afterClose (by simp [Busy.none]) (by simp [Busy.none]) (State.completeClose_queues s) h
      (k.completeClose h)
  | frameReport =>
    simp only [Machine.exec, execFrameReport] at ht
    split at ht
    · cases ht; exact k.takeReport _ (k.quiet (quiet_withMetering rfl) h)
    · cases ht; exact h
  | partTimeTick =>
    cases ht
    split
    · exact k.minuteStart _ (k.advanceTime h)
    · exact k.advanceTime h
  | controlPeriod =>
    cases ht
    exact k.periodReports _ _ (k.drivePeriod _ (by simp [State.periodInputs])
      (fun hpos => targetDemand_pos hpos) h)
  | keepaliveHalfPeriod =>
    cases ht
    split
    · exact k.quiet (quiet_raise _ rfl)
        (k.quiet (quiet_withPower rfl le_rfl le_rfl rfl s.power.effGrant_reported) h)
    · exact h
  | keepaliveExpiry =>
    cases ht
    split
    · exact k.quiet (quiet_setKeepalive _ _) h
    · exact h
  | temperatureScan scan => cases ht; exact k.temperatureScan scan h
  | pkonAsserted =>
    cases ht
    split
    · exact h
    · exact k.enterWarmup (k.quiet (quiet_withPins id fun _ => rfl) h)
  | pkonNegated =>
    cases ht
    split
    · have hfall : P .none (s.withPins { s.pins with pkon := false }).failGate :=
        k.quiet (Calm.failGate (s := s) { running := fun _ => rfl } (.of_same le_rfl rfl rfl)) h
      exact k.afterCheck (by simp [Busy.none]) (by simp [Busy.none]) (by simp) h (k.enterIdle hfall)
    · exact h
  | halfPeriodEnd u =>
    cases ht
    exact k.afterCheck (by simp [Busy.none]) (by simp [Busy.none]) (State.endHalf_queues s u) h
      (k.endHalf u h)
  | freshnessExpiry =>
    cases ht
    split
    · exact k.quiet (Calm.failGate (s := s)
        { running := State.runningSlot_congr rfl rfl rfl rfl } (.of_same le_rfl rfl rfl)) h
    · exact h
  | checkInsulationTimeout =>
    cases ht
    split
    · exact k.afterCheck (by simp [Busy.none]) (by simp [Busy.none]) (State.endCheck_queues s _) h
        (k.endCheck _ h)
    · exact h
  | statusPeriod => cases ht; exact k.copies _ h
  | pmfltAsserted =>
    cases ht
    split
    · exact h
    · exact k.tripReport _ (k.quiet (quiet_withPins id id) h)
  | pmfltNegated => cases ht; exact k.quiet (quiet_withPins id id) h
  | pmrdyAsserted => cases ht; exact k.quiet (quiet_withPins (fun _ => rfl) id) h
  | pmrdyNegated =>
    cases ht
    refine k.quiet (Calm.failGateIf (s := s) (t := s.withPins { s.pins with pmrdy := false })
      { running := fun _ => rfl } (.of_same le_rfl rfl rfl)
      fun hkept hd => ⟨.inl hd, id, ?_, id⟩) h
    rw [State.gatesButGrant_iff, State.gatesButGrant_iff]
    rintro ⟨-, -, -, -, hpmrdy, -, -⟩
    exact absurd (hkept hpmrdy) nofun
  | infbShowsClosed =>
    cases ht
    split
    · exact h
    · exact k.infbClosed (k.quiet (quiet_setInfb _ _) h)
  | infbShowsOpen =>
    cases ht
    split
    · exact k.infbOpen (k.quiet (quiet_setInfb _ _) h)
    · exact h
  | closeTimerExpiry =>
    cases ht
    split
    · exact k.closeTimedOut h
    · exact h
  | noNeedTimerExpiry =>
    cases ht
    split
    · exact k.falls ((drivesFall_leaveClosed s).trans
        (drivesFall_setRelay (.inr s.leaveClosed_iDem) _ _ _)) h
    · exact h
  | currentWaitTimeout =>
    cases ht
    split
    next hexp =>
      exact k.falls (drivesFall_enterRelease (.inl (by simp [((Relay.expired_iff _ _ _).mp hexp).1])) _) h
    next => exact h
  | releaseTimerExpiry =>
    cases ht
    split
    next hexp => exact k.releaseTimedOut (.inl (by simp [((Relay.expired_iff _ _ _).mp hexp).1])) h
    next => exact h
  | uncommandedClosureExpiry =>
    cases ht
    split
    next hexp => exact k.weld (.inl (by simp [((Relay.expired_iff _ _ _).mp hexp).1])) h
    next => exact h

/-- The idle step moves counts and timers only (log entry 2). -/
theorem tick (h : P .none s) : P .none s.tick := by
  have hpower : P .none ((s.withBilling s.billing.tick).withPower s.power.tick) :=
    k.quiet (quiet_withPower (s := s.withBilling s.billing.tick)
      (by simp [Power.tick, Charge.tick, Function.comp_def]) le_rfl le_rfl rfl
      s.power.effGrant_tick) (k.quiet (quiet_withBilling rfl rfl rfl rfl) h)
  have hheating := k.quiet (quiet_withHeating (h := s.heating.tick)
    (s := (s.withBilling s.billing.tick).withPower s.power.tick)
    (by simp [Heating.tick, Plan.tick, Function.comp_def]) rfl rfl) hpower
  have hinsulation := k.quiet (quiet_withInsulation (i := s.insulation.tick)
    (s := ((s.withBilling s.billing.tick).withPower s.power.tick).withHeating s.heating.tick) rfl rfl
    (by simp [Insulation.tick, Check.tick, Function.comp_def])) hheating
  exact k.falls (drivesFall_relayTimer _ (r := s.relay.tick) rfl) hinsulation

theorem withPending (q : List Instr) (h : P .none s) : P .none (s.withPending q) :=
  k.quiet (s := s) (t := s.withPending q)
    { running := fun w => by cases w <;> rfl
      demand := .of_same le_rfl rfl rfl rfl
      duty := .of_same le_rfl rfl rfl } h

/-- Every step keeps the predicate whose METERING_FRAME, LINK_RESET and POWER_ON_RESET do. -/
theorem step {t : State} (hframe : ∀ {s t f}, P .none s → Machine.exec (.meteringFrame f) s = .next t →
      P .none t)
    (hreset : ∀ {s t}, P .none s → Machine.exec .linkReset s = .next t → P .none t)
    (hpower : ∀ {s t levels}, Machine.exec (.powerOnReset levels) s = .next t → P .none t)
    (h : P .none s) (ht : Machine.step s = .next t) : P .none t := by
  unfold Machine.step at ht
  split at ht
  next c rest hpending =>
    have hs := k.withPending rest h
    cases c with
    | meteringFrame f => exact hframe hs ht
    | linkReset => exact hreset hs ht
    | powerOnReset levels => exact hpower ht
    | _ => exact k.exec (by simp) (by simp) (by simp) hs ht
  next => cases ht; exact k.tick h

end Kept

end Sys2Proof.Machine
end

/-! # The exchange memory keeps its canonical form (O3) -/

section
namespace Sys2Proof.Machine

theorem Calm.wf {s t : State} (h : Calm s t) (hs : s.mem.wf = true) : t.mem.wf = true := by
  rw [h.mem]
  exact hs

/-- A judged write leaves memory alone. -/
theorem Judged.mem {n : SlotNo} {s s' : State} (h : Judged n s s') : s'.mem = s.mem := by
  obtain rfl | ⟨v, rest, -, rfl⟩ := h <;> rfl

theorem State.startClose_wf {s : State} (n : SlotNo) (ses : Session) (h : s.mem.wf = true) :
    (s.startClose n ses).mem.wf = true := by
  rw [State.startClose, State.failGate_mem]
  exact State.endCharge_wf _ _ (State.setSlotState_wf _ _ _ h)

theorem wf_kept : Kept fun _ s => s.mem.wf = true where
  quiet h hs := h.wf hs
  relabel _ _ _ hs := hs
  journal r _ hs := State.journalWrite_wf _ r hs
  holdRecord _ _ hs := State.poke_wf _ _ _ hs
  freeHeld hs := State.poke_wf _ _ _ hs
  holdBegins hs := by simpa using hs
  holdEnds hs := by simpa using hs
  levels _ _ hs := State.poke_wf _ _ _ (State.poke_wf _ _ _ hs)
  mark _ hs := State.pokeAll_wf _ _ _ hs
  shown hs := State.showFlagged_wf _ hs
  trip _ hs := by simpa using hs
  clears hs := by simpa using hs
  condition _ _ hs := by simpa [State.newCondition] using hs
  fault _ _ _ hs := by simpa [State.newCondition] using hs
  sessionOpens _ _ _ hs := hs
  sessionEnds _ _ hs := hs
  finishes _ hs := State.finish_wf _ _ _ hs
  chargeEnds _ _ _ hs := State.finish_wf _ _ _ (by simpa using hs)
  planEnds _ _ _ hs := State.finish_wf _ _ _ (by simpa using hs)
  checkEnds _ _ hs := State.finish_wf _ _ _ hs
  closeEnds _ _ hs := State.finish_wf _ _ _ hs
  chargeRuns _ _ _ hs := State.setSlotState_wf _ _ _ hs
  planRuns _ _ _ hs := State.setSlotState_wf _ _ _ hs
  checkRuns _ hs := State.setSlotState_wf _ _ _ hs
  closeRuns _ _ hs := State.startClose_wf _ _ hs
  waits := .inl (labelFree_of_const _)
  drained _ hs := hs
  requeue _ _ _ hs := by simpa using hs
  takesHead _ _ _ _ hs := by simpa using hs
  unqueues _ _ _ _ _ hs := State.finish_wf _ _ _ (by simpa using hs)
  postTaken p hj _ _ hs := State.copyPost_wf _ _ p (by rw [hj.mem]; exact hs)
  postWaits p hj _ _ _ hs := State.enqueue_wf _ _ _ (State.copyPost_wf _ _ p (by rw [hj.mem]; exact hs))
  frees hj _ hs := State.acceptFree_wf _ _ (by rw [hj.mem]; exact hs)
  holds hj hs := State.holdWrite_wf _ _ (by rw [hj.mem]; exact hs)
  link _ _ hs := hs
  starts _ hs := hs
  ends hs := by simpa using hs
  stores _ _ _ hs := by simpa using State.poke_wf _ _ _ hs
  pokes _ _ _ _ _ hs := State.poke_wf _ _ _ hs
  copies _ hs := State.writeCopy_wf _ _ _ _ hs

/-- Settles O3: memory is written by part writes only, and each keeps the canonical form. -/
theorem memoryStaysCanonical : Obligations.MemoryStaysCanonical := by
  intro s t hs hstep
  refine wf_kept.step ?frame ?reset ?power hs hstep
  case frame => intro s t f hs ht; cases ht; simpa using hs
  case reset =>
    intro s t hs ht
    cases ht
    split
    · exact State.linkReset_wf s hs
    · exact hs
  case power => intro s t levels ht; cases ht; exact State.powerOn_wf s levels

end Sys2Proof.Machine
end

/-! # The header shows what the billing unit holds (O4) -/

section
namespace Sys2Proof.Machine

/-! ## The header of a memory, apart from an indicator that is still to be written -/

/-- HeaderShows over a memory and a billing unit; 000Ch may wait to be written while a mark is applied
(R97). -/
structure HeaderBut (stale : Bool) (m : Memory) (b : Billing) : Prop where
  wf : m.wf = true
  part : m.readAll 0x0000 4 = [0x4B, 0x34, 0x36, 0x01]
  w : m.readAll 0x0004 2 = beBytes 2 b.w.toNat
  rd : m.readAll 0x0006 2 = beBytes 2 b.rd.toNat
  halt : m.read 0x0008 = BitVec.ofNat 8 b.halt
  resume : m.read 0x0009 = BitVec.ofNat 8 b.resume
  held : m.read 0x000B = flagByte b.held.isSome
  flagged : stale = false → m.read 0x000C = flagByte b.flaggedUnread

theorem headerShows_iff (s : State) : HeaderShows s ↔ HeaderBut false s.mem s.billing := by
  constructor
  · rintro ⟨h1, h2, h3, h4, h5, h6, h7, h8⟩
    exact ⟨h1, h2, h3, h4, h5, h6, h7, fun _ => h8⟩
  · rintro ⟨h1, h2, h3, h4, h5, h6, h7, h8⟩
    exact ⟨h1, h2, h3, h4, h5, h6, h7, h8 rfl⟩

namespace HeaderBut

variable {stale : Bool} {m : Memory} {b b' : Billing}

theorem ledger (h : HeaderBut stale m b) (hb : b'.ledger = b.ledger) : HeaderBut stale m b' := by
  simp only [Billing.ledger, Prod.mk.injEq] at hb
  obtain ⟨hw, hrd, hhalt, hresume, -, hheld, hmark⟩ := hb
  obtain ⟨h1, h2, h3, h4, h5, h6, h7, h8⟩ := h
  refine ⟨h1, h2, by rw [hw]; exact h3, by rw [hrd]; exact h4, by rw [hhalt]; exact h5,
    by rw [hresume]; exact h6, by rw [hheld]; exact h7, fun hs => ?_⟩
  rw [h8 hs, Billing.flaggedUnread, Billing.flaggedUnread, hmark, Billing.fill, Billing.fill, hw, hrd]

theorem hold (hold : Bool) (h : HeaderBut stale m b) : HeaderBut stale m { b with hold := hold } :=
  ⟨h.wf, h.part, h.w, h.rd, h.halt, h.resume, h.held, h.flagged⟩

/-- Memory as it was at every header byte but the fresh-copy index. -/
theorem congr {m' : Memory} (h : HeaderBut stale m b) (hwf : m'.wf = true)
    (hread : ∀ a < 0x0D, a ≠ 0x0A → m'.read a = m.read a) : HeaderBut stale m' b where
  wf := hwf
  part := (Memory.readAll_congr _ _ fun a _ ha => hread a (by omega) (by omega)).trans h.part
  w := (Memory.readAll_congr _ _ fun a _ ha => hread a (by omega) (by omega)).trans h.w
  rd := (Memory.readAll_congr _ _ fun a _ ha => hread a (by omega) (by omega)).trans h.rd
  halt := (hread _ (by omega) (by omega)).trans h.halt
  resume := (hread _ (by omega) (by omega)).trans h.resume
  held := (hread _ (by omega) (by omega)).trans h.held
  flagged hs := (hread _ (by omega) (by omega)).trans (h.flagged hs)

theorem write {a : Nat} (v : Byte) (ha : 0x0D ≤ a ∨ a = 0x0A) (h : HeaderBut stale m b) :
    HeaderBut stale (m.write a v) b :=
  h.congr (Memory.write_wf _ _ h.wf) fun _ _ _ => Memory.read_write_other _ _ (by omega)

theorem writeAll {a : Nat} (vs : List Byte) (ha : 0x0D ≤ a) (h : HeaderBut stale m b) :
    HeaderBut stale (m.writeAll a vs) b :=
  h.congr (Memory.writeAll_wf _ _ h.wf) fun _ _ _ => Memory.read_writeAll_other _ _ _ (.inl (by omega))

/-- A byte of the slots. -/
theorem writeSlot (n : SlotNo) (v : Byte) (h : HeaderBut stale m b) :
    HeaderBut stale (m.write (slotAddr n) v) b :=
  h.write v (.inl (by have := slotAddr_bounds n; omega))

theorem writeResult (n : SlotNo) (vs : List Byte) (h : HeaderBut stale m b) :
    HeaderBut stale (m.writeAll (slotAddr n + 32) vs) b :=
  h.writeAll vs (by have := slotAddr_bounds n; omega)

/-! ## The billing unit's own header writes -/

theorem takeFlagged (h : HeaderBut true m b) :
    HeaderBut false (m.write Config.hdrFlagged (flagByte b.flaggedUnread)) b where
  wf := Memory.write_wf _ _ h.wf
  part := (Memory.readAll_write_other _ _ _ _ _ (by decide)).trans h.part
  w := (Memory.readAll_write_other _ _ _ _ _ (by decide)).trans h.w
  rd := (Memory.readAll_write_other _ _ _ _ _ (by decide)).trans h.rd
  halt := (Memory.read_write_other _ _ (by decide)).trans h.halt
  resume := (Memory.read_write_other _ _ (by decide)).trans h.resume
  held := (Memory.read_write_other _ _ (by decide)).trans h.held
  flagged _ := Memory.read_write_same _ h.wf (by decide)

theorem stale_of (h : HeaderBut stale m b) : HeaderBut true m b :=
  { h with flagged := nofun }

theorem takeW (w : Half) (flag : Option Half) (h : HeaderBut stale m b) :
    HeaderBut true (m.writeAll Config.hdrW (beBytes 2 w.toNat))
      { b with w := w, flaggedMark := flag } where
  wf := Memory.writeAll_wf _ _ h.wf
  part := (Memory.readAll_writeAll_other _ _ _ _ _ (by simp [Config.hdrW])).trans h.part
  w := by
    have := Memory.readAll_writeAll Config.hdrW (beBytes 2 w.toNat) h.wf (by simp [Config.hdrW, Config.memSize])
    rwa [length_beBytes] at this
  rd := (Memory.readAll_writeAll_other _ _ _ _ _ (by simp [Config.hdrW])).trans h.rd
  halt := (Memory.read_writeAll_other _ _ _ (by simp [Config.hdrW])).trans h.halt
  resume := (Memory.read_writeAll_other _ _ _ (by simp [Config.hdrW])).trans h.resume
  held := (Memory.read_writeAll_other _ _ _ (by simp [Config.hdrW])).trans h.held
  flagged := nofun

theorem takeRd (rd : Half) (h : HeaderBut stale m b) :
    HeaderBut true (m.writeAll Config.hdrRd (beBytes 2 rd.toNat)) { b with rd := rd } where
  wf := Memory.writeAll_wf _ _ h.wf
  part := (Memory.readAll_writeAll_other _ _ _ _ _ (by simp [Config.hdrRd])).trans h.part
  w := (Memory.readAll_writeAll_other _ _ _ _ _ (by simp [Config.hdrRd])).trans h.w
  rd := by
    have := Memory.readAll_writeAll Config.hdrRd (beBytes 2 rd.toNat) h.wf (by simp [Config.hdrRd, Config.memSize])
    rwa [length_beBytes] at this
  halt := (Memory.read_writeAll_other _ _ _ (by simp [Config.hdrRd])).trans h.halt
  resume := (Memory.read_writeAll_other _ _ _ (by simp [Config.hdrRd])).trans h.resume
  held := (Memory.read_writeAll_other _ _ _ (by simp [Config.hdrRd])).trans h.held
  flagged := nofun

theorem takeHeld (r : Option Record) (h : HeaderBut stale m b) :
    HeaderBut stale (m.write Config.hdrHeld (flagByte r.isSome)) { b with held := r } where
  wf := Memory.write_wf _ _ h.wf
  part := (Memory.readAll_write_other _ _ _ _ _ (by decide)).trans h.part
  w := (Memory.readAll_write_other _ _ _ _ _ (by decide)).trans h.w
  rd := (Memory.readAll_write_other _ _ _ _ _ (by decide)).trans h.rd
  halt := (Memory.read_write_other _ _ (by decide)).trans h.halt
  resume := (Memory.read_write_other _ _ (by decide)).trans h.resume
  held := Memory.read_write_same _ h.wf (by decide)
  flagged hs := (Memory.read_write_other _ _ (by decide)).trans (h.flagged hs)

theorem takeLevels (halt resume : Nat) (h : HeaderBut stale m b) :
    HeaderBut stale ((m.write Config.hdrHalt (BitVec.ofNat 8 halt)).write Config.hdrResume
      (BitVec.ofNat 8 resume)) { b with halt := halt, resume := resume } where
  wf := Memory.write_wf _ _ (Memory.write_wf _ _ h.wf)
  part := (Memory.readAll_write_other _ _ _ _ _ (by decide)).trans
    ((Memory.readAll_write_other _ _ _ _ _ (by decide)).trans h.part)
  w := (Memory.readAll_write_other _ _ _ _ _ (by decide)).trans
    ((Memory.readAll_write_other _ _ _ _ _ (by decide)).trans h.w)
  rd := (Memory.readAll_write_other _ _ _ _ _ (by decide)).trans
    ((Memory.readAll_write_other _ _ _ _ _ (by decide)).trans h.rd)
  halt := (Memory.read_write_other _ _ (by decide)).trans (Memory.read_write_same _ h.wf (by decide))
  resume := Memory.read_write_same _ (Memory.write_wf _ _ h.wf) (by decide)
  held := (Memory.read_write_other _ _ (by decide)).trans
    ((Memory.read_write_other _ _ (by decide)).trans h.held)
  flagged hs := (Memory.read_write_other _ _ (by decide)).trans
    ((Memory.read_write_other _ _ (by decide)).trans (h.flagged hs))

end HeaderBut

theorem slotAt_bounds {a : Nat} {n : SlotNo} (h : slotAt a = some n) : 0x40 ≤ a ∧ a < 0x440 := by
  simp only [slotAt, Option.ite_none_right_eq_some] at h
  exact ⟨h.1.1, h.1.2.1⟩

/-- A host-writable address beside the read mark's is beyond the header the part shows (R13). -/
theorem hostWritable_bound {a : Nat} (h : hostWritable a = true) (hrd : a ≠ Config.hdrRd)
    (hrd1 : a ≠ Config.hdrRd + 1) : 0x0D ≤ a := by
  simp only [hostWritable, Bool.or_eq_true, Bool.and_eq_true, beq_iff_eq, decide_eq_true_eq, hrd, hrd1,
    false_or] at h
  have : Config.hdrRenewal = 0x0D := rfl
  have : Config.slotBase = 0x40 := rfl
  have : Config.stagingFirst = 0x640 := rfl
  omega

theorem nextCopy_bound (fresh : Byte) : 0x440 ≤ (nextCopy fresh).1 ∧ (nextCopy fresh).1 ≤ 0x540 := by
  unfold nextCopy
  split <;> decide

theorem State.writeCopy_mem (s : State) (base : Nat) (index : Byte) (seq : Word) :
    (s.writeCopy base index seq).mem =
      (((s.mem.writeAll (base + 252) (beBytes 4 seq.toNat)).writeAll (base + 4) s.statusBody).writeAll
        base (beBytes 4 seq.toNat)).write Config.hdrFresh index := by
  simp [State.writeCopy, State.statusBody, State.gates]

theorem HeaderBut.writeCopy {stale : Bool} {s : State} {base : Nat}
    (hbase : 0x440 ≤ base ∧ base ≤ 0x540) (index : Byte) (seq : Word)
    (h : HeaderBut stale s.mem s.billing) :
    HeaderBut stale (s.writeCopy base index seq).mem (s.writeCopy base index seq).billing := by
  rw [State.writeCopy_mem, State.writeCopy_billing]
  exact (((h.writeAll _ (by omega)).writeAll _ (by omega)).writeAll _ (by omega)).write _ (.inr rfl)

/-! ## The header through every step -/

/-- The header, as a command that is under way leaves it. -/
def HeaderKept (l : Busy) (s : State) : Prop := HeaderBut l.stale s.mem s.billing

/-- What a journal write stores, in its order (R93). -/
theorem State.journalWrite_mem (s : State) (r : Record) :
    (s.journalWrite r).mem =
      ((s.mem.writeAll (Config.journalBase + 64 * (s.billing.w.toNat % Config.journalSlots))
        r.bytes).writeAll Config.hdrW (beBytes 2 (s.billing.w + 1).toNat)).write Config.hdrFlagged
          (flagByte (s.journalWrite r).billing.flaggedUnread) := by
  simp [State.journalWrite, State.showFlagged]

theorem HeaderBut.journalWrite {stale : Bool} {s : State} (r : Record)
    (h : HeaderBut stale s.mem s.billing) :
    HeaderBut false (s.journalWrite r).mem (s.journalWrite r).billing := by
  have hrecord := h.writeAll (a := Config.journalBase + 64 * (s.billing.w.toNat % Config.journalSlots))
    r.bytes (by simp only [Config.journalBase]; omega)
  rw [State.journalWrite_mem, State.journalWrite_billing]
  exact (hrecord.takeW (s.billing.w + 1) _).takeFlagged

theorem HeaderBut.finish {stale : Bool} {s : State} (n : SlotNo) (e : Ending)
    (h : HeaderBut stale s.mem s.billing) :
    HeaderBut stale (s.finish n e).mem (s.finish n e).billing := by
  rw [State.finish_mem, State.finish_billing]
  exact (h.writeResult n _).writeSlot n _

theorem HeaderBut.copyPost {stale : Bool} {s : State} (n : SlotNo) (p : Posted)
    (h : HeaderBut stale s.mem s.billing) :
    HeaderBut stale (s.copyPost n p).mem (s.copyPost n p).billing :=
  (h.writeResult n _).writeSlot n _

theorem Judged.billing {n : SlotNo} {s s' : State} (h : Judged n s s') : s'.billing = s.billing := by
  obtain rfl | ⟨v, rest, -, rfl⟩ := h <;> rfl

theorem HeaderBut.judged {stale : Bool} {n : SlotNo} {s s' : State} (hj : Judged n s s')
    (h : HeaderBut stale s.mem s.billing) : HeaderBut stale s'.mem s'.billing := by
  rw [hj.mem, hj.billing]
  exact h

theorem HeaderBut.startClose {stale : Bool} {s : State} {n : SlotNo} {ses : Session}
    (h : HeaderBut stale s.mem s.billing) :
    HeaderBut stale (s.startClose n ses).mem (s.startClose n ses).billing := by
  rw [State.startClose, State.failGate_mem, State.failGate_billing, State.endCharge]
  split
  · exact HeaderBut.finish _ _ (HeaderBut.ledger (h.writeSlot n _) rfl)
  · exact HeaderBut.ledger (h.writeSlot n _) rfl

/-- What the header shows moves with no drive, cause, condition or trip. -/
theorem headerBut_parts {stale : Bool} {s t : State} (h : HeaderBut stale s.mem s.billing)
    (hmem : t.mem = s.mem) (hbilling : t.billing = s.billing) :
    HeaderBut stale t.mem t.billing := by
  rw [hmem, hbilling]
  exact h

theorem header_kept : Kept HeaderKept where
  quiet hq h := HeaderBut.ledger (by rw [hq.mem]; exact h) hq.ledger
  relabel _ hstale _ h := by rw [HeaderKept, ← hstale]; exact h
  journal r _ h := by
    have hwritten := HeaderBut.journalWrite r h
    exact { hwritten with flagged := fun _ => hwritten.flagged rfl }
  holdRecord r _ h := HeaderBut.takeHeld (some r) h
  freeHeld h := HeaderBut.takeHeld none h
  holdBegins h := headerBut_parts (s := State.withBilling _ _) (HeaderBut.hold true h) (by simp) (by simp)
  holdEnds h := HeaderBut.hold false h
  levels halt resume h := h.takeLevels halt resume
  mark m h := h.takeRd m
  shown h := h.stale_of.takeFlagged
  trip _ h := headerBut_parts h (by simp) (by simp)
  clears h := headerBut_parts h (by simp) (by simp)
  condition _ _ h := headerBut_parts h (by simp [State.newCondition]) (by simp [State.newCondition])
  fault _ _ _ h := headerBut_parts h (by simp [State.newCondition]) (by simp [State.newCondition])
  sessionOpens _ _ _ h := h.ledger rfl
  sessionEnds _ _ h := h.ledger rfl
  finishes e h := HeaderBut.finish _ e h
  chargeEnds e _ _ h := HeaderBut.finish _ e (headerBut_parts h (by simp) (by simp))
  planEnds e _ _ h := HeaderBut.finish _ e (headerBut_parts h (by simp) (by simp))
  checkEnds e _ h := HeaderBut.finish _ e h
  closeEnds e _ h := HeaderBut.finish _ e (h.ledger rfl)
  chargeRuns _ _ _ h := h.writeSlot _ _
  planRuns _ _ _ h := h.writeSlot _ _
  checkRuns _ h := h.writeSlot _ _
  closeRuns _ _ h := HeaderBut.startClose h
  waits := .inl fun l l' s hstale h => by rw [HeaderKept, ← hstale]; exact h
  drained _ h := h
  requeue _ _ _ h := h
  takesHead _ _ _ _ h := h
  unqueues e _ _ _ _ h := HeaderBut.finish _ e (headerBut_parts h (by simp) (by simp))
  postTaken p hj _ _ h := HeaderBut.copyPost _ p (HeaderBut.judged hj h)
  postWaits p hj _ _ _ h :=
    (HeaderBut.copyPost _ p (HeaderBut.judged hj h)).writeSlot _ _
  frees hj _ h := (HeaderBut.judged hj h).writeSlot _ _
  holds hj h := (HeaderBut.judged hj h).writeSlot _ _
  link _ _ h := h
  starts _ h := h
  ends h := h
  stores b ha _ h := h.write b (.inl (by have := slotAt_bounds ha; omega))
  pokes b _ hw hrd hrd1 h := h.write b (.inl (hostWritable_bound hw hrd hrd1))
  copies seq h := HeaderBut.writeCopy (nextCopy_bound _) _ seq h

end Sys2Proof.Machine
end

/-! # An invariant through a metering frame and the two resets -/

section
namespace Sys2Proof.Machine

/-! ## A link reset -/

/-- A link reset after the outstanding notices are taken (R19, log entry 8). -/
def State.resetHost (s : State) : State :=
  let s2 := s.withLink (s.link.afterReset s.billing.rdHigh)
  let s3 := s2.resetOrders.resetKeepalive
  s3.withAttn s3.causesAfterReset

theorem State.linkReset_eq (s : State) :
    s.linkReset = (State.takeNotices s.orders.notices.length s).resetHost := rfl

/-! ### The slots freed one after the other (R41) -/

theorem State.slot_clearSlot_same (s : State) (n : SlotNo) :
    (s.clearSlot n).slot n = Slot.reset := by
  rw [State.clearSlot, State.slot_congr (State.pokeAll_orders _ _ _),
    State.slot_congr (State.poke_orders _ _ _), State.slot_setSlot_same]

theorem State.slot_clearSlot_other (s : State) {n k : SlotNo} (h : k ≠ n) :
    (s.clearSlot n).slot k = s.slot k := by
  rw [State.clearSlot, State.slot_congr (State.pokeAll_orders _ _ _),
    State.slot_congr (State.poke_orders _ _ _), State.slot_setSlot_other _ _ h]

theorem State.slot_clearSlots (l : List SlotNo) (s : State) (n : SlotNo) :
    (l.foldl State.clearSlot s).slot n = if n ∈ l then Slot.reset else s.slot n := by
  induction l generalizing s with
  | nil => rfl
  | cons k l ih =>
    rw [List.foldl_cons, ih]
    by_cases hk : n = k
    · subst hk
      simp [State.slot_clearSlot_same]
    · simp [hk, State.slot_clearSlot_other s hk]

theorem State.clearSlot_mem (s : State) (n : SlotNo) :
    (s.clearSlot n).mem = (s.mem.write (slotAddr n) 0x00).writeAll (slotAddr n + 32)
      (List.replicate 32 0) := rfl

theorem State.clearSlot_read_other (s : State) (n : SlotNo) {a : Nat} (h : ¬engineBytes n a) :
    (s.clearSlot n).mem.read a = s.mem.read a := by
  simp only [engineBytes, not_or, not_and] at h
  rw [State.clearSlot_mem, Memory.read_writeAll_other _ _ _ (by simp only [List.length_replicate]; omega),
    Memory.read_write_other _ _ h.1]

/-- Bytes of a run of zeros. -/
theorem Memory.read_writeAll_zeros {m : Memory} (hm : m.wf = true) {a c n : Nat}
    (h : a + n ≤ Config.memSize) (hc : a ≤ c) (hn : c < a + n) :
    (m.writeAll a (List.replicate n 0)).read c = 0 := by
  induction n generalizing m a with
  | zero => omega
  | succ n ih =>
    rw [List.replicate_succ, Memory.writeAll]
    by_cases hca : c = a
    · subst hca
      rw [Memory.read_writeAll_other _ _ _ (.inl (by omega)), Memory.read_write_same _ hm (by omega)]
    · exact ih (Memory.write_wf _ _ hm) (by omega) (by omega) (by omega)

theorem State.clearSlot_read_zero {s : State} (hs : s.mem.wf = true) (n : SlotNo) {a : Nat}
    (h : engineBytes n a) : (s.clearSlot n).mem.read a = 0 := by
  have hb := slotAddr_bounds n
  rw [State.clearSlot_mem]
  obtain rfl | ⟨hlow, hhigh⟩ := h
  · rw [Memory.read_writeAll_other _ _ _ (.inl (by omega))]
    exact Memory.read_write_same _ hs (by simp only [Config.memSize]; omega)
  · exact Memory.read_writeAll_zeros (Memory.write_wf _ _ hs) (by simp only [Config.memSize]; omega)
      hlow (by omega)

theorem State.clearSlots_read_other (l : List SlotNo) (s : State) {a : Nat}
    (h : ∀ n ∈ l, ¬engineBytes n a) : (l.foldl State.clearSlot s).mem.read a = s.mem.read a := by
  induction l generalizing s with
  | nil => rfl
  | cons k l ih =>
    rw [List.foldl_cons, ih _ fun n hn => h n (List.mem_cons_of_mem _ hn),
      State.clearSlot_read_other _ _ (h k List.mem_cons_self)]

theorem State.clearSlots_read_zero (l : List SlotNo) {s : State} (hs : s.mem.wf = true)
    {n : SlotNo} {a : Nat} (ha : engineBytes n a) (h : n ∈ l ∨ s.mem.read a = 0) :
    (l.foldl State.clearSlot s).mem.read a = 0 := by
  induction l generalizing s with
  | nil => exact h.resolve_left (by simp)
  | cons k l ih =>
    refine ih (State.clearSlot_wf _ _ hs) ?_
    by_cases hk : engineBytes k a
    · exact .inr (State.clearSlot_read_zero hs k hk)
    · rw [State.clearSlot_read_other _ _ hk]
      obtain hn | hzero := h
      · obtain rfl | hn := List.mem_cons.mp hn
        · exact absurd ha hk
        · exact .inl hn
      · exact .inr hzero

theorem State.clearSlots_queues (l : List SlotNo) (s : State) :
    (l.foldl State.clearSlot s).orders.queues = s.orders.queues :=
  State.clearSlots_keep (fun s => s.orders.queues) (fun _ _ => rfl) l s

theorem State.clearSlots_notices (l : List SlotNo) (s : State) :
    (l.foldl State.clearSlot s).orders.notices = s.orders.notices :=
  State.clearSlots_keep (fun s => s.orders.notices) (fun _ _ => rfl) l s

/-! ### What a link reset leaves of each block (R41, R42) -/

theorem State.resetOrders_billing (s : State) : s.resetOrders.billing = s.billing.detach := by
  simp [State.resetOrders, State.clearSlots_keep State.billing (by simp)]

theorem State.resetOrders_power (s : State) : s.resetOrders.power = { s.power with charge := none } := by
  simp [State.resetOrders, State.clearSlots_keep State.power (by simp), State.dropCharge]

theorem State.resetOrders_heating (s : State) :
    s.resetOrders.heating = { s.heating with plan := none } := by
  simp [State.resetOrders, State.clearSlots_keep State.heating (by simp), State.dropPlan]

theorem State.resetOrders_insulation (s : State) :
    s.resetOrders.insulation = { s.insulation with check := none } := by
  simp [State.resetOrders, State.clearSlots_keep State.insulation (by simp)]

theorem State.resetOrders_slot (s : State) (n : SlotNo) : s.resetOrders.slot n = Slot.reset := by
  simp [State.resetOrders, State.slot_clearSlots]

theorem State.resetOrders_queues (s : State) : s.resetOrders.orders.queues = Queues.reset := by
  simp [State.resetOrders, State.clearSlots_queues]

theorem State.resetOrders_notices (s : State) : s.resetOrders.orders.notices = s.orders.notices := by
  simp [State.resetOrders, State.clearSlots_notices]

theorem State.resetOrders_read_other (s : State) {a : Nat} (h : ∀ n, ¬engineBytes n a) :
    s.resetOrders.mem.read a = s.mem.read a := by
  simp [State.resetOrders, State.clearSlots_read_other _ _ fun n _ => h n]

theorem State.resetOrders_read_zero {s : State} (hs : s.mem.wf = true) {n : SlotNo} {a : Nat}
    (h : engineBytes n a) : s.resetOrders.mem.read a = 0 :=
  State.clearSlots_read_zero _ (by simpa using hs) h (.inl (List.mem_finRange n))

theorem State.resetKeepalive_power (s : State) : s.resetKeepalive.power =
    { s.power with
      keepalive := if s.billing.session.isSome then .alive 0 false else s.power.keepalive } := by
  unfold State.resetKeepalive
  split <;> simp_all

theorem Billing.detach_ledger (b : Billing) : b.detach.ledger = b.ledger := rfl

theorem Billing.detach_closeHasSession (b : Billing) (h : CloseHasSession b) :
    CloseHasSession b.detach := by
  have hsame : b.detach.close.any Closing.early = b.close.any Closing.early := by
    cases hclose : b.close <;> simp [Billing.detach, hclose, Closing.early]
  exact fun hearly => h (hsame ▸ hearly)

/-! ## A link reset, a frame and a power-on reset of an invariant -/

namespace Kept

variable {P : Busy → State → Prop} (k : Kept P) {s t : State}
include k

theorem linkReset (hcore : ∀ {s}, P .none s → P .none s.resetHost) (h : P .none s)
    (ht : Machine.exec .linkReset s = .next t) : P .none t := by
  cases ht
  split
  · exact hcore (k.takeNotices _ h)
  · exact h

theorem meteringFrame {f : Frame} (h : P .none (s.withMetering (s.metering.frame s.pins.infb f)))
    (ht : Machine.exec (.meteringFrame f) s = .next t) : P .none t := by
  cases ht
  exact k.endCurrentWait (k.quiet (quiet_takeVoltage _ _) h)

theorem powerOn {levels : Pins} (hreset : P .none State.reset)
    (ht : Machine.exec (.powerOnReset levels) s = .next t) : P .none t := by
  cases ht
  have hpins : P .none ((State.reset.withPending s.pending).withPins levels) :=
    k.quiet (quiet_withPins nofun nofun) (k.withPending _ hreset)
  have hmonitor : P .none ((State.reset.withPending s.pending).powerOnPins levels) := by
    refine k.falls (drivesFall_setRelay (.inr rfl) _ _ _) (k.quiet (quiet_withMetering ?_) hpins)
    rfl
  refine k.tripIf _ _ ?_
  unfold State.powerOnMonitor
  split
  · exact k.enterWarmup hmonitor
  · exact hmonitor

end Kept

/-! ## The header (O4) -/

theorem HeaderBut.resetHost {s : State} (h : HeaderBut false s.mem s.billing) :
    HeaderBut false s.resetHost.mem s.resetHost.billing := by
  have hmem : s.resetHost.mem = (s.withLink (s.link.afterReset s.billing.rdHigh)).resetOrders.mem := by
    simp [State.resetHost]
  have hbilling : s.resetHost.billing = s.billing.detach := by
    simp [State.resetHost, State.resetOrders_billing]
  rw [hmem, hbilling]
  refine HeaderBut.congr (h.ledger s.billing.detach_ledger) (State.resetOrders_wf _ h.wf)
    fun a ha _ => State.resetOrders_read_other _ fun n hn => ?_
  have := slotAddr_bounds n
  unfold engineBytes at hn
  omega

/-- Settles O4: every header write goes with the change of the billing unit it shows; the indicator
waits while a read mark is applied. -/
theorem headerStaysTrue : Obligations.HeaderStaysTrue := by
  intro s t hs hstep
  rw [headerShows_iff] at hs ⊢
  refine header_kept.step (fun h => header_kept.meteringFrame ?_)
    (header_kept.linkReset HeaderBut.resetHost) (header_kept.powerOn ?_) hs hstep
  · exact h
  · exact (headerShows_iff _).mp (by unfold HeaderShows; decide)

end Sys2Proof.Machine
end

/-! # The level causes stand with their conditions (O5) -/

section
namespace Sys2Proof.Machine

/-- CausesShow but for the link between the FAULT condition and the trip set (R14, R177). -/
structure CausesBut (s : State) : Prop where
  trip : s.attn.trip = !s.trips.set.isEmpty
  halt : s.attn.journalHalt = s.billing.hold
  warn : s.attn.insulationWarn = s.insulation.condition.warns
  first : s.trips.first.isSome = !s.trips.set.isEmpty

/-- INSULATION is latched while the condition is FAULT (R160). -/
def FaultLatched (s : State) : Prop :=
  s.insulation.condition = .fault → s.trips.set.insulation = true

theorem causesShow_iff (s : State) : CausesShow s ↔ CausesBut s ∧ FaultLatched s :=
  ⟨fun ⟨h1, h2, h3, h4, h5⟩ => ⟨⟨h1, h2, h3, h4⟩, h5⟩,
    fun ⟨⟨h1, h2, h3, h4⟩, h5⟩ => ⟨h1, h2, h3, h4, h5⟩⟩

theorem CausesBut.congr {s t : State} (h : CausesBut s) (hlevels : t.attn.levels = s.attn.levels)
    (htrips : t.trips = s.trips) (hhold : t.billing.hold = s.billing.hold)
    (hcond : t.insulation.condition = s.insulation.condition) : CausesBut t := by
  simp only [Attention.levels, Prod.mk.injEq] at hlevels
  obtain ⟨htrip, hhalt, hwarn⟩ := hlevels
  exact
    { trip := by rw [htrip, htrips, h.trip]
      halt := by rw [hhalt, hhold, h.halt]
      warn := by rw [hwarn, hcond, h.warn]
      first := by rw [htrips, h.first] }

theorem CausesShow.congr {s t : State} (h : CausesShow s) (hlevels : t.attn.levels = s.attn.levels)
    (htrips : t.trips = s.trips) (hhold : t.billing.hold = s.billing.hold)
    (hcond : t.insulation.condition = s.insulation.condition) : CausesShow t := by
  rw [causesShow_iff] at h ⊢
  refine ⟨h.1.congr hlevels htrips hhold hcond, ?_⟩
  rw [FaultLatched, hcond, htrips]
  exact h.2

theorem Calm.causes {s t : State} (h : Calm s t) (hs : CausesShow s) : CausesShow t := by
  refine hs.congr h.levels h.trips ?_ h.condition
  have hledger := h.ledger
  simp only [Billing.ledger, Prod.mk.injEq] at hledger
  obtain ⟨-, -, -, -, hhold, -, -⟩ := hledger
  exact hhold

theorem Judged.attn {n : SlotNo} {s s' : State} (h : Judged n s s') : s'.attn = s.attn := by
  obtain rfl | ⟨v, rest, -, rfl⟩ := h <;> rfl

theorem Judged.trips {n : SlotNo} {s s' : State} (h : Judged n s s') : s'.trips = s.trips := by
  obtain rfl | ⟨v, rest, -, rfl⟩ := h <;> rfl

theorem Judged.insulation {n : SlotNo} {s s' : State} (h : Judged n s s') :
    s'.insulation = s.insulation := by
  obtain rfl | ⟨v, rest, -, rfl⟩ := h <;> rfl

theorem CausesShow.judged {n : SlotNo} {s s' : State} (hj : Judged n s s') (h : CausesShow s) :
    CausesShow s' :=
  h.congr (by rw [hj.attn]) hj.trips (by rw [hj.billing]) (by rw [hj.insulation])

theorem CausesShow.finish {s : State} (n : SlotNo) (e : Ending) (h : CausesShow s) :
    CausesShow (s.finish n e) :=
  h.congr (by rw [State.finish_attn, Attention.levels_put_edge _ rfl]) (by simp) (by simp) (by simp)

/-! ## The trip set (R178, R182) -/

theorem TripSet.isEmpty_iff (t : TripSet) : t.isEmpty = true ↔ t = TripSet.empty := beq_iff_eq

theorem TripSet.isEmpty_add (t : TripSet) (k : TripKind) : (t.add k).isEmpty = false := by
  rw [Bool.eq_false_iff, Ne, TripSet.isEmpty_iff]
  intro h
  have hhas := t.has_add_same k
  rw [h] at hhas
  cases k <;> cases hhas

theorem State.latchTrip_set (s : State) (k : TripKind) :
    (s.latchTrip k).trips.set = s.trips.set.add k := by
  unfold State.latchTrip
  split <;> simp

theorem TripSet.insulation_add {t : TripSet} (k : TripKind) (h : t.insulation = true) :
    (t.add k).insulation = true := by
  cases k <;> first | rfl | exact h

theorem CausesBut.latchTrip {s : State} (k : TripKind) (h : CausesBut s) :
    CausesBut (s.latchTrip k) := by
  have hset := s.latchTrip_set k
  cases hempty : s.trips.set.isEmpty with
  | true =>
    refine ⟨?_, ?_, ?_, ?_⟩
    · rw [hset, TripSet.isEmpty_add]
      simp [State.latchTrip, hempty, Attention.put]
    · simpa [State.latchTrip, hempty, Attention.put] using h.halt
    · simpa [State.latchTrip, hempty, Attention.put, State.failGate] using h.warn
    · rw [hset, TripSet.isEmpty_add]
      simp [State.latchTrip, hempty]
  | false =>
    refine ⟨?_, ?_, ?_, ?_⟩
    · rw [hset, TripSet.isEmpty_add]
      simpa [State.latchTrip, hempty] using h.trip
    · simpa [State.latchTrip, hempty] using h.halt
    · simpa [State.latchTrip, hempty] using h.warn
    · rw [hset, TripSet.isEmpty_add]
      simpa [State.latchTrip, hempty] using h.first

theorem State.latchTrip_condition (s : State) (k : TripKind) :
    (s.latchTrip k).insulation.condition = s.insulation.condition := by
  unfold State.latchTrip
  split <;> simp [State.failGate]

theorem State.tripDrives_condition (s : State) :
    s.tripDrives.insulation.condition = s.insulation.condition := by
  simp [State.tripDrives]

theorem CausesShow.tripDrives {s : State} (h : CausesShow s) : CausesShow s.tripDrives :=
  h.congr (by simp) (by simp) (by simp) s.tripDrives_condition

theorem TripSet.isEmpty_of_cleared (s : State) (h : s.trips.set.isEmpty = true) :
    s.clearedSet.isEmpty = true := by
  rw [TripSet.isEmpty_iff] at h ⊢
  simp [State.clearedSet, h, TripSet.empty]

theorem CausesShow.clearTrips {s : State} (h : CausesShow s) : CausesShow s.clearTrips := by
  obtain ⟨htrip, hhalt, hwarn, hfirst, hfault⟩ := h
  have hkeeps : s.insulation.condition = .fault → s.clearedSet.insulation = true := fun hcond => by
    simp [State.clearedSet, State.conditionGone, hcond, hfault hcond]
  unfold State.clearTrips
  extract_lets after
  split
  next hend =>
    simp only [Bool.and_eq_true] at hend
    refine ⟨?_, hhalt, hwarn, ?_, hkeeps⟩
    · show false = !after.isEmpty
      rw [hend.1]
      rfl
    · show false = !after.isEmpty
      rw [hend.1]
      rfl
  next hstay =>
    have hsame : after.isEmpty = s.trips.set.isEmpty := by
      cases hbefore : s.trips.set.isEmpty with
      | true => exact TripSet.isEmpty_of_cleared s hbefore
      | false => simpa [hbefore] using hstay
    exact ⟨htrip.trans (by rw [← hsame]; rfl), hhalt, hwarn, hfirst.trans (by rw [← hsame]; rfl), hkeeps⟩

/-! ## The condition (R161) -/

theorem State.reportWarn_levels (s : State) {before after : Condition}
    (h : s.attn.insulationWarn = before.warns) :
    (s.reportWarn before after).attn.levels = (s.attn.trip, s.attn.journalHalt, after.warns) := by
  unfold State.reportWarn
  cases hb : before.warns <;> cases ha : after.warns <;>
    simp_all [Attention.levels, Attention.put]

theorem CausesBut.newCondition {s : State} (i : Insulation) (h : CausesBut s) :
    CausesBut (s.newCondition i) := by
  have hlevels : (s.newCondition i).attn.levels
      = (s.attn.trip, s.attn.journalHalt, i.condition.warns) := by
    simpa [State.newCondition] using (s.withInsulation i).reportWarn_levels (after := i.condition) h.warn
  have hcond : (s.newCondition i).insulation.condition = i.condition := by
    simp only [State.newCondition, State.failGateIf]
    split <;> simp [State.failGate]
  simp only [Attention.levels, Prod.mk.injEq] at hlevels
  obtain ⟨htrip, hhalt, hwarn⟩ := hlevels
  exact
    { trip := by rw [htrip, s.newCondition_trips, h.trip]
      halt := by rw [hhalt, h.halt]; simp [State.newCondition]
      warn := by rw [hwarn, hcond]
      first := by rw [s.newCondition_trips, h.first] }

theorem State.newCondition_condition (s : State) (i : Insulation) :
    (s.newCondition i).insulation.condition = i.condition := by
  simp only [State.newCondition, State.failGateIf]
  split <;> simp [State.failGate]

/-! ## The causes through every step -/

theorem CausesShow.endCharge {s : State} (cause : Byte) (h : CausesShow s) :
    CausesShow (s.endCharge cause) := by
  unfold State.endCharge
  split
  · exact CausesShow.finish _ _ (h.congr rfl rfl rfl rfl)
  · exact h

theorem CausesShow.startClose {s : State} {n : SlotNo} {ses : Session} (h : CausesShow s) :
    CausesShow (s.startClose n ses) :=
  (drivesFall_failGate _).quiet.causes (CausesShow.endCharge _ (h.congr rfl rfl rfl rfl))

theorem causes_kept : Kept fun _ s => CausesShow s where
  quiet hq h := hq.causes h
  relabel _ _ _ h := h
  journal r _ h := h.congr (by simp [State.journalWrite, Attention.levels_put_edge _ (c := .journalNew) rfl]) (by simp)
    (by rw [State.journalWrite_billing]) (by simp)
  holdRecord _ _ h := h.congr rfl rfl rfl rfl
  freeHeld h := h.congr rfl rfl rfl rfl
  holdBegins h := by
    obtain ⟨htrip, -, hwarn, hfirst, hfault⟩ := h
    refine (causesShow_iff _).mpr ⟨⟨?_, ?_, ?_, ?_⟩, ?_⟩
    · simpa [Attention.put] using htrip
    · simp [Attention.put]
    · simpa [Attention.put, State.failGate] using hwarn
    · simpa using hfirst
    · simpa [FaultLatched, State.failGate] using hfault
  holdEnds h := by
    obtain ⟨htrip, -, hwarn, hfirst, hfault⟩ := h
    exact ⟨htrip, rfl, hwarn, hfirst, hfault⟩
  levels _ _ h := h.congr rfl rfl rfl rfl
  mark _ h := h.congr rfl rfl rfl rfl
  shown h := h.congr rfl rfl rfl rfl
  trip {l s k} _ h := by
    obtain ⟨hbut, hfault⟩ := (causesShow_iff s).mp h
    refine CausesShow.tripDrives ((causesShow_iff _).mpr ⟨hbut.latchTrip k, fun hcond => ?_⟩)
    rw [State.latchTrip_set]
    exact TripSet.insulation_add k (hfault (s.latchTrip_condition k ▸ hcond))
  clears h := h.clearTrips
  condition {l s i} _ hcond h := by
    obtain ⟨hbut, hfault⟩ := (causesShow_iff s).mp h
    refine (causesShow_iff _).mpr ⟨hbut.newCondition i, fun hnew => ?_⟩
    rw [State.newCondition_trips]
    obtain hold | hlatched := hcond (s.newCondition_condition i ▸ hnew)
    · exact hfault hold
    · exact hlatched
  fault {l s i} _ _ _ h := by
    obtain ⟨hbut, -⟩ := (causesShow_iff s).mp h
    refine CausesShow.tripDrives ((causesShow_iff _).mpr ⟨(hbut.newCondition i).latchTrip _, fun _ => ?_⟩)
    rw [State.latchTrip_set]
    rfl
  sessionOpens _ _ _ h := h.congr rfl rfl rfl rfl
  sessionEnds _ _ h := h.congr rfl rfl rfl rfl
  finishes e h := CausesShow.finish _ e h
  chargeEnds e _ _ h := CausesShow.finish _ e (h.congr rfl rfl rfl rfl)
  planEnds e _ _ h := CausesShow.finish _ e (h.congr rfl rfl rfl rfl)
  checkEnds e _ h := CausesShow.finish _ e (h.congr rfl rfl rfl rfl)
  closeEnds e _ h := CausesShow.finish _ e (h.congr rfl rfl rfl rfl)
  chargeRuns _ _ _ h := h.congr rfl rfl rfl rfl
  planRuns _ _ _ h := h.congr rfl rfl rfl rfl
  checkRuns _ h := h.congr rfl rfl rfl rfl
  closeRuns _ _ h := h.startClose
  waits := .inl (labelFree_of_const _)
  drained _ h := h
  requeue _ _ _ h := h.congr rfl rfl rfl rfl
  takesHead _ _ _ _ h := h.congr rfl rfl rfl rfl
  unqueues e _ _ _ _ h := CausesShow.finish _ e (h.congr (by simp) (by simp) (by simp) (by simp))
  postTaken p hj _ _ h := (h.judged hj).congr (by simp) (by simp) (by simp) (by simp)
  postWaits p hj _ _ _ h := (h.judged hj).congr (by simp) (by simp) (by simp) (by simp)
  frees hj _ h := (h.judged hj).congr (by simp) (by simp) (by simp) (by simp)
  holds hj h := (h.judged hj).congr 
    (by simp [State.holdWrite, Attention.levels_put_edge _ (c := .writeRefused) rfl]) (by simp)
    (by simp) (by simp)
  link _ _ h := h.congr rfl rfl rfl rfl
  starts _ h := h.congr rfl rfl rfl rfl
  ends h := h.congr rfl rfl rfl rfl
  stores _ _ _ h := h.congr rfl rfl rfl rfl
  pokes _ _ _ _ _ h := h.congr rfl rfl rfl rfl
  copies _ h := h.congr (by simp) (by simp) (by simp) (by simp)

theorem CausesShow.resetHost {s : State} (h : CausesShow s) : CausesShow s.resetHost := by
  obtain ⟨-, -, -, hfirst, hfault⟩ := h
  refine (causesShow_iff _).mpr ⟨⟨?_, ?_, ?_, ?_⟩, ?_⟩
  · simp [State.resetHost, State.causesAfterReset]
  · simp [State.resetHost, State.causesAfterReset]
  · simp [State.resetHost, State.causesAfterReset]
  · simpa [State.resetHost] using hfirst
  · simpa [FaultLatched, State.resetHost, State.resetOrders_insulation] using hfault

/-- Settles O5: a level cause moves only with its owner, in the same move. -/
theorem causesStayTrue : Obligations.CausesStayTrue := by
  intro s t hs hstep
  refine causes_kept.step (fun h => causes_kept.meteringFrame ?_)
    (causes_kept.linkReset CausesShow.resetHost) (causes_kept.powerOn ?_) hs hstep
  · exact h.congr rfl rfl rfl rfl
  · unfold CausesShow; decide

end Sys2Proof.Machine
end

/-! # No demand without its gates, no duty under a trip (O6) -/

section
namespace Sys2Proof.Machine

/-- DrivesSafe, with the grant's gate where `g` asks for it (R112, log entry 25). -/
def DrivesSafeBy (g : Prop) (s : State) : Prop :=
  DrivesSafe s ∧ (g → 0 < s.power.iDem → 0 < s.power.effGrant)

variable {g : Prop}

/-! ## Moves of the drives -/

theorem DrivesSafeBy.move {s t : State} (h : DrivesSafeBy g s) (hdem : DemandKept s t)
    (hduty : DutyKept s t) (hclose : CloseHasSession s.billing → CloseHasSession t.billing) :
    DrivesSafeBy g t := by
  obtain ⟨⟨hgates, hoff, hsession⟩, hgrant⟩ := h
  refine ⟨⟨fun hd => ?_, fun hd => ?_, hclose hsession⟩, fun hg hd => ?_⟩
  · obtain ⟨hfrom, hrelay, hkept, -⟩ := hdem hd
    obtain hold | ⟨hall, hclosed⟩ := hfrom
    · obtain ⟨hbut, hclosed⟩ := hgates hold
      exact ⟨hkept hbut, hrelay hclosed⟩
    · exact ⟨hkept (s.gates_all_iff.mp hall).1, hrelay hclosed⟩
  · obtain ⟨hfrom, hkept⟩ := hduty hd
    refine (State.heaterHeldOff_iff t).mp (hkept ?_)
    obtain hold | hnot := hfrom
    · exact (State.heaterHeldOff_iff s).mpr (hoff hold)
    · exact hnot
  · obtain ⟨hfrom, -, -, hkept⟩ := hdem hd
    obtain hold | ⟨hall, -⟩ := hfrom
    · exact hkept (hgrant hg hold)
    · exact hkept (s.gates_all_iff.mp hall).2

/-- Nothing of the drives, their gates and the close moves. -/
theorem DrivesSafeBy.congr {s t : State} (h : DrivesSafeBy g s)
    (hdem : t.power.iDem = s.power.iDem := by simp) (hduty : t.power.duty = s.power.duty := by simp)
    (hgrant : t.power.effGrant = s.power.effGrant := by simp)
    (hlow : t.power.supplyLow = s.power.supplyLow := by simp)
    (hrelay : t.relay = s.relay := by simp) (hpins : t.pins = s.pins := by simp)
    (htrips : t.trips = s.trips := by simp) (hins : t.insulation.fresh = s.insulation.fresh := by simp)
    (hguard : t.heating.guarded = s.heating.guarded := by simp)
    (hloss : t.heating.sensorLoss = s.heating.sensorLoss := by simp)
    (hgate : t.billing.sessionGate = s.billing.sessionGate := by simp)
    (hhold : t.billing.hold = s.billing.hold := by simp)
    (hclose : CloseHasSession s.billing → CloseHasSession t.billing := by simp) : DrivesSafeBy g t := by
  refine h.move (.of_same hdem.le (by rw [hrelay])
    (State.gatesButGrant_congr hgate hhold htrips hlow hpins hins) hgrant) (fun hd => ?_) hclose
  exact ⟨.inl (hduty ▸ hd), by simp [State.heaterHeldOff, htrips, hguard, hloss]⟩

/-- The billing unit moves without its session, its hold and its close. -/
theorem DrivesSafeBy.withBilling {s : State} {b : Billing} (h : DrivesSafeBy g s)
    (hgate : b.sessionGate = s.billing.sessionGate) (hhold : b.hold = s.billing.hold)
    (hclose : CloseHasSession s.billing → CloseHasSession b) : DrivesSafeBy g (s.withBilling b) :=
  h.congr rfl rfl rfl (hgate := hgate) (hhold := hhold) (hclose := hclose)

theorem DrivesSafeBy.poke {s : State} (a : Nat) (v : Byte) (h : DrivesSafeBy g s) :
    DrivesSafeBy g (s.poke a v) := h.congr

theorem DrivesSafeBy.pokeAll {s : State} (a : Nat) (vs : List Byte) (h : DrivesSafeBy g s) :
    DrivesSafeBy g (s.pokeAll a vs) := h.congr

theorem DrivesSafeBy.finish {s : State} (n : SlotNo) (e : Ending) (h : DrivesSafeBy g s) :
    DrivesSafeBy g (s.finish n e) := h.congr

theorem DrivesSafeBy.judged {n : SlotNo} {s s' : State} (hj : Judged n s s') (h : DrivesSafeBy g s) :
    DrivesSafeBy g s' := by
  obtain rfl | ⟨v, rest, -, rfl⟩ := hj
  · exact h
  · exact h.congr rfl rfl rfl

/-- A move after which no demand stands. -/
theorem DrivesSafeBy.stop {s t : State} (h : DrivesSafeBy g s) (hdem : t.power.iDem = 0)
    (hduty : DutyKept s t) (hclose : CloseHasSession s.billing → CloseHasSession t.billing) :
    DrivesSafeBy g t :=
  h.move (.of_zero hdem) hduty hclose

/-- Where the session gate does not hold no demand stands, so the billing unit may move. -/
theorem DrivesSafeBy.noSession {s : State} {b : Billing} (h : DrivesSafeBy g s)
    (hgate : s.billing.sessionGate = false) (hclose : CloseHasSession b) :
    DrivesSafeBy g (s.withBilling b) := by
  refine h.stop ?_ (.of_same le_rfl rfl rfl) fun _ => hclose
  by_contra hd
  obtain ⟨hbut, -⟩ := h.1.1 (Nat.pos_of_ne_zero hd)
  have := ((State.gatesButGrant_iff s).mp hbut).1
  rw [hgate] at this
  cases this

/-! ## The composite moves -/

theorem DrivesSafeBy.holdBegins {s : State} (h : DrivesSafeBy g s) :
    DrivesSafeBy g (((s.withBilling { s.billing with hold := true }).raise .journalHalt).failGate) :=
  h.stop (by simp [State.failGate_power])
    (.of_same (drivesFall_failGate _).duty (by simp) (by simp)) (by rw [State.failGate_billing]; exact id)

theorem DrivesSafeBy.endHold {s : State} (h : DrivesSafeBy g s) : DrivesSafeBy g s.endHold := by
  refine h.move (fun hd => ⟨.inl hd, id, ?_, id⟩) (.of_same le_rfl rfl rfl) id
  rw [State.gatesButGrant_iff, State.gatesButGrant_iff]
  rintro ⟨h1, h2, -, h4, h5, h6, h7⟩
  exact ⟨h1, h2, rfl, h4, h5, h6, h7⟩

theorem State.clearTrips_set (s : State) : s.clearTrips.trips.set = s.clearedSet := by
  unfold State.clearTrips
  dsimp only
  split <;> rfl

theorem DrivesSafeBy.clearTrips {s : State} (h : DrivesSafeBy g s) : DrivesSafeBy g s.clearTrips := by
  have hkept : s.trips.set.isEmpty = true → s.clearTrips.trips.set.isEmpty = true := fun hempty => by
    rw [s.clearTrips_set]
    exact TripSet.isEmpty_of_cleared s hempty
  refine h.move (fun hd => ⟨.inl (by simpa using hd), by simp, ?_, by simp⟩)
    (fun hd => ⟨.inl (by simpa using hd), ?_⟩) (by simp)
  · simp only [State.gatesButGrant_iff, State.clearTrips_billing, State.clearTrips_power,
      State.clearTrips_pins, State.clearTrips_insulation]
    rintro ⟨h1, h2, h3⟩
    exact ⟨h1, hkept h2, h3⟩
  · simp only [State.heaterHeldOff_iff, State.clearTrips_heating]
    rintro ⟨h1, h2⟩
    exact ⟨hkept h1, h2⟩

theorem DrivesSafeBy.newCondition {s : State} (i : Insulation) (h : DrivesSafeBy g s) :
    DrivesSafeBy g (s.newCondition i) := by
  unfold State.newCondition State.failGateIf
  split
  next =>
    exact h.stop (by simp [State.failGate_power])
      (.of_same ((drivesFall_failGate _).duty.trans (by simp)) (by simp) (by simp)) (by simp)
  next hkept =>
    have hfresh : s.insulation.fresh = true → i.fresh = true := by simpa using hkept
    refine h.move (fun hd => ⟨.inl (by simpa using hd), by simp, ?_, by simp⟩)
      (.of_same (by simp) (by simp) (by simp)) (by simp)
    simp only [State.gatesButGrant_iff, State.reportWarn_billing, State.reportWarn_trips,
      State.reportWarn_power, State.reportWarn_pins, State.reportWarn_insulation]
    rintro ⟨h1, h2, h3, h4, h5, h6, h7⟩
    exact ⟨h1, h2, h3, h4, h5, h6, hfresh h7⟩

/-- A trip takes both drives to 0 (R179). -/
theorem DrivesSafeBy.tripDrives {s : State} (h : CloseHasSession s.billing) :
    DrivesSafeBy g s.tripDrives := by
  refine ⟨⟨?_, ?_, by simpa using h⟩, fun _ => ?_⟩ <;> simp

theorem DrivesSafeBy.startClose {s : State} {n : SlotNo} {ses : Session} (h : DrivesSafeBy g s) :
    DrivesSafeBy g (s.startClose n ses) := by
  refine h.stop (by simp [State.startClose, State.failGate_power])
    (.of_same ((drivesFall_failGate _).duty.trans ?_) (by simp [State.startClose])
      (by simp [State.startClose])) fun _ _ => ?_
  · unfold State.endCharge
    split <;> simp [State.dropCharge]
  · simp [State.startClose, Billing.sessionGate]

theorem drives_kept (g : Prop) : Kept fun _ s => DrivesSafeBy g s where
  quiet hq h := h.move hq.demand hq.duty hq.close
  relabel _ _ _ h := h
  journal r _ h := h.congr (hgate := by rw [State.journalWrite_billing]; rfl)
    (hhold := by rw [State.journalWrite_billing]) (hclose := by rw [State.journalWrite_billing]; exact id)
  holdRecord _ _ h := DrivesSafeBy.poke _ _ (h.withBilling rfl rfl id)
  freeHeld h := DrivesSafeBy.poke _ _ (h.withBilling rfl rfl id)
  holdBegins h := h.holdBegins
  holdEnds h := h.endHold
  levels _ _ h := DrivesSafeBy.poke _ _ (DrivesSafeBy.poke _ _ (h.withBilling rfl rfl id))
  mark _ h := DrivesSafeBy.pokeAll _ _ (h.withBilling rfl rfl id)
  shown h := h.congr rfl rfl rfl rfl
  trip _ h := DrivesSafeBy.tripDrives (by simpa using h.1.2.2)
  clears h := h.clearTrips
  condition _ _ h := h.newCondition _
  fault _ _ _ h := DrivesSafeBy.tripDrives (by simpa [State.newCondition] using h.1.2.2)
  sessionOpens ses count hnone h := by
    obtain ⟨⟨-, -, hclose⟩, -⟩ := id h
    refine h.noSession (by simp [Billing.sessionGate, hnone]) fun hearly => ?_
    have := (hclose hearly).2
    simp [hnone] at this
  sessionEnds sum hclose h := by
    obtain ⟨⟨-, -, hsession⟩, -⟩ := id h
    refine h.noSession (hsession (by simp [hclose, Closing.early])).1 ?_
    simp [CloseHasSession, Closing.early]
  finishes e h := DrivesSafeBy.finish _ e h
  chargeEnds e _ _ h := DrivesSafeBy.finish _ e (h.congr rfl rfl rfl rfl)
  planEnds e _ _ h := DrivesSafeBy.finish _ e
    (h.congr rfl rfl rfl rfl (hguard := rfl) (hloss := rfl))
  checkEnds e _ h := DrivesSafeBy.finish _ e (h.congr rfl rfl rfl rfl)
  closeEnds e _ h := DrivesSafeBy.finish _ e 
    (h.withBilling rfl rfl (by simp [CloseHasSession]))
  chargeRuns _ _ _ h := h.congr rfl rfl rfl rfl
  planRuns _ _ _ h := h.congr rfl rfl rfl rfl (hguard := rfl) (hloss := rfl)
  checkRuns _ h := h.congr rfl rfl rfl rfl
  closeRuns _ _ h := h.startClose
  waits := .inl (labelFree_of_const _)
  drained _ h := h
  requeue _ _ _ h := h.congr rfl rfl rfl rfl
  takesHead _ _ _ _ h := h.congr rfl rfl rfl rfl
  unqueues e _ _ _ _ h := DrivesSafeBy.finish _ e h.congr
  postTaken p hj _ _ h := (h.judged hj).congr
  postWaits p hj _ _ _ h := (h.judged hj).congr
  frees hj _ h := (h.judged hj).congr
  holds hj h := (h.judged hj).congr
  link _ _ h := h.congr rfl rfl rfl rfl
  starts _ h := h.congr rfl rfl rfl rfl
  ends h := h.congr rfl rfl rfl rfl
  stores _ _ _ h := h.congr rfl rfl rfl rfl
  pokes _ _ _ _ _ h := h.congr rfl rfl rfl rfl
  copies _ h := h.congr

/-- A link reset leaves the demand with its gates, but for the grant's (R129, log entry 25). -/
theorem DrivesSafe.resetHost {s : State} (h : DrivesSafe s) : DrivesSafe s.resetHost := by
  obtain ⟨hgates, hoff, hclose⟩ := h
  have hbilling : s.resetHost.billing = s.billing.detach := by
    simp [State.resetHost, State.resetOrders_billing]
  have hpower : s.resetHost.power.iDem = s.power.iDem ∧ s.resetHost.power.duty = s.power.duty
      ∧ s.resetHost.power.supplyLow = s.power.supplyLow := by
    simp [State.resetHost, State.resetOrders_power, State.resetKeepalive_power]
  obtain ⟨hdem, hduty, hlow⟩ := hpower
  refine ⟨fun hd => ?_, fun hd => ?_, ?_⟩
  · obtain ⟨hbut, hclosed⟩ := hgates (hdem ▸ hd)
    refine ⟨(State.gatesButGrant_congr ?_ ?_ ?_ hlow ?_ ?_).trans hbut, ?_⟩
    · rw [hbilling]; rfl
    · rw [hbilling]; rfl
    · simp [State.resetHost]
    · simp [State.resetHost]
    · simp [State.resetHost, State.resetOrders_insulation]
    · simpa [State.resetHost] using hclosed
  · simpa [State.resetHost, State.resetOrders_heating, Heating.guarded] using hoff (hduty ▸ hd)
  · rw [hbilling]
    exact s.billing.detach_closeHasSession hclose

theorem drives_reset : DrivesSafeBy g State.reset := by
  refine ⟨⟨?_, ?_, ?_⟩, fun _ => ?_⟩ <;> decide

theorem DrivesSafeBy.metering {s : State} (m : Metering) (h : DrivesSafeBy g s) :
    DrivesSafeBy g (s.withMetering m) := h.congr rfl rfl rfl rfl

/-- Settles O6: what fails a gate takes the demand to 0 in the same move, and what holds the heater
off the duty. Only a link reset may take the grant's gate away from a demand. -/
theorem drivesStaySafe : Obligations.DrivesStaySafe := by
  intro s t hs hstep
  refine ⟨?_, fun hnot hgrant => ?_⟩
  · refine ((drives_kept False).step (fun h => (drives_kept False).meteringFrame (h.metering _))
      ((drives_kept False).linkReset fun h => ⟨h.1.resetHost, False.elim⟩)
      ((drives_kept False).powerOn drives_reset) ⟨hs, False.elim⟩ hstep).1
  · have k := drives_kept True
    have hboth : DrivesSafeBy True s := ⟨hs, fun _ => hgrant⟩
    suffices DrivesSafeBy True t from this.2 trivial
    unfold step at hstep
    split at hstep
    next c rest hpending =>
      have hs' := k.withPending rest hboth
      cases c with
      | meteringFrame f => exact k.meteringFrame (hs'.metering _) hstep
      | linkReset => simp [hpending] at hnot
      | powerOnReset levels => exact k.powerOn drives_reset hstep
      | _ => exact k.exec (by simp) (by simp) (by simp) hs' hstep
    next => cases hstep; exact k.tick hboth

end Sys2Proof.Machine
end

/-! # The meter moves by a frame only, and conserves (O7, O10) -/

section
namespace Sys2Proof.Machine

/-- No move but a frame touches a counter. -/
theorem counters_kept (c : PerCat Nat × Nat × PerCat Word × Word × Nat × Readings) :
    Kept fun _ s => s.metering.counters = c where
  quiet hq h := hq.counters.trans h
  relabel _ _ _ h := h
  journal r _ h := by simpa using h
  holdRecord _ _ h := h
  freeHeld h := h
  holdBegins h := by simpa using h
  holdEnds h := h
  levels _ _ h := h
  mark _ h := h
  shown h := h
  trip _ h := by simpa using h
  clears h := by simpa using h
  condition _ _ h := by simpa [State.newCondition] using h
  fault _ _ _ h := by simpa [State.newCondition] using h
  sessionOpens _ _ _ h := h
  sessionEnds _ _ h := h
  finishes _ h := by simpa using h
  chargeEnds _ _ _ h := by simpa using h
  planEnds _ _ _ h := by simpa using h
  checkEnds _ _ h := by simpa using h
  closeEnds _ _ h := by simpa using h
  chargeRuns _ _ _ h := h
  planRuns _ _ _ h := h
  checkRuns _ h := h
  closeRuns _ _ h := by simpa [State.startClose] using h
  waits := .inl (labelFree_of_const _)
  drained _ h := h
  requeue _ _ _ h := h
  takesHead _ _ _ _ h := h
  unqueues _ _ _ _ _ h := by simpa using h
  postTaken _ hj _ _ h := by
    obtain rfl | ⟨v, rest, -, rfl⟩ := hj
    · exact h
    · exact h
  postWaits _ hj _ _ _ h := by
    obtain rfl | ⟨v, rest, -, rfl⟩ := hj
    · exact h
    · exact h
  frees hj _ h := by
    obtain rfl | ⟨v, rest, -, rfl⟩ := hj
    · exact h
    · exact h
  holds hj h := by
    obtain rfl | ⟨v, rest, -, rfl⟩ := hj
    · exact h
    · exact h
  link _ _ h := h
  starts _ h := h
  ends h := h
  stores _ _ _ h := h
  pokes _ _ _ _ _ h := h
  copies _ h := by simpa using h

theorem State.resetHost_metering (s : State) : s.resetHost.metering = s.metering := by
  simp [State.resetHost]

/-- Settles O10: the accumulators, registers and readings are written in Metering.frame alone. -/
theorem meterMovesOnlyByFrame : Obligations.MeterMovesOnlyByFrame := by
  intro c s t hframe hpower ht
  have k := counters_kept s.metering.counters
  by_cases hreset : c = .linkReset
  · subst hreset
    exact k.linkReset (fun h => by rwa [State.resetHost_metering]) rfl ht
  · exact k.exec hframe hreset hpower rfl ht

/-! ## The conservation law (R58) -/

/-- Conservation speaks of the counters alone. -/
theorem Metering.conserved_congr {m m' : Metering} (h : m'.counters = m.counters) :
    m'.conserved ↔ m.conserved := by
  simp only [Metering.counters, Prod.mk.injEq] at h
  obtain ⟨hacc, haccM, hwh, hmWh, -, -⟩ := h
  simp only [Metering.conserved, Metering.meterSide, Metering.categorySide, hacc, haccM, hwh, hmWh]

/-- A register and its accumulator hold what they held with what they took, modulo the wrap (R55). -/
theorem register_takes (reg : Word) (m : Nat) :
    (3600000 * (addWh reg (carriesOf m)).toNat + restOf m) % (3600000 * 2 ^ 32)
      = (3600000 * reg.toNat + m) % (3600000 * 2 ^ 32) := by
  simp only [addWh, carriesOf, restOf, Config.mJPerWh, BitVec.toNat_add, BitVec.toNat_ofNat]
  omega

theorem Metering.stage4_conserved (m : Metering) {shares : PerCat Nat} {eIn : Nat}
    (htotal : shares.total = eIn) (h : m.conserved) : (m.stage4 shares eIn).conserved := by
  have hbattery := register_takes m.wh.battery (m.acc.battery + shares.battery)
  have hheating := register_takes m.wh.heating (m.acc.heating + shares.heating)
  have haux := register_takes m.wh.aux (m.acc.aux + shares.aux)
  have hmeter := register_takes m.mWh (m.accM + eIn)
  simp only [PerCat.total] at htotal
  simp only [Metering.conserved, Metering.meterSide, Metering.categorySide] at h
  simp only [Metering.conserved, Metering.meterSide, Metering.categorySide, Metering.stage4, PerCat.zip,
    PerCat.map]
  omega

theorem Metering.stepDC_counters (m : Metering) (f : Frame) : (m.stepDC f).counters = m.counters := rfl

theorem Metering.frame_conserved (m : Metering) (infb : Bool) (f : Frame) (h : m.conserved) :
    (m.frame infb f).conserved := by
  unfold Metering.frame
  extract_lets r
  have hr : r.1.conserved := by
    simp only [r]
    split
    · refine Metering.stage4_conserved _ (apportion_total _ _) ?_
      exact (Metering.conserved_congr (m := m) rfl).mpr h
    · exact (Metering.conserved_congr (m.stepDC_counters f)).mpr h
  exact hr

/-- Settles O7: only a frame moves a counter, and its three shares sum to the energy that the meter
counts. -/
theorem meteringConserves : Obligations.MeteringConserves := by
  intro s t hs hstep
  unfold step at hstep
  split at hstep
  next c rest _ =>
    by_cases hframe : ∃ f, c = .meteringFrame f
    · obtain ⟨f, rfl⟩ := hframe
      have hconserved := s.metering.frame_conserved s.pins.infb f hs
      exact (Metering.conserved_congr ((counters_kept _).meteringFrame rfl hstep)).mpr hconserved
    · by_cases hpower : ∃ levels, c = .powerOnReset levels
      · obtain ⟨levels, rfl⟩ := hpower
        have hcounters := (counters_kept State.reset.metering.counters).powerOn rfl hstep
        exact (Metering.conserved_congr hcounters).mpr (by unfold Metering.conserved; decide)
      · have hcounters := meterMovesOnlyByFrame c _ t (fun f h => hframe ⟨f, h⟩)
          (fun levels h => hpower ⟨levels, h⟩) hstep
        exact (Metering.conserved_congr hcounters).mpr hs
  next =>
    cases hstep
    exact (Metering.conserved_congr ((counters_kept _).tick rfl)).mpr hs

end Sys2Proof.Machine
end

/-! # The order engine's slots, queues and blocks agree (O8): the invariant -/

section
namespace Sys2Proof.Machine

/-! ## Blocks and their runners -/

/-- The timed order that occupies a block (R29). -/
def blockRunner : Block → Option Runner
  | .billing => some .close
  | .insulation => some .check
  | .general | .power | .heating => none

theorem Billing.occupied_eq (b : Billing) : b.occupied = (b.close.bind (·.slot)).isSome := by
  unfold Billing.occupied
  split
  next h => simp [h]
  next h =>
    cases hc : b.close with
    | none => rfl
    | some c =>
      obtain ⟨slot, phase⟩ := c
      cases slot with
      | none => rfl
      | some n => exact absurd hc (h n phase)

theorem State.occupied_iff (s : State) (b : Block) :
    s.occupied b = true ↔ ∃ w, blockRunner b = some w ∧ (s.runningSlot w).isSome = true := by
  cases b <;> simp [State.occupied, blockRunner, State.runningSlot, Billing.occupied_eq]

theorem State.occupied_of_runners {s t : State} {b : Block}
    (h : ∀ w, blockRunner b = some w → t.runningSlot w = s.runningSlot w) :
    t.occupied b = s.occupied b := by
  rw [Bool.eq_iff_iff, State.occupied_iff, State.occupied_iff]
  exact exists_congr fun w => and_congr_right fun hw => by rw [h w hw]

/-! ## The invariant -/

/-- OrdersShow while a command is under way: the orders taken from a queue or a post stand apart, and
the queue of a block whose order has ended still has to drain (R29 to R33). -/
structure OrdersBut (l : Busy) (s : State) : Prop where
  wf : s.mem.wf = true
  idle : s.link.phase = .idle → s.link.slotWrites = []
  nodup : ∀ b, (s.queue b).Nodup
  behind : ∀ b, b ∉ l.draining → s.queue b ≠ [] → s.occupied b = true
  queued : ∀ b, ∀ n ∈ s.queue b, (s.slot n).state = .waiting
    ∧ (∃ p, (s.slot n).posted = some p ∧ orderBlock p.order = some b) ∧ n ∉ l.limbo.map Prod.fst
  waiting : ∀ n, (s.slot n).state = .waiting → n ∉ l.limbo.map Prod.fst → ∃ b, n ∈ s.queue b
  runner : ∀ w n, s.runningSlot w = some n ↔ s.RunsAs n w
  runs : ∀ n, (s.slot n).state = .running → ∃ w, s.runningSlot w = some n
  free : ∀ n, (s.slot n).state = .free ↔ (s.slot n).posted = none
  posted : ∀ n, n ∉ l.limbo.map Prod.fst → (s.slot n).state ≠ .posted
  shown : ∀ n, s.unjudged n ∨ s.mem.read (slotAddr n) = (s.slot n).state.code
  taken : ∀ e ∈ l.limbo, ((s.slot e.1).state = .posted ∨ (s.slot e.1).state = .waiting)
    ∧ (∃ p, (s.slot e.1).posted = some p ∧ p.order = e.2)
    ∧ ∀ b, orderBlock e.2 = some b → s.occupied b = false
  once : (l.limbo.map Prod.fst).Nodup
  tail : ∀ e ∈ l.limbo.tail, orderBlock e.2 = some .general

theorem ordersShow_iff (s : State) : OrdersShow s ↔ OrdersBut .none s := by
  constructor
  · rintro ⟨hwf, hidle, hqueues, hwaiting, hrunner, hruns, hslots, hshown⟩
    exact
      { wf := hwf, idle := hidle, runner := hrunner, runs := hruns, shown := hshown
        nodup := fun b => (hqueues b).1
        behind := fun b _ => (hqueues b).2.1
        queued := fun b n hn => ⟨((hqueues b).2.2 n hn).1, ((hqueues b).2.2 n hn).2, by simp [Busy.none]⟩
        waiting := fun n hn _ => hwaiting n hn
        free := fun n => (hslots n).1
        posted := fun n _ => (hslots n).2
        taken := by simp [Busy.none]
        once := by simp [Busy.none]
        tail := by simp [Busy.none] }
  · intro h
    refine ⟨h.wf, h.idle, fun b => ⟨h.nodup b, h.behind b (by simp [Busy.none]), fun n hn => ?_⟩,
      fun n hn => h.waiting n hn (by simp [Busy.none]), h.runner, h.runs,
      fun n => ⟨h.free n, h.posted n (by simp [Busy.none])⟩, h.shown⟩
    obtain ⟨hstate, hposted, -⟩ := h.queued b n hn
    exact ⟨hstate, hposted⟩

namespace OrdersBut

variable {l : Busy} {s t : State}

/-! ## Moves that leave the slots alone -/

/-- The order engine, the link's records, byte 0 of each slot and the runners as they were. -/
theorem congr (h : OrdersBut l s) (hwf : t.mem.wf = true)
    (hread : ∀ n, t.mem.read (slotAddr n) = s.mem.read (slotAddr n)) (horders : t.orders = s.orders)
    (hphase : t.link.phase = .idle → s.link.phase = .idle)
    (hwrites : t.link.slotWrites = s.link.slotWrites)
    (hrun : ∀ w, t.runningSlot w = s.runningSlot w) : OrdersBut l t := by
  have hslot : ∀ n, t.slot n = s.slot n := State.slot_congr horders
  have hqueue : ∀ b, t.queue b = s.queue b := State.queue_congr (by rw [horders])
  have hocc : ∀ b, t.occupied b = s.occupied b := fun b => State.occupied_of_runners fun w _ => hrun w
  exact
    { wf := hwf
      idle := fun hp => hwrites ▸ h.idle (hphase hp)
      nodup := fun b => hqueue b ▸ h.nodup b
      behind := fun b => by rw [hqueue, hocc]; exact h.behind b
      queued := fun b n => by rw [hqueue, hslot]; exact h.queued b n
      waiting := fun n => by simp only [hqueue, hslot]; exact h.waiting n
      runner := fun w n => by rw [hrun, State.RunsAs, hslot]; exact h.runner w n
      runs := fun n => by simp only [hrun, hslot]; exact h.runs n
      free := fun n => by rw [hslot]; exact h.free n
      posted := fun n => by rw [hslot]; exact h.posted n
      shown := fun n => by rw [State.unjudged, horders, hwrites, hread, hslot]; exact h.shown n
      taken := fun e he => by simp only [hslot, hocc]; exact h.taken e he
      once := h.once
      tail := h.tail }

theorem relabel {l' : Busy} (h : OrdersBut l s) (hlimbo : l.limbo = l'.limbo)
    (hdrain : l.draining ⊆ l'.draining) : OrdersBut l' s where
  wf := h.wf
  idle := h.idle
  nodup := h.nodup
  behind b hb := h.behind b fun hin => hb (hdrain hin)
  queued := hlimbo ▸ h.queued
  waiting := hlimbo ▸ h.waiting
  runner := h.runner
  runs := h.runs
  free := h.free
  posted := hlimbo ▸ h.posted
  shown := h.shown
  taken := hlimbo ▸ h.taken
  once := hlimbo ▸ h.once
  tail := hlimbo ▸ h.tail

theorem drained {b : Block} (hdone : s.queue b = [] ∨ s.occupied b = true)
    (h : OrdersBut (l.drain b) s) : OrdersBut l s :=
  { h with
    behind := fun b' hb' hq => by
      by_cases hbb : b' = b
      · subst hbb
        exact hdone.resolve_left hq
      · exact h.behind b' (by simp [Busy.drain, hbb, hb']) hq }

/-- A slot that an order was taken from is not in a queue, and does not run. -/
theorem not_running (h : OrdersBut l s) {e : SlotNo × Order} (he : e ∈ l.limbo) :
    (s.slot e.1).state ≠ .running := by
  obtain ⟨hstate, -, -⟩ := h.taken e he
  obtain hstate | hstate := hstate <;> simp [hstate]

theorem runner_unique (h : OrdersBut l s) {n k : SlotNo} {w : Runner}
    (hn : s.runningSlot w = some n) (hk : k = n ∨ s.RunsAs k w) : k = n := by
  obtain rfl | hk := hk
  · rfl
  · exact Option.some.inj (((h.runner w k).mpr hk).symm.trans hn)

end OrdersBut

/-! ## One slot moved -/

theorem slotAddr_inj {n k : SlotNo} (h : engineBytes n (slotAddr k)) : k = n := by
  simp only [engineBytes, slotAddr, Config.slotBase, Config.slotSize] at h
  exact Fin.ext (by omega)

/-- One slot takes a record and its code in byte 0; every other slot stays. -/
structure SlotMove (n : SlotNo) (r : Slot) (s t : State) : Prop where
  here : t.slot n = r
  other : ∀ k, k ≠ n → t.slot k = s.slot k
  wf : s.mem.wf = true → t.mem.wf = true
  code : s.mem.wf = true → t.mem.read (slotAddr n) = r.state.code
  elsewhere : ∀ k, k ≠ n → t.mem.read (slotAddr k) = s.mem.read (slotAddr k)
  link : t.link = s.link
  notices : ∀ k, k ≠ n → k ∈ s.orders.notices.map Prod.fst → k ∈ t.orders.notices.map Prod.fst

namespace SlotMove

variable {n : SlotNo} {r : Slot} {s t : State}

theorem shown (m : SlotMove n r s t) (hwf : s.mem.wf = true)
    (h : ∀ k, s.unjudged k ∨ s.mem.read (slotAddr k) = (s.slot k).state.code) (k : SlotNo) :
    t.unjudged k ∨ t.mem.read (slotAddr k) = (t.slot k).state.code := by
  by_cases hk : k = n
  · subst hk
    exact .inr (by rw [m.code hwf, m.here])
  · rw [m.elsewhere k hk, m.other k hk]
    refine (h k).imp_left fun hun => ?_
    rw [State.unjudged, m.link]
    exact hun.imp_left (m.notices k hk)

theorem setSlotState (s : State) (n : SlotNo) (st : SlotState) :
    SlotMove n { s.slot n with state := st } s (s.setSlotState n st) where
  here := s.slot_setSlotState_same n st
  other _ hk := s.slot_setSlotState_other st hk
  wf h := State.setSlotState_wf s n st h
  code h := by
    have := slotAddr_bounds n
    rw [State.setSlotState_mem]
    exact Memory.read_write_same _ h (by simp only [Config.memSize]; omega)
  elsewhere k hk := Memory.read_write_other _ _ fun he => hk (slotAddr_inj (.inl he))
  link := by simp
  notices _ _ h := h

theorem finish (s : State) (n : SlotNo) (e : Ending) :
    SlotMove n { s.slot n with state := .done } s (s.finish n e) where
  here := s.slot_finish_same n e
  other _ hk := s.slot_finish_other e hk
  wf h := State.finish_wf s n e h
  code h := s.finish_state n e h
  elsewhere k hk := s.finish_read_other n e fun he => hk (slotAddr_inj he)
  link := by simp
  notices _ _ h := h

/-- A move after which another part of the state follows. -/
theorem andThen {u : State} (m : SlotMove n r s t) (horders : u.orders = t.orders)
    (hmem : u.mem = t.mem) (hlink : u.link = t.link) : SlotMove n r s u where
  here := (State.slot_congr horders n).trans m.here
  other k hk := (State.slot_congr horders k).trans (m.other k hk)
  wf h := by rw [hmem]; exact m.wf h
  code h := by rw [hmem]; exact m.code h
  elsewhere k hk := by rw [hmem]; exact m.elsewhere k hk
  link := hlink.trans m.link
  notices k hk h := by rw [horders]; exact m.notices k hk h

/-- A move from a state that agrees in slots, notices, memory and link. -/
theorem after {u : State} (m : SlotMove n r t u) (hslots : ∀ k, t.slot k = s.slot k)
    (hnotices : t.orders.notices = s.orders.notices) (hmem : t.mem = s.mem)
    (hlink : t.link = s.link) : SlotMove n r s u where
  here := m.here
  other k hk := (m.other k hk).trans (hslots k)
  wf h := m.wf (by rw [hmem]; exact h)
  code h := m.code (by rw [hmem]; exact h)
  elsewhere k hk := by rw [← hmem]; exact m.elsewhere k hk
  link := m.link.trans hlink
  notices k hk h := m.notices k hk (by rw [hnotices]; exact h)

end SlotMove

end Sys2Proof.Machine
end

/-! # The order engine's slots, queues and blocks agree (O8): the moves -/

section
namespace Sys2Proof.Machine

namespace OrdersBut

variable {l l' : Busy} {s t : State} {n : SlotNo}

/-! ## An order that ends (R34, R35, R38) -/

/-- A slot that held an order is DONE: it has left its queue, its runner and the orders taken. -/
theorem slotDone (h : OrdersBut l s) (m : SlotMove n { s.slot n with state := .done } s t)
    (hfull : (s.slot n).state ≠ .free) (hnodup : ∀ b, (t.queue b).Nodup)
    (hqueue : ∀ b k, k ∈ t.queue b ↔ k ∈ s.queue b ∧ k ≠ n)
    (hrun : ∀ w k, t.runningSlot w = some k ↔ s.runningSlot w = some k ∧ k ≠ n)
    (hsub : l'.limbo.Sublist l.limbo) (htail : l'.limbo.tail ⊆ l.limbo.tail)
    (hlimbo : ∀ k, k ∈ l'.limbo.map Prod.fst ↔ k ∈ l.limbo.map Prod.fst ∧ k ≠ n)
    (hbehind : ∀ b, b ∉ l'.draining → t.queue b ≠ [] → t.occupied b = true) : OrdersBut l' t where
  wf := m.wf h.wf
  idle := m.link ▸ h.idle
  nodup := hnodup
  behind := hbehind
  queued b k hk := by
    obtain ⟨hin, hne⟩ := (hqueue b k).mp hk
    obtain ⟨hstate, hposted, hnot⟩ := h.queued b k hin
    rw [m.other k hne, hlimbo]
    exact ⟨hstate, hposted, fun hin => hnot hin.1⟩
  waiting k hk hnot := by
    by_cases hne : k = n
    · subst hne
      rw [m.here] at hk
      cases hk
    · rw [m.other k hne] at hk
      rw [hlimbo] at hnot
      obtain ⟨b, hb⟩ := h.waiting k hk fun hin => hnot ⟨hin, hne⟩
      exact ⟨b, (hqueue b k).mpr ⟨hb, hne⟩⟩
  runner w k := by
    rw [hrun]
    by_cases hne : k = n
    · subst hne
      simp [State.RunsAs, m.here]
    · simp only [State.RunsAs, m.other k hne]
      exact ⟨fun hk => (h.runner w k).mp hk.1, fun hk => ⟨(h.runner w k).mpr hk, hne⟩⟩
  runs k hk := by
    by_cases hne : k = n
    · subst hne
      rw [m.here] at hk
      cases hk
    · rw [m.other k hne] at hk
      obtain ⟨w, hw⟩ := h.runs k hk
      exact ⟨w, (hrun w k).mpr ⟨hw, hne⟩⟩
  free k := by
    by_cases hne : k = n
    · subst hne
      rw [m.here]
      simpa using fun hnone => hfull ((h.free k).mpr hnone)
    · rw [m.other k hne]
      exact h.free k
  posted k hk := by
    by_cases hne : k = n
    · subst hne
      rw [m.here]
      nofun
    · rw [m.other k hne]
      exact h.posted k fun hin => hk ((hlimbo k).mpr ⟨hin, hne⟩)
  shown := m.shown h.wf h.shown
  taken e he := by
    have hne : e.1 ≠ n := ((hlimbo e.1).mp (List.mem_map_of_mem he)).2
    obtain ⟨hstate, hposted, hfree⟩ := h.taken e (hsub.subset he)
    rw [m.other _ hne]
    refine ⟨hstate, hposted, fun b hb => ?_⟩
    rw [Bool.eq_false_iff]
    intro hocc
    obtain ⟨w, hw, hsome⟩ := (t.occupied_iff b).mp hocc
    obtain ⟨k, hk⟩ := Option.isSome_iff_exists.mp hsome
    have hold := (s.occupied_iff b).mpr ⟨w, hw, Option.isSome_iff_exists.mpr ⟨k, ((hrun w k).mp hk).1⟩⟩
    rw [hfree b hb] at hold
    cases hold
  once := h.once.sublist (hsub.map _)
  tail e he := h.tail e (htail he)

/-- An order taken that ends at once (R30, R35). -/
theorem finish {o : Order} (e : Ending) (h : OrdersBut (l.take n o) s) :
    OrdersBut l (s.finish n e) := by
  have hin : (n, o) ∈ (l.take n o).limbo := List.mem_cons_self
  obtain ⟨hstate, -, -⟩ := h.taken _ hin
  have hqueue : ∀ b, (s.finish n e).queue b = s.queue b := fun b =>
    State.queue_congr (State.finish_queues s n e) b
  have hnotq : ∀ b, n ∉ s.queue b := fun b hb =>
    (h.queued b n hb).2.2 (List.mem_map_of_mem hin)
  have hnotrun : ∀ w, s.runningSlot w ≠ some n := fun w hw =>
    h.not_running hin ((h.runner w n).mp hw).1
  have hnotin : n ∉ l.limbo.map Prod.fst := (List.nodup_cons.mp h.once).1
  have hrunning : ∀ w, (s.finish n e).runningSlot w = s.runningSlot w := by
    intro w
    cases w <;> simp [State.runningSlot]
  refine h.slotDone (.finish s n e) (by obtain hs | hs := hstate <;> simp [hs])
    (fun b => hqueue b ▸ h.nodup b) (fun b k => ?_) (fun w k => ?_) (List.sublist_cons_self _ _)
    (List.tail_subset _)
    (fun k => ?_) fun b hb => ?_
  · rw [hqueue]
    exact ⟨fun hk => ⟨hk, fun he => hnotq b (he ▸ hk)⟩, And.left⟩
  · rw [hrunning]
    exact ⟨fun hk => ⟨hk, fun he => hnotrun w (he ▸ hk)⟩, And.left⟩
  · simp only [Busy.take, List.map_cons, List.mem_cons]
    exact ⟨fun hk => ⟨.inr hk, fun he => hnotin (he ▸ hk)⟩, fun hk => hk.1.resolve_left hk.2⟩
  · rw [hqueue, State.occupied_of_runners fun w _ => hrunning w]
    exact h.behind b hb

/-- A running order that ends: its runner is free, and its block's queue is to be drained. -/
theorem runnerEnds {u : State} {w : Runner} (e : Ending) (h : OrdersBut l s)
    (hn : s.runningSlot w = some n) (hmem : u.mem = s.mem) (hlink : u.link = s.link)
    (horders : u.orders = s.orders) (hfree : u.runningSlot w = none)
    (hother : ∀ w', w' ≠ w → u.runningSlot w' = s.runningSlot w') (hlimbo : l'.limbo = l.limbo)
    (hdrain : ∀ b, b ∉ l'.draining → b ∉ l.draining ∧ blockRunner b ≠ some w) :
    OrdersBut l' (u.finish n e) := by
  obtain ⟨hstate, -⟩ := (h.runner w n).mp hn
  have hslot : ∀ k, u.slot k = s.slot k := State.slot_congr horders
  have hqueue : ∀ b, (u.finish n e).queue b = s.queue b := fun b =>
    State.queue_congr ((State.finish_queues u n e).trans (by rw [horders])) b
  have hrunning : ∀ w', (u.finish n e).runningSlot w' = u.runningSlot w' := by
    intro w'
    cases w' <;> simp [State.runningSlot]
  have hnotin : n ∉ l.limbo.map Prod.fst := fun hin => by
    obtain ⟨e, he, rfl⟩ := List.mem_map.mp hin
    exact h.not_running he hstate
  have hrun : ∀ w' k, (u.finish n e).runningSlot w' = some k ↔ s.runningSlot w' = some k ∧ k ≠ n := by
    intro w' k
    rw [hrunning]
    by_cases hw : w' = w
    · subst hw
      rw [hfree, hn]
      exact ⟨nofun, fun ⟨hk, hne⟩ => absurd (Option.some.inj hk).symm hne⟩
    · rw [hother w' hw]
      refine ⟨fun hk => ⟨hk, fun he => hw ?_⟩, And.left⟩
      subst he
      obtain ⟨-, p, hp, hr⟩ := (h.runner w k).mp hn
      obtain ⟨-, p', hp', hr'⟩ := (h.runner w' k).mp hk
      rw [hp] at hp'
      cases hp'
      exact Option.some.inj (hr'.symm.trans hr)
  have hmove : SlotMove n { s.slot n with state := .done } s (u.finish n e) := by
    have := SlotMove.finish u n e
    rw [hslot] at this
    exact this.after hslot (by rw [horders]) hmem hlink
  refine h.slotDone hmove (by simp [hstate]) (fun b => hqueue b ▸ h.nodup b) (fun b k => ?_) hrun
    (hlimbo ▸ List.Sublist.refl _) (hlimbo ▸ List.Subset.refl _) (fun k => ?_) fun b hb => ?_
  · rw [hqueue]
    refine ⟨fun hk => ⟨hk, fun he => ?_⟩, And.left⟩
    have := (h.queued b k hk).1
    rw [he, hstate] at this
    cases this
  · rw [hlimbo]
    exact ⟨fun hk => ⟨hk, fun he => hnotin (he ▸ hk)⟩, And.left⟩
  · rw [hqueue, State.occupied_of_runners fun w' hw' =>
      (hrunning w').trans (hother w' fun he => (hdrain b hb).2 (he ▸ hw'))]
    exact h.behind b (hdrain b hb).1

/-- A waiting order withdrawn (R38). -/
theorem unqueues {p : Posted} (e : Ending) (h : OrdersBut l s) (hwait : (s.slot n).state = .waiting)
    (hp : (s.slot n).posted = some p) (hnot : n ∉ l.limbo.map Prod.fst) :
    OrdersBut l ((s.unqueue n p.order).finish n e) := by
  obtain ⟨b, hb⟩ := h.waiting n hwait hnot
  obtain ⟨-, ⟨p', hp', hblock⟩, -⟩ := h.queued b n hb
  obtain rfl : p' = p := Option.some.inj (hp'.symm.trans hp)
  have hunq : s.unqueue n p'.order = s.setQueue b ((s.queue b).filter fun k => k != n) := by
    rw [State.unqueue, hblock]
  rw [hunq]
  have hqueue : ∀ b', ((s.setQueue b ((s.queue b).filter fun k => k != n)).finish n e).queue b'
      = if b' = b then (s.queue b).filter fun k => k != n else s.queue b' := by
    intro b'
    rw [State.queue_congr (State.finish_queues _ n e)]
    split
    next hbb => subst hbb; exact State.queue_setQueue_same _ _ _
    next hbb => exact State.queue_setQueue_other _ _ hbb
  have hrunning : ∀ w, ((s.setQueue b ((s.queue b).filter fun k => k != n)).finish n e).runningSlot w
      = s.runningSlot w := by
    intro w
    cases w <;> simp [State.runningSlot]
  have hmove : SlotMove n { s.slot n with state := .done } s
      ((s.setQueue b ((s.queue b).filter fun k => k != n)).finish n e) :=
    (SlotMove.finish (s.setQueue b ((s.queue b).filter fun k => k != n)) n e).after (fun _ => rfl) rfl rfl rfl
  refine h.slotDone hmove (by simp [hwait]) (fun b' => ?_) (fun b' k => ?_) (fun w k => ?_)
    (List.Sublist.refl _) (List.Subset.refl _) (fun k => ?_) fun b' hb' => ?_
  · rw [hqueue]
    split
    · exact (h.nodup b).filter _
    · exact h.nodup b'
  · rw [hqueue]
    split
    next hbb => subst hbb; simp
    next hbb =>
      refine ⟨fun hk => ⟨hk, fun he => hbb ?_⟩, And.left⟩
      subst he
      obtain ⟨-, ⟨q, hq, hqb⟩, -⟩ := h.queued b' k hk
      rw [hp] at hq
      cases hq
      exact Option.some.inj (hqb.symm.trans hblock)
  · rw [hrunning]
    refine ⟨fun hk => ⟨hk, fun he => ?_⟩, And.left⟩
    have := ((h.runner w k).mp hk).1
    rw [he, hwait] at this
    cases this
  · exact ⟨fun hk => ⟨hk, fun he => hnot (he ▸ hk)⟩, And.left⟩
  · rw [State.occupied_of_runners fun w _ => hrunning w]
    refine fun hq => h.behind b' hb' fun hnil => hq ?_
    rw [hqueue]
    split
    next hbb => subst hbb; rw [hnil]; rfl
    next => exact hnil

/-! ## An order that begins to run (R31, R33) -/

theorem orderRunner_block {o : Order} {w : Runner} {b : Block} (hw : orderRunner o = some w)
    (hb : blockRunner b = some w) : orderBlock o = some b := by
  cases o <;> cases hw <;> cases b <;> first | rfl | cases hb

/-- An order taken that runs: its runner was free. -/
theorem runnerBegins {o : Order} {w : Runner} (h : OrdersBut (l.take n o) s)
    (hw : orderRunner o = some w) (hfree : s.runningSlot w = none) (hmem : t.mem = (s.setSlotState n .running).mem)
    (hlink : t.link = s.link) (horders : t.orders = (s.setSlotState n .running).orders)
    (hrun : t.runningSlot w = some n)
    (hother : ∀ w', w' ≠ w → t.runningSlot w' = s.runningSlot w') : OrdersBut l t := by
  have hin : (n, o) ∈ (l.take n o).limbo := List.mem_cons_self
  obtain ⟨hstate, ⟨p, hp, rfl⟩, -⟩ := h.taken _ hin
  have hnotin : n ∉ l.limbo.map Prod.fst := (List.nodup_cons.mp h.once).1
  have hmem_iff : ∀ k, k ∈ (l.take n p.order).limbo.map Prod.fst ↔ k = n ∨ k ∈ l.limbo.map Prod.fst := by
    simp [Busy.take]
  have m : SlotMove n { s.slot n with state := .running } s t :=
    (SlotMove.setSlotState s n .running).andThen horders hmem (hlink.trans (by simp))
  have hqueue : ∀ b, t.queue b = s.queue b := fun b => State.queue_congr (by rw [horders]; rfl) b
  have hocc : ∀ b, s.occupied b = true → t.occupied b = true := by
    intro b hb
    obtain ⟨w', hw', hsome⟩ := (s.occupied_iff b).mp hb
    refine (t.occupied_iff b).mpr ⟨w', hw', ?_⟩
    by_cases hww : w' = w
    · rw [hww, hrun]
      rfl
    · rw [hother w' hww]
      exact hsome
  exact
    { wf := m.wf h.wf
      idle := m.link ▸ h.idle
      nodup := fun b => hqueue b ▸ h.nodup b
      behind := fun b hb hq => hocc b (h.behind b hb (hqueue b ▸ hq))
      queued := fun b k hk => by
        rw [hqueue] at hk
        obtain ⟨hks, hkp, hkn⟩ := h.queued b k hk
        rw [hmem_iff, not_or] at hkn
        rw [m.other k hkn.1]
        exact ⟨hks, hkp, hkn.2⟩
      waiting := fun k hk hnot => by
        by_cases hne : k = n
        · subst hne
          rw [m.here] at hk
          cases hk
        · rw [m.other k hne] at hk
          simp only [hqueue]
          exact h.waiting k hk (by rw [hmem_iff]; simp [hne, hnot])
      runner := fun w' k => by
        by_cases hne : k = n
        · subst hne
          simp only [State.RunsAs, m.here, true_and]
          by_cases hww : w' = w
          · subst hww
            simp [hrun, hp, hw]
          · rw [hother w' hww]
            refine ⟨fun hk => absurd ((h.runner w' k).mp hk).1 (h.not_running hin), fun ⟨q, hq, hqw⟩ => ?_⟩
            rw [hp] at hq
            cases hq
            exact absurd (Option.some.inj (hqw.symm.trans hw)) hww
        · simp only [State.RunsAs, m.other k hne]
          by_cases hww : w' = w
          · subst hww
            rw [hrun]
            refine ⟨fun hk => absurd (Option.some.inj hk).symm hne, fun hk => ?_⟩
            have := (h.runner w' k).mpr hk
            rw [hfree] at this
            cases this
          · rw [hother w' hww]
            exact h.runner w' k
      runs := fun k hk => by
        by_cases hne : k = n
        · exact ⟨w, hne ▸ hrun⟩
        · rw [m.other k hne] at hk
          obtain ⟨w', hw'⟩ := h.runs k hk
          refine ⟨w', ?_⟩
          rw [hother w' fun hww => ?_]
          · exact hw'
          · rw [hww, hfree] at hw'
            cases hw'
      free := fun k => by
        by_cases hne : k = n
        · subst hne
          rw [m.here]
          simp [hp]
        · rw [m.other k hne]
          exact h.free k
      posted := fun k hk => by
        by_cases hne : k = n
        · subst hne
          rw [m.here]
          nofun
        · rw [m.other k hne]
          exact h.posted k (by rw [hmem_iff]; simp [hne, hk])
      shown := m.shown h.wf h.shown
      taken := fun e he => by
        have hne : e.1 ≠ n := fun heq => hnotin (heq ▸ List.mem_map_of_mem he)
        obtain ⟨hes, hep, -⟩ := h.taken e (List.mem_cons_of_mem _ he)
        rw [m.other _ hne]
        refine ⟨hes, hep, fun b hb => ?_⟩
        have hgeneral : orderBlock e.2 = some .general := h.tail e he
        rw [hgeneral] at hb
        cases hb
        rfl
      once := (List.nodup_cons.mp h.once).2
      tail := fun e he => h.tail e (List.tail_subset _ he) }

/-! ## Queues and posts (R24 to R32) -/

theorem takesHead {b : Block} {rest : List SlotNo} {p : Posted} (h : OrdersBut l s)
    (hlimbo : ∀ e ∈ l.limbo, orderBlock e.2 = some .general) (hq : s.queue b = n :: rest)
    (hocc : s.occupied b = false) (hp : (s.slot n).posted = some p) :
    OrdersBut (l.take n p.order) (s.setQueue b rest) := by
  have hn : n ∈ s.queue b := hq ▸ List.mem_cons_self
  obtain ⟨hstate, ⟨p', hp', hblock⟩, hnot⟩ := h.queued b n hn
  obtain rfl : p' = p := Option.some.inj (hp'.symm.trans hp)
  have hnodup : (n :: rest).Nodup := hq ▸ h.nodup b
  have hmem_iff : ∀ k, k ∈ (l.take n p'.order).limbo.map Prod.fst ↔ k = n ∨ k ∈ l.limbo.map Prod.fst := by
    simp [Busy.take]
  have hqueue : ∀ b', (s.setQueue b rest).queue b' = if b' = b then rest else s.queue b' := by
    intro b'
    split
    next hbb => subst hbb; exact State.queue_setQueue_same _ _ _
    next hbb => exact State.queue_setQueue_other _ _ hbb
  have hsub : ∀ b' k, k ∈ (s.setQueue b rest).queue b' ↔ k ∈ s.queue b' ∧ k ≠ n := by
    intro b' k
    rw [hqueue]
    split
    next hbb =>
      subst hbb
      rw [hq]
      have hnr := (List.nodup_cons.mp hnodup).1
      exact ⟨fun hk => ⟨List.mem_cons_of_mem _ hk, fun he => hnr (he ▸ hk)⟩,
        fun hk => (List.mem_cons.mp hk.1).resolve_left hk.2⟩
    next hbb =>
      refine ⟨fun hk => ⟨hk, fun he => hbb ?_⟩, And.left⟩
      subst he
      obtain ⟨-, ⟨q, hq', hqb⟩, -⟩ := h.queued b' k hk
      rw [hp'] at hq'
      cases hq'
      exact Option.some.inj (hqb.symm.trans hblock)
  exact
    { wf := h.wf
      idle := h.idle
      nodup := fun b' => by
        rw [hqueue]
        split
        · exact (List.nodup_cons.mp hnodup).2
        · exact h.nodup b'
      behind := fun b' hb' hne => by
        refine h.behind b' hb' fun hnil => hne ?_
        rw [hqueue]
        split
        next hbb => subst hbb; rw [hnil] at hq; cases hq
        next => exact hnil
      queued := fun b' k hk => by
        obtain ⟨hin, hne⟩ := (hsub b' k).mp hk
        obtain ⟨hks, hkp, hkn⟩ := h.queued b' k hin
        exact ⟨hks, hkp, by rw [hmem_iff]; simp [hne, hkn]⟩
      waiting := fun k hk hkn => by
        rw [hmem_iff, not_or] at hkn
        obtain ⟨b', hb'⟩ := h.waiting k hk hkn.2
        exact ⟨b', (hsub b' k).mpr ⟨hb', hkn.1⟩⟩
      runner := h.runner
      runs := h.runs
      free := h.free
      posted := fun k hk => h.posted k fun hin => hk ((hmem_iff k).mpr (.inr hin))
      shown := h.shown
      taken := fun e he => by
        obtain rfl | he := List.mem_cons.mp he
        · refine ⟨.inr hstate, ⟨p', hp', rfl⟩, fun b' hb' => ?_⟩
          rw [hblock] at hb'
          cases hb'
          exact hocc
        · exact h.taken e he
      once := List.nodup_cons.mpr ⟨hnot, h.once⟩
      tail := hlimbo }

end OrdersBut

end Sys2Proof.Machine
end

/-! # The order engine's slots, queues and blocks agree (O8): every step -/

section
namespace Sys2Proof.Machine

/-! ## Addresses beside the slots' state bytes -/

theorem Memory.read_slot_write (m : Memory) {a : Nat} (v : Byte) (h : a < 0x40 ∨ 0x440 ≤ a)
    (n : SlotNo) : (m.write a v).read (slotAddr n) = m.read (slotAddr n) := by
  have := slotAddr_bounds n
  exact Memory.read_write_other _ _ (by omega)

theorem Memory.read_slot_writeAll (m : Memory) {a : Nat} (vs : List Byte)
    (h : a + vs.length ≤ 0x40 ∨ 0x440 ≤ a) (n : SlotNo) :
    (m.writeAll a vs).read (slotAddr n) = m.read (slotAddr n) := by
  have := slotAddr_bounds n
  exact Memory.read_writeAll_other _ _ _ (by omega)

theorem slotAt_slotAddr (n : SlotNo) : slotAt (slotAddr n) = some n := by
  have := n.isLt
  rw [slotAt, Option.ite_none_right_eq_some, Option.some.injEq]
  simp only [slotAddr, Config.slotBase, Config.slotSize, Config.copyA]
  exact ⟨by omega, Fin.ext (by simp only [Fin.val_ofNat]; omega)⟩

theorem slotAddr_of_slotAt {a : Nat} {n : SlotNo} (h : slotAt a = some n) : a = slotAddr n := by
  rw [slotAt, Option.ite_none_right_eq_some, Option.some.injEq] at h
  obtain ⟨hbounds, rfl⟩ := h
  simp only [Config.slotBase, Config.slotSize, Config.copyA] at hbounds
  simp only [slotAddr, Config.slotBase, Config.slotSize, Fin.val_ofNat]
  omega

theorem mem_recordWrite (n : SlotNo) (b : Byte) (l : List (SlotNo × Byte)) (k : SlotNo) :
    k ∈ (recordWrite n b l).map Prod.fst ↔ k = n ∨ k ∈ l.map Prod.fst := by
  induction l with
  | nil => simp [recordWrite]
  | cons e l ih =>
    obtain ⟨j, v⟩ := e
    unfold recordWrite
    split
    · simp
    · split
      next hj => subst hj; simp
      next => simp only [List.map_cons, List.mem_cons, ih]; tauto

namespace SlotMove

variable {n : SlotNo} {r : Slot} {s s' t : State}

theorem judged (hj : Judged n s s') (m : SlotMove n r s' t) : SlotMove n r s t := by
  obtain rfl | ⟨v, rest, hnotices, rfl⟩ := hj
  · exact m
  · refine { m with notices := fun k hk hin => m.notices k hk ?_ }
    rw [hnotices, List.map_cons, List.mem_cons] at hin
    exact hin.resolve_left hk

theorem copyPost (s : State) (n : SlotNo) (p : Posted) :
    SlotMove n ⟨.posted, some p⟩ s (s.copyPost n p) where
  here := by
    rw [State.copyPost, State.slot_congr (State.poke_orders _ _ _), State.slot_setSlot_same]
  other k hk := by
    rw [State.copyPost, State.slot_congr (State.poke_orders _ _ _), State.slot_setSlot_other _ _ hk,
      State.slot_congr (State.pokeAll_orders _ _ _)]
  wf h := State.copyPost_wf s n p h
  code h := by
    have := slotAddr_bounds n
    exact Memory.read_write_same _ (Memory.writeAll_wf _ _ h) (by simp only [Config.memSize]; omega)
  elsewhere k hk := by
    have hnot : ¬engineBytes n (slotAddr k) := fun he => hk (slotAddr_inj he)
    simp only [engineBytes, not_or, not_and] at hnot
    exact (Memory.read_write_other _ _ hnot.1).trans
      (Memory.read_writeAll_other _ _ _ (by simp only [List.length_replicate]; omega))
  link := rfl
  notices _ _ h := h

theorem enqueue (s : State) (b : Block) (n : SlotNo) :
    SlotMove n { s.slot n with state := .waiting } s (s.enqueue b n) :=
  (SlotMove.setSlotState (s.setQueue b (s.queue b ++ [n])) n .waiting).after (fun _ => rfl) rfl rfl rfl

theorem acceptFree (s : State) (n : SlotNo) : SlotMove n Slot.reset s (s.acceptFree n) where
  here := by
    rw [State.acceptFree, State.slot_congr (State.poke_orders _ _ _), State.slot_setSlot_same]
  other k hk := by
    rw [State.acceptFree, State.slot_congr (State.poke_orders _ _ _), State.slot_setSlot_other _ _ hk]
  wf h := State.acceptFree_wf s n h
  code h := by
    have := slotAddr_bounds n
    exact Memory.read_write_same _ h (by simp only [Config.memSize]; omega)
  elsewhere k hk := Memory.read_write_other _ _ fun he => hk (slotAddr_inj (.inl he))
  link := rfl
  notices _ _ h := h

theorem holdWrite (s : State) (n : SlotNo) : SlotMove n (s.slot n) s (s.holdWrite n) where
  here := rfl
  other _ _ := rfl
  wf h := State.holdWrite_wf s n h
  code h := by
    have := slotAddr_bounds n
    exact Memory.read_write_same _ h (by simp only [Config.memSize]; omega)
  elsewhere k hk := Memory.read_write_other _ _ fun he => hk (slotAddr_inj (.inl he))
  link := rfl
  notices _ _ h := h

theorem trans {r' : Slot} (m : SlotMove n r' s s') (m' : SlotMove n r s' t) : SlotMove n r s t where
  here := m'.here
  other k hk := (m'.other k hk).trans (m.other k hk)
  wf h := m'.wf (m.wf h)
  code h := m'.code (m.wf h)
  elsewhere k hk := (m'.elsewhere k hk).trans (m.elsewhere k hk)
  link := m'.link.trans m.link
  notices k hk h := m'.notices k hk (m.notices k hk h)

end SlotMove

namespace OrdersBut

variable {l l' : Busy} {s s' t : State} {n : SlotNo}

/-- The records of the slots stay, and what memory and the link record shows of them is given. -/
theorem reshow (h : OrdersBut l s) (hwf : t.mem.wf = true) (hslot : ∀ k, t.slot k = s.slot k)
    (hqueues : t.orders.queues = s.orders.queues) (hrun : ∀ w, t.runningSlot w = s.runningSlot w)
    (hidle : t.link.phase = .idle → t.link.slotWrites = [])
    (hshown : ∀ k, t.unjudged k ∨ t.mem.read (slotAddr k) = (s.slot k).state.code) : OrdersBut l t := by
  have hqueue : ∀ b, t.queue b = s.queue b := State.queue_congr hqueues
  have hocc : ∀ b, t.occupied b = s.occupied b := fun b => State.occupied_of_runners fun w _ => hrun w
  exact
    { wf := hwf
      idle := hidle
      nodup := fun b => hqueue b ▸ h.nodup b
      behind := fun b => by rw [hqueue, hocc]; exact h.behind b
      queued := fun b n => by rw [hqueue, hslot]; exact h.queued b n
      waiting := fun n => by simp only [hqueue, hslot]; exact h.waiting n
      runner := fun w n => by rw [hrun, State.RunsAs, hslot]; exact h.runner w n
      runs := fun n => by simp only [hrun, hslot]; exact h.runs n
      free := fun n => by rw [hslot]; exact h.free n
      posted := fun n => by rw [hslot]; exact h.posted n
      shown := fun n => by rw [hslot]; exact hshown n
      taken := fun e he => by simp only [hslot, hocc]; exact h.taken e he
      once := h.once
      tail := h.tail }

/-- A slot without an order, or with one that has ended, takes a record that does not run; `queues`
says in which queues it then stands. -/
theorem slotRests {r : Slot} {queues : Block → Prop} (h : OrdersBut .none s) (m : SlotMove n r s t)
    (hfrom : (s.slot n).state = .free ∨ (s.slot n).state = .done) (hrests : r.state ≠ .running)
    (hfree : r.state = .free ↔ r.posted = none)
    (hposted : r.state = .posted → n ∈ l'.limbo.map Prod.fst)
    (hwaiting : r.state = .waiting → n ∈ l'.limbo.map Prod.fst ∨ ∃ b, queues b)
    (hqueues : ∀ b, queues b → r.state = .waiting
      ∧ (∃ p, r.posted = some p ∧ orderBlock p.order = some b) ∧ n ∉ l'.limbo.map Prod.fst)
    (hnodup : ∀ b, (t.queue b).Nodup)
    (hqueue : ∀ b k, k ∈ t.queue b ↔ k ∈ s.queue b ∨ k = n ∧ queues b)
    (hbehind : ∀ b, t.queue b ≠ [] → s.occupied b = true)
    (hrun : ∀ w, t.runningSlot w = s.runningSlot w) (honly : ∀ e ∈ l'.limbo, e.1 = n)
    (htaken : ∀ e ∈ l'.limbo, (r.state = .posted ∨ r.state = .waiting)
      ∧ (∃ p, r.posted = some p ∧ p.order = e.2)
      ∧ ∀ b, orderBlock e.2 = some b → s.occupied b = false)
    (honce : (l'.limbo.map Prod.fst).Nodup)
    (htail : ∀ e ∈ l'.limbo.tail, orderBlock e.2 = some .general) : OrdersBut l' t := by
  have hocc : ∀ b, t.occupied b = s.occupied b := fun b => State.occupied_of_runners fun w _ => hrun w
  have hnotin : ∀ k, k ≠ n → k ∉ l'.limbo.map Prod.fst := by
    intro k hk hin
    obtain ⟨e, he, rfl⟩ := List.mem_map.mp hin
    exact hk (honly e he)
  have hnotq : ∀ b, n ∉ s.queue b := fun b hb => by
    have := (h.queued b n hb).1
    obtain hs | hs := hfrom <;> simp [hs] at this
  have hnotrun : ∀ w, s.runningSlot w ≠ some n := fun w hw => by
    have := ((h.runner w n).mp hw).1
    obtain hs | hs := hfrom <;> simp [hs] at this
  exact
    { wf := m.wf h.wf
      idle := m.link ▸ h.idle
      nodup := hnodup
      behind := fun b _ hq => hocc b ▸ hbehind b hq
      queued := fun b k hk => by
        obtain hin | ⟨rfl, hqb⟩ := (hqueue b k).mp hk
        · have hne : k ≠ n := fun he => hnotq b (he ▸ hin)
          obtain ⟨hks, hkp, -⟩ := h.queued b k hin
          rw [m.other k hne]
          exact ⟨hks, hkp, hnotin k hne⟩
        · rw [m.here]
          exact hqueues b hqb
      waiting := fun k hk hkn => by
        by_cases hne : k = n
        · subst hne
          rw [m.here] at hk
          obtain ⟨b, hb⟩ := (hwaiting hk).resolve_left hkn
          exact ⟨b, (hqueue b k).mpr (.inr ⟨rfl, hb⟩)⟩
        · rw [m.other k hne] at hk
          obtain ⟨b, hb⟩ := h.waiting k hk (by simp [Busy.none])
          exact ⟨b, (hqueue b k).mpr (.inl hb)⟩
      runner := fun w k => by
        rw [hrun]
        by_cases hne : k = n
        · subst hne
          simp only [State.RunsAs, m.here]
          exact ⟨fun hk => absurd hk (hnotrun w), fun hk => absurd hk.1 hrests⟩
        · simp only [State.RunsAs, m.other k hne]
          exact h.runner w k
      runs := fun k hk => by
        by_cases hne : k = n
        · subst hne
          rw [m.here] at hk
          exact absurd hk hrests
        · rw [m.other k hne] at hk
          simp only [hrun]
          exact h.runs k hk
      free := fun k => by
        by_cases hne : k = n
        · subst hne
          rw [m.here]
          exact hfree
        · rw [m.other k hne]
          exact h.free k
      posted := fun k hk => by
        by_cases hne : k = n
        · subst hne
          rw [m.here]
          exact fun hr => hk (hposted hr)
        · rw [m.other k hne]
          exact h.posted k (by simp [Busy.none])
      shown := m.shown h.wf h.shown
      taken := fun e he => by
        rw [honly e he, m.here]
        simp only [hocc]
        exact htaken e he
      once := honce
      tail := htail }

/-! ## Posts, frees and held writes -/

theorem queue_judged (hj : Judged n s s') (b : Block) : s'.queue b = s.queue b := by
  obtain rfl | ⟨v, rest, -, rfl⟩ := hj <;> rfl

theorem slot_judged (hj : Judged n s s') (k : SlotNo) : s'.slot k = s.slot k := by
  obtain rfl | ⟨v, rest, -, rfl⟩ := hj <;> rfl

theorem runningSlot_judged (hj : Judged n s s') (w : Runner) : s'.runningSlot w = s.runningSlot w := by
  obtain rfl | ⟨v, rest, -, rfl⟩ := hj
  · rfl
  · cases w <;> rfl

theorem postTaken (p : Posted) (hj : Judged n s s') (hfree : (s.slot n).state = .free)
    (hocc : ∀ b, orderBlock p.order = some b → s.occupied b = false) (h : OrdersBut .none s) :
    OrdersBut (Busy.none.take n p.order) (s'.copyPost n p) := by
  have hqueue : ∀ b, (s'.copyPost n p).queue b = s.queue b := fun b => queue_judged (n := n) (s' := s') hj b
  refine h.slotRests (queues := fun _ => False) ((SlotMove.copyPost s' n p).judged hj) (.inl hfree) nofun
    (by simp) (by simp [Busy.take]) nofun (by simp) (fun b => hqueue b ▸ h.nodup b)
    (fun b k => by simp [hqueue]) (fun b hq => h.behind b (by simp [Busy.none]) (hqueue b ▸ hq)) (fun w => ?_)
    (by simp [Busy.take, Busy.none]) (fun e he => ?_) (by simp [Busy.take, Busy.none])
    (by simp [Busy.take, Busy.none])
  · rw [← runningSlot_judged hj w]
    cases w <;> simp [State.runningSlot]
  · obtain rfl : e = (n, p.order) := by simpa [Busy.take, Busy.none] using he
    exact ⟨.inl rfl, ⟨p, rfl, rfl⟩, hocc⟩

theorem postWaits {b : Block} (p : Posted) (hj : Judged n s s') (hfree : (s.slot n).state = .free)
    (hblock : orderBlock p.order = some b) (hbusy : s.occupied b = true ∨ s.queue b ≠ [])
    (h : OrdersBut .none s) : OrdersBut .none ((s'.copyPost n p).enqueue b n) := by
  have hcopied : ∀ b', (s'.copyPost n p).queue b' = s.queue b' := fun b' => queue_judged (n := n) (s' := s') hj b'
  have hqueue : ∀ b', ((s'.copyPost n p).enqueue b n).queue b'
      = if b' = b then s.queue b ++ [n] else s.queue b' := by
    intro b'
    rw [State.enqueue, State.queue_congr (State.setSlotState_queues _ _ _)]
    split
    next hbb => subst hbb; rw [State.queue_setQueue_same, hcopied]
    next hbb => rw [State.queue_setQueue_other _ _ hbb, hcopied]
  have hnotq : n ∉ s.queue b := fun hb => by
    have := (h.queued b n hb).1
    rw [hfree] at this
    cases this
  have m : SlotMove n ⟨.waiting, some p⟩ s ((s'.copyPost n p).enqueue b n) := by
    have m' := SlotMove.enqueue (s'.copyPost n p) b n
    rw [(SlotMove.copyPost s' n p).here] at m'
    exact ((SlotMove.copyPost s' n p).trans m').judged hj
  have hocc : s.occupied b = true := by
    obtain hocc | hq := hbusy
    · exact hocc
    · exact h.behind b (by simp [Busy.none]) hq
  refine h.slotRests (queues := fun b' => b' = b) m (.inl hfree) nofun (by simp) nofun
    (fun _ => .inr ⟨b, rfl⟩) (fun b' hb' => ?_) (fun b' => ?_) (fun b' k => ?_) (fun b' hq => ?_)
    (fun w => ?_) (by simp [Busy.none]) (by simp [Busy.none]) (by simp [Busy.none]) (by simp [Busy.none])
  · subst hb'
    exact ⟨rfl, ⟨p, rfl, hblock⟩, by simp [Busy.none]⟩
  · rw [hqueue]
    split
    · refine List.nodup_append.mpr ⟨h.nodup b, List.nodup_singleton n, fun x hx y hy => ?_⟩
      rw [List.mem_singleton.mp hy]
      exact fun he => hnotq (he ▸ hx)
    · exact h.nodup b'
  · rw [hqueue]
    split
    next hbb => simp [hbb]
    next hbb => simp [hbb]
  · rw [hqueue] at hq
    split at hq
    next hbb => rw [hbb]; exact hocc
    next => exact h.behind b' (by simp [Busy.none]) hq
  · rw [← runningSlot_judged hj w]
    cases w <;> simp [State.runningSlot]

theorem acceptFree (hj : Judged n s s') (hdone : (s.slot n).state = .done) (h : OrdersBut .none s) :
    OrdersBut .none (s'.acceptFree n) := by
  have hqueue : ∀ b, (s'.acceptFree n).queue b = s.queue b := fun b => queue_judged (n := n) (s' := s') hj b
  refine h.slotRests (queues := fun _ => False) ((SlotMove.acceptFree s' n).judged hj) (.inr hdone) nofun
    (by simp [Slot.reset]) nofun nofun (by simp) (fun b => hqueue b ▸ h.nodup b)
    (fun b k => by simp [hqueue]) (fun b hq => h.behind b (by simp [Busy.none]) (hqueue b ▸ hq)) (fun w => ?_)
    (by simp [Busy.none]) (by simp [Busy.none]) (by simp [Busy.none]) (by simp [Busy.none])
  rw [← runningSlot_judged hj w]
  cases w <;> simp [State.runningSlot]

theorem holdWrite (hj : Judged n s s') (h : OrdersBut .none s) : OrdersBut .none (s'.holdWrite n) := by
  have m : SlotMove n (s.slot n) s (s'.holdWrite n) := by
    have := SlotMove.holdWrite s' n
    rw [slot_judged hj] at this
    exact this.judged hj
  have hslot : ∀ k, (s'.holdWrite n).slot k = s.slot k := fun k => slot_judged (n := n) (s' := s') hj k
  refine h.reshow (m.wf h.wf) hslot ?_ (fun w => ?_) (m.link ▸ h.idle) fun k => ?_
  · obtain rfl | ⟨v, rest, -, rfl⟩ := hj <;> rfl
  · rw [← runningSlot_judged hj w]
    cases w <;> simp [State.runningSlot]
  · rw [← hslot]
    exact m.shown h.wf h.shown k

/-! ## The link port -/

theorem start (hidle : s.link.phase = .idle) (h : OrdersBut .none s) :
    OrdersBut .none (s.withLink s.link.start) := by
  refine h.reshow h.wf (fun _ => rfl) rfl (fun w => by cases w <;> rfl) (fun _ => rfl) fun k => ?_
  have := h.shown k
  rwa [State.unjudged, h.idle hidle] at this

theorem endTransaction (h : OrdersBut .none s) : OrdersBut .none s.endTransaction := by
  refine h.reshow h.wf (fun _ => rfl) rfl (fun w => by cases w <;> rfl) (fun _ => rfl) fun k => ?_
  refine (h.shown k).imp_left fun hun => .inl ?_
  rw [State.endTransaction, State.withLink_orders, State.withOrders_orders, List.map_append]
  exact List.mem_append.mpr hun

theorem storeState {a : Nat} (b : Byte) (ha : slotAt a = some n) (hphase : s.link.phase ≠ .idle)
    (h : OrdersBut .none s) : OrdersBut .none ((s.poke a b).recordState n b) := by
  obtain rfl := slotAddr_of_slotAt ha
  refine h.reshow (State.poke_wf _ _ _ h.wf) (fun _ => rfl) rfl (fun w => by cases w <;> rfl)
    (fun hp => absurd hp hphase) fun k => ?_
  by_cases hk : k = n
  · exact .inl (.inr ((mem_recordWrite n b _ k).mpr (.inl hk)))
  · refine (h.shown k).imp (fun hun => ?_) fun hread => ?_
    · exact hun.imp_right fun hin => (mem_recordWrite n b _ k).mpr (.inr hin)
    · exact (Memory.read_write_other _ _ fun he => hk (slotAddr_inj (.inl he))).trans hread

theorem poke {a : Nat} (v : Byte) (ha : ∀ k, a ≠ slotAddr k) (h : OrdersBut l s) :
    OrdersBut l (s.poke a v) :=
  h.congr (State.poke_wf _ _ _ h.wf) (fun k => Memory.read_write_other _ _ (ha k).symm) rfl id rfl
    fun w => by cases w <;> rfl

theorem pokeAll {a : Nat} (vs : List Byte) (ha : a + vs.length ≤ 0x40 ∨ 0x440 ≤ a) (h : OrdersBut l s) :
    OrdersBut l (s.pokeAll a vs) :=
  h.congr (State.pokeAll_wf _ _ _ h.wf) (Memory.read_slot_writeAll _ _ ha) rfl id rfl
    fun w => by cases w <;> rfl

/-- A part that holds no order, no memory and no link record. -/
theorem parts (h : OrdersBut l s) (hmem : t.mem = s.mem := by simp) (hlink : t.link = s.link := by simp)
    (horders : t.orders = s.orders := by simp)
    (hcharge : t.power.charge.map (·.slot) = s.power.charge.map (·.slot) := by simp)
    (hplan : t.heating.plan.map (·.slot) = s.heating.plan.map (·.slot) := by simp)
    (hcheck : t.insulation.check.map (·.slot) = s.insulation.check.map (·.slot) := by simp)
    (hclose : t.billing.close.bind (·.slot) = s.billing.close.bind (·.slot) := by simp) :
    OrdersBut l t :=
  h.congr (by rw [hmem]; exact h.wf) (fun k => by rw [hmem]) horders (by rw [hlink]; exact id)
    (by rw [hlink]) (State.runningSlot_congr hcharge hplan hcheck hclose)

theorem calm (h : OrdersBut l s) (hc : Calm s t) : OrdersBut l t :=
  h.congr (by rw [hc.mem]; exact h.wf) (fun k => by rw [hc.mem]) hc.orders (by rw [hc.link]; exact id)
    (by rw [hc.link]) hc.running

end OrdersBut

/-- An address of the header. -/
theorem ne_slotAddr_of_lt {a : Nat} (h : a < 0x40) (k : SlotNo) : a ≠ slotAddr k := by
  have := slotAddr_bounds k
  omega

end Sys2Proof.Machine
end

/-! # The order engine's agreement is kept (O8), and every invariant holds after a reset (O9) -/

section
namespace Sys2Proof.Machine

/-! ## After a power-on reset -/

theorem State.reset_slot (n : SlotNo) : State.reset.slot n = Slot.reset := by
  revert n
  decide

theorem State.reset_runningSlot (w : Runner) : State.reset.runningSlot w = none := by
  cases w <;> rfl

theorem State.reset_queue (b : Block) : State.reset.queue b = [] := by
  cases b <;> rfl

theorem orders_reset : OrdersBut .none State.reset where
  wf := resetMemory_wf
  idle _ := rfl
  nodup b := by simp [State.reset_queue]
  behind b _ hq := absurd (State.reset_queue b) hq
  queued b n hn := by simp [State.reset_queue] at hn
  waiting n hn := by
    rw [State.reset_slot] at hn
    cases hn
  runner w n := by simp [State.reset_runningSlot, State.RunsAs, State.reset_slot, Slot.reset]
  runs n hn := by
    rw [State.reset_slot] at hn
    cases hn
  free n := by simp [State.reset_slot, Slot.reset]
  posted n _ := by
    rw [State.reset_slot]
    nofun
  shown n := by
    refine .inr ?_
    revert n
    decide
  taken := by simp [Busy.none]
  once := by simp [Busy.none]
  tail := by simp [Busy.none]

/-- The invariant sees the orders taken. -/
theorem orders_not_labelFree : ¬LabelFree OrdersBut := by
  intro hfree
  have h := hfree .none (Busy.none.take 0 .clearTrip) State.reset rfl orders_reset
  obtain ⟨hstate, -⟩ := h.taken (0, .clearTrip) List.mem_cons_self
  rw [State.reset_slot] at hstate
  obtain hstate | hstate := hstate <;> cases hstate

/-! ## The ends and the beginnings of each runner -/

namespace OrdersBut

variable {l : Busy} {s : State} {n : SlotNo}

theorem chargeEnds {c : Charge} (e : Ending) (hc : s.power.charge = some c)
    (hn : n = c.slot ∨ s.RunsAs n .charge) (h : OrdersBut l s) :
    OrdersBut l (s.dropCharge.finish n e) := by
  have hslot : s.runningSlot .charge = some c.slot := by simp [State.runningSlot, hc]
  obtain rfl := h.runner_unique hslot hn
  refine h.runnerEnds e hslot rfl rfl rfl rfl (fun w hw => ?_) rfl fun b hb => ⟨hb, ?_⟩
  · cases w <;> first | rfl | exact absurd rfl hw
  · cases b <;> nofun

theorem planEnds {p : Plan} (e : Ending) (hp : s.heating.plan = some p)
    (hn : n = p.slot ∨ s.RunsAs n .heat) (h : OrdersBut l s) :
    OrdersBut l (s.dropPlan.finish n e) := by
  have hslot : s.runningSlot .heat = some p.slot := by simp [State.runningSlot, hp]
  obtain rfl := h.runner_unique hslot hn
  refine h.runnerEnds e hslot rfl rfl rfl rfl (fun w hw => ?_) rfl fun b hb => ⟨hb, ?_⟩
  · cases w <;> first | rfl | exact absurd rfl hw
  · cases b <;> nofun

theorem checkEnds {c : Check} (e : Ending) (hc : s.insulation.check = some c) (h : OrdersBut l s) :
    OrdersBut (l.drain .insulation)
      ((s.withInsulation { s.insulation with check := none }).finish c.slot e) := by
  have hslot : s.runningSlot .check = some c.slot := by simp [State.runningSlot, hc]
  refine h.runnerEnds e hslot rfl rfl rfl rfl (fun w hw => ?_) rfl fun b hb => ?_
  · cases w <;> first | rfl | exact absurd rfl hw
  · simp only [Busy.drain, List.mem_cons, not_or] at hb
    refine ⟨hb.2, fun hw => hb.1 ?_⟩
    cases b <;> first | rfl | cases hw

theorem closeEnds {ph : ClosePhase} (e : Ending) (hc : s.billing.close = some ⟨some n, ph⟩)
    (h : OrdersBut l s) :
    OrdersBut (l.drain .billing) ((s.withBilling { s.billing with close := none }).finish n e) := by
  have hslot : s.runningSlot .close = some n := by simp [State.runningSlot, hc]
  refine h.runnerEnds e hslot rfl rfl rfl rfl (fun w hw => ?_) rfl fun b hb => ?_
  · cases w <;> first | rfl | exact absurd rfl hw
  · simp only [Busy.drain, List.mem_cons, not_or] at hb
    refine ⟨hb.2, fun hw => hb.1 ?_⟩
    cases b <;> first | rfl | cases hw

theorem chargeRuns {o : Order} {c : Charge} (ho : orderRunner o = some .charge) (hcs : c.slot = n)
    (hnone : s.power.charge = none) (h : OrdersBut (l.take n o) s) :
    OrdersBut l ((s.setSlotState n .running).withPower
      { s.power with charge := some c, lastVLim := c.vLim }) := by
  refine h.runnerBegins ho (by simp [State.runningSlot, hnone]) rfl rfl rfl
    (by simp [State.runningSlot, hcs]) fun w hw => ?_
  cases w <;> first | rfl | exact absurd rfl hw

theorem planRuns {o : Order} {p : Plan} (ho : orderRunner o = some .heat) (hps : p.slot = n)
    (hnone : s.heating.plan = none) (h : OrdersBut (l.take n o) s) :
    OrdersBut l ((s.setSlotState n .running).withHeating { s.heating with plan := some p }) := by
  refine h.runnerBegins ho (by simp [State.runningSlot, hnone]) rfl rfl rfl
    (by simp [State.runningSlot, hps]) fun w hw => ?_
  cases w <;> first | rfl | exact absurd rfl hw

theorem checkRuns (hnone : s.insulation.check = none) (h : OrdersBut (l.take n .checkInsulation) s) :
    OrdersBut l ((s.setSlotState n .running).withInsulation
      { s.insulation with check := some ⟨n, 0⟩ }) := by
  refine h.runnerBegins rfl (by simp [State.runningSlot, hnone]) rfl rfl rfl
    (by simp [State.runningSlot]) fun w hw => ?_
  cases w <;> first | rfl | exact absurd rfl hw

theorem closeRuns {id : Word} {ses : Session} (hnone : s.billing.close = none)
    (h : OrdersBut (l.take n (.closeSession id)) s) : OrdersBut l (s.startClose n ses) := by
  have hrun : OrdersBut l ((s.setSlotState n .running).withBilling { s.billing with
      session := some { ses with closing := true }
      close := some ⟨some n, .awaitRelay⟩ }) := by
    refine h.runnerBegins rfl (by simp [State.runningSlot, hnone]) rfl rfl rfl
      (by simp [State.runningSlot]) fun w hw => ?_
    cases w <;> first | rfl | exact absurd rfl hw
  refine OrdersBut.calm ?_ (drivesFall_failGate _).quiet.toCalm
  unfold State.endCharge
  split
  next c hc => exact hrun.chargeEnds _ hc (.inl rfl)
  next => exact hrun

theorem journalWrite (r : Record) (h : OrdersBut l s) : OrdersBut l (s.journalWrite r) := by
  refine h.congr (State.journalWrite_wf s r h.wf) (fun k => ?_) (by simp) (by simp) (by simp)
    (State.runningSlot_congr (by simp) (by simp) (by simp) (by simp [State.journalWrite_billing]))
  rw [State.journalWrite_mem, Memory.read_slot_write _ _ (.inl (by decide)),
    Memory.read_slot_writeAll _ _ (.inl (by simp [Config.hdrW])),
    Memory.read_slot_writeAll _ _ (.inr (by simp only [Config.journalBase]; omega))]

theorem writeCopy {base : Nat} (hbase : 0x440 ≤ base ∧ base ≤ 0x540) (index : Byte) (seq : Word)
    (h : OrdersBut l s) : OrdersBut l (s.writeCopy base index seq) := by
  refine h.congr (State.writeCopy_wf s base index seq h.wf) (fun k => ?_) (by simp) (by simp) (by simp)
    (State.runningSlot_congr (by simp) (by simp) (by simp) (by simp))
  rw [State.writeCopy_mem, Memory.read_slot_write _ _ (.inl (by decide)),
    Memory.read_slot_writeAll _ _ (.inr (by omega)), Memory.read_slot_writeAll _ _ (.inr (by omega)),
    Memory.read_slot_writeAll _ _ (.inr (by omega))]

theorem latchTrip (k : TripKind) (h : OrdersBut l s) : OrdersBut l (s.latchTrip k) := by
  unfold State.latchTrip
  extract_lets _ s1
  have hs1 : OrdersBut l s1 := h.parts rfl rfl rfl rfl rfl rfl rfl
  split
  · have hraised : OrdersBut l ((s1.withTrips { s1.trips with first := some ⟨k, s.billing.partTime⟩ }).raise
        .trip) := hs1.parts rfl rfl rfl rfl rfl rfl rfl
    exact hraised.calm (drivesFall_failGate _).quiet.toCalm
  · exact hs1

theorem tripDrives (h : OrdersBut l s) : OrdersBut l s.tripDrives := by
  refine h.parts (by simp) (by simp) (by simp) (by simp) (by simp) ?_ (by simp)
  simp [State.tripDrives]

theorem newCondition {i : Insulation} (hcheck : i.check = s.insulation.check) (h : OrdersBut l s) :
    OrdersBut l (s.newCondition i) := by
  have hset : OrdersBut l ((s.withInsulation i).reportWarn s.insulation.condition i.condition) :=
    h.parts (by simp) (by simp) (by simp) (by simp) (by simp) (by simp [hcheck]) (by simp)
  exact hset.calm (drivesFall_failGateIf _ _ _).quiet.toCalm

/-- A link reset leaves every slot FREE, every queue empty and no order running (R41, R42). -/
theorem resetHost (h : OrdersBut .none s) : OrdersBut .none s.resetHost := by
  have horders : s.resetHost.orders
      = (s.withLink (s.link.afterReset s.billing.rdHigh)).resetOrders.orders := by
    simp [State.resetHost]
  have hmem : s.resetHost.mem = (s.withLink (s.link.afterReset s.billing.rdHigh)).resetOrders.mem := by
    simp [State.resetHost]
  have hslot : ∀ n, s.resetHost.slot n = Slot.reset := fun n =>
    (State.slot_congr horders n).trans (State.resetOrders_slot _ n)
  have hqueue : ∀ b, s.resetHost.queue b = [] := fun b => by
    rw [State.queue, horders, State.resetOrders_queues]
    cases b <;> rfl
  have hrun : ∀ w, s.resetHost.runningSlot w = none := fun w => by
    cases w
    · simp [State.runningSlot, State.resetHost, State.resetKeepalive_power, State.resetOrders_power]
    · simp [State.runningSlot, State.resetHost, State.resetOrders_heating]
    · simp [State.runningSlot, State.resetHost, State.resetOrders_insulation]
    · simp only [State.runningSlot, State.resetHost, State.withAttn_billing, State.resetKeepalive_billing,
        State.resetOrders_billing, State.withLink_billing, Billing.detach]
      cases s.billing.close <;> rfl
  exact
    { wf := by rw [hmem]; exact State.resetOrders_wf _ h.wf
      idle := by simpa [State.resetHost, Link.afterReset] using h.idle
      nodup := fun b => by simp [hqueue]
      behind := fun b _ hq => absurd (hqueue b) hq
      queued := fun b n hn => by simp [hqueue] at hn
      waiting := fun n hn => by simp [hslot, Slot.reset] at hn
      runner := fun w n => by simp [hrun, State.RunsAs, hslot, Slot.reset]
      runs := fun n hn => by simp [hslot, Slot.reset] at hn
      free := fun n => by simp [hslot, Slot.reset]
      posted := fun n _ => by simp [hslot, Slot.reset]
      shown := fun n => .inr (by
        rw [hmem, hslot]
        exact State.resetOrders_read_zero (s := s.withLink _) h.wf (n := n) (.inl rfl))
      taken := by simp [Busy.none]
      once := by simp [Busy.none]
      tail := by simp [Busy.none] }

end OrdersBut

/-! ## Every step -/

theorem orders_kept : Kept OrdersBut where
  quiet hq h := h.calm hq.toCalm
  relabel hlimbo _ hdrain h := h.relabel hlimbo hdrain
  journal r _ h := h.journalWrite r
  holdRecord _ _ h := OrdersBut.poke _ (ne_slotAddr_of_lt (by decide)) h.parts
  freeHeld h := OrdersBut.poke _ (ne_slotAddr_of_lt (by decide)) h.parts
  holdBegins h := OrdersBut.calm h.parts (drivesFall_failGate _).quiet.toCalm
  holdEnds h := h.parts rfl rfl rfl rfl rfl rfl rfl
  levels _ _ h := OrdersBut.poke _ (ne_slotAddr_of_lt (by decide))
    (OrdersBut.poke _ (ne_slotAddr_of_lt (by decide)) h.parts)
  mark _ h := OrdersBut.pokeAll _ (.inl (by simp [Config.hdrRd])) (h.parts.relabel rfl fun _ => id)
  shown h := OrdersBut.poke _ (ne_slotAddr_of_lt (by decide)) (h.relabel rfl fun _ => id)
  trip _ h := (h.latchTrip _).tripDrives
  clears h := h.parts
  condition hcheck _ h := h.newCondition hcheck
  fault hcheck _ _ h := ((h.newCondition hcheck).latchTrip _).tripDrives
  sessionOpens _ _ _ h := h.parts
  sessionEnds _ hclose h := h.parts (hclose := by simp [hclose])
  finishes e h := h.finish e
  chargeEnds e hc hn h := h.chargeEnds e hc hn
  planEnds e hp hn h := h.planEnds e hp hn
  checkEnds e hc h := h.checkEnds e hc
  closeEnds e hc h := h.closeEnds e hc
  chargeRuns ho hcs hnone h := h.chargeRuns ho hcs hnone
  planRuns ho hps hnone h := h.planRuns ho hps hnone
  checkRuns hnone h := h.checkRuns (hnone.resolve_left orders_not_labelFree)
  closeRuns _ hnone h := h.closeRuns hnone
  waits := .inr fun h => ⟨h.behind _, fun n hn => (h.queued _ n hn).2.1⟩
  drained hdone h := h.drained hdone
  requeue _ _ hfree _ := absurd hfree orders_not_labelFree
  takesHead hlimbo hq hocc hp h := h.takesHead hlimbo hq hocc hp
  unqueues e hlimbo hne hwait hp h := h.unqueues e hwait hp fun hin => by
    obtain ⟨x, hx, hxn⟩ := List.mem_map.mp hin
    exact hne (hxn.symm.trans (hlimbo x hx))
  postTaken p hj hfree hocc h := h.postTaken p hj hfree hocc
  postWaits p hj hfree hblock hbusy h := h.postWaits p hj hfree hblock hbusy
  frees hj hdone h := h.acceptFree hj hdone
  holds hj h := h.holdWrite hj
  link hwrites hphase h := h.congr h.wf (fun _ => rfl) rfl hphase hwrites fun w => by cases w <;> rfl
  starts hidle h := h.start hidle
  ends h := h.endTransaction
  stores b ha hphase h := h.storeState b ha hphase
  pokes b hnone _ _ _ h := h.poke b fun k hk => by
    rw [hk, slotAt_slotAddr] at hnone
    cases hnone
  copies seq h := h.writeCopy (nextCopy_bound _) _ seq

/-- Settles O8: while a command is under way the orders it has taken stand apart; each move of a slot
goes with its queue's or its runner's. -/
theorem ordersStayTrue : Obligations.OrdersStayTrue := by
  intro s t hs hstep
  rw [ordersShow_iff] at hs ⊢
  exact orders_kept.step (fun h => orders_kept.meteringFrame h.parts)
    (orders_kept.linkReset OrdersBut.resetHost) (orders_kept.powerOn orders_reset) hs hstep

/-- Settles O9: the reset state is a literal, and the invariants are read off it. -/
theorem resetMeetsInvariants : Obligations.ResetMeetsInvariants := by
  refine ⟨resetMemory_wf, ?_, ?_, drives_reset (g := False) |>.1, rfl, ?_,
    (ordersShow_iff _).mpr orders_reset⟩
  · unfold HeaderShows
    decide
  · unfold CausesShow
    decide
  · unfold Metering.conserved
    decide

end Sys2Proof.Machine
end

/-! # The pending set and what is read of it (O16, O23) -/

section
namespace Sys2Proof.Machine

theorem bitIf_eq (b : Bool) (n : Nat) : bitIf b n = b.toNat * 2 ^ n := by
  cases b <;> simp [bitIf]

theorem Cause.code_bounds (c : Cause) : 1 ≤ c.code ∧ c.code ≤ 8 := by
  cases c <;> decide

theorem Cause.code_inj {c d : Cause} (h : c.code = d.code) : c = d := by
  cases c <;> cases d <;> first | rfl | cases h

/-- The eight codes are the eight causes' (R14). -/
theorem Cause.exists_code {i : Nat} (h : i < 8) : ∃ c : Cause, c.code - 1 = i := by
  interval_cases i
  · exact ⟨.trip, rfl⟩
  · exact ⟨.journalHalt, rfl⟩
  · exact ⟨.insulationWarn, rfl⟩
  · exact ⟨.grantDue, rfl⟩
  · exact ⟨.orderDone, rfl⟩
  · exact ⟨.journalNew, rfl⟩
  · exact ⟨.planEvent, rfl⟩
  · exact ⟨.writeRefused, rfl⟩

/-- Bit n − 1 of the bitmap is cause n (R16). -/
theorem Attention.bitmap_bit (a : Attention) (c : Cause) :
    a.bitmap.getLsbD (c.code - 1) = a.has c := by
  have h1 := a.trip.toNat_le
  have h2 := a.journalHalt.toNat_le
  have h3 := a.insulationWarn.toNat_le
  have h4 := a.grantDue.toNat_le
  have h5 := a.orderDone.toNat_le
  have h6 := a.journalNew.toNat_le
  have h7 := a.planEvent.toNat_le
  have h8 := a.writeRefused.toNat_le
  have hbit : ∀ b : Bool, b = true ↔ b.toNat = 1 := by decide
  cases c <;>
    simp only [Attention.bitmap, BitVec.getLsbD_ofNat, Cause.code, Attention.has, Nat.testBit_eq_decide_div_mod_eq,
      bitIf_eq, Nat.reduceSub, Nat.reduceLT, decide_true, Bool.true_and, Nat.reducePow] <;>
    rw [Bool.eq_iff_iff, decide_eq_true_eq, hbit] <;>
    omega

/-- ATTN is asserted exactly while a pending cause is not masked (R15). -/
theorem Attention.attn_iff (a : Attention) : a.attn = true ↔
    ∃ c : Cause, a.has c = true ∧ a.mask.getLsbD (c.code - 1) = false := by
  have hzero : a.attn = true ↔ ∃ i < 8, (a.bitmap &&& ~~~a.mask).getLsbD i = true := by
    rw [Attention.attn, bne_iff_ne, Ne, not_iff_comm]
    simp only [not_exists, not_and, Bool.not_eq_true]
    exact ⟨fun h => BitVec.eq_of_getLsbD_eq fun i hi => by simpa using h i hi, fun h i _ => by simp [h]⟩
  rw [hzero]
  constructor
  · rintro ⟨i, hi, hbit⟩
    obtain ⟨c, rfl⟩ := Cause.exists_code hi
    rw [BitVec.getLsbD_and, a.bitmap_bit, BitVec.getLsbD_not] at hbit
    simp only [Bool.and_eq_true, Bool.not_eq_true', decide_eq_true_eq] at hbit
    exact ⟨c, hbit.1, hbit.2.2⟩
  · rintro ⟨c, hc, hmask⟩
    have := c.code_bounds
    refine ⟨c.code - 1, by omega, ?_⟩
    rw [BitVec.getLsbD_and, a.bitmap_bit, BitVec.getLsbD_not, hc, hmask]
    simp only [Bool.not_false, Bool.and_true, Bool.true_and, decide_eq_true_eq]
    omega

/-- The top cause is 0 or the code of a pending cause with none pending below it (R16). -/
theorem Attention.top_cases (a : Attention) :
    (a.top = 0 ∧ ∀ c, a.has c = false)
      ∨ ∃ c, a.top.toNat = c.code ∧ a.has c = true ∧ ∀ d : Cause, d.code < c.code → a.has d = false := by
  unfold Attention.top
  split_ifs with h1 h2 h3 h4 h5 h6 h7 h8
  · exact .inr ⟨.trip, rfl, h1, by intro d; cases d <;> simp_all [Cause.code, Attention.has]⟩
  · exact .inr ⟨.journalHalt, rfl, h2, by intro d; cases d <;> simp_all [Cause.code, Attention.has]⟩
  · exact .inr ⟨.insulationWarn, rfl, h3, by intro d; cases d <;> simp_all [Cause.code, Attention.has]⟩
  · exact .inr ⟨.grantDue, rfl, h4, by intro d; cases d <;> simp_all [Cause.code, Attention.has]⟩
  · exact .inr ⟨.orderDone, rfl, h5, by intro d; cases d <;> simp_all [Cause.code, Attention.has]⟩
  · exact .inr ⟨.journalNew, rfl, h6, by intro d; cases d <;> simp_all [Cause.code, Attention.has]⟩
  · exact .inr ⟨.planEvent, rfl, h7, by intro d; cases d <;> simp_all [Cause.code, Attention.has]⟩
  · exact .inr ⟨.writeRefused, rfl, h8, by intro d; cases d <;> simp_all [Cause.code, Attention.has]⟩
  · exact .inl ⟨rfl, by intro d; cases d <;> simp_all [Attention.has]⟩

theorem Attention.top_iff (a : Attention) (c : Cause) : a.top.toNat = c.code ↔
    a.has c = true ∧ ∀ d : Cause, d.code < c.code → a.has d = false := by
  have hc := c.code_bounds
  obtain ⟨hzero, hnone⟩ | ⟨c', htop, hhas, hbelow⟩ := a.top_cases
  · rw [hzero, hnone]
    simpa using fun h => by omega
  · rw [htop]
    refine ⟨fun h => Cause.code_inj h ▸ ⟨hhas, hbelow⟩, fun ⟨hc', hlow⟩ => ?_⟩
    obtain hlt | heq | hgt := lt_trichotomy c'.code c.code
    · rw [hlow c' hlt] at hhas
      cases hhas
    · exact heq
    · rw [hbelow c hgt] at hc'
      cases hc'

theorem Attention.top_eq_zero_iff (a : Attention) : a.top = 0 ↔ ∀ c : Cause, a.has c = false := by
  obtain ⟨hzero, hnone⟩ | ⟨c', htop, hhas, -⟩ := a.top_cases
  · exact ⟨fun _ => hnone, fun _ => hzero⟩
  · have hc := c'.code_bounds
    constructor
    · intro h
      rw [h] at htop
      simp at htop
      omega
    · intro h
      rw [h c'] at hhas
      cases hhas

/-- Settles O16, from the bit of each cause in the bitmap. -/
theorem causeReadMeansPendingSet : Obligations.CauseReadMeansPendingSet := fun s =>
  ⟨s.attn.bitmap_bit, s.attn.top_iff, s.attn.top_eq_zero_iff, s.attn.attn_iff⟩

/-! ## CAUSE and CONTROL writes (R17, R18) -/

theorem causeOfCode_eq_some (n : Nat) (c : Cause) : causeOfCode n = some c ↔ c.code = n := by
  constructor
  · intro h
    unfold causeOfCode at h
    split at h <;> cases h <;> rfl
  · rintro rfl
    cases c <;> rfl

theorem Cause.isLevel_iff (c : Cause) : c.isLevel = true ↔ c.code < 4 := by
  cases c <;> decide

/-- An acknowledged code takes its edge cause out of the pending set, and nothing else (R17). -/
theorem State.acknowledge_attn (s : State) (code : Byte) : (s.acknowledge code).attn.mask = s.attn.mask
    ∧ ∀ c : Cause, (s.acknowledge code).attn.has c
      = (s.attn.has c && !decide (c.code = code.toNat ∧ 4 ≤ code.toNat)) := by
  unfold State.acknowledge
  split
  next c hc =>
    have hcode := (causeOfCode_eq_some _ _).mp hc
    split
    next hlevel =>
      have := c.isLevel_iff.mp hlevel
      refine ⟨rfl, fun d => ?_⟩
      have hnot : ¬(d.code = code.toNat ∧ 4 ≤ code.toNat) := by omega
      simp [hnot]
    next hedge =>
      have := (not_congr c.isLevel_iff).mp hedge
      refine ⟨by simp, fun d => ?_⟩
      rw [State.clear_attn]
      by_cases hd : d = c
      · subst hd
        simp [hcode]
        omega
      · have hnot : ¬(d.code = code.toNat ∧ 4 ≤ code.toNat) := fun h =>
          hd (Cause.code_inj (h.1.trans hcode.symm))
        simp [Attention.has_put_other _ _ hd, hnot]
  next hnone =>
    refine ⟨rfl, fun d => ?_⟩
    have hnot : ¬(d.code = code.toNat ∧ 4 ≤ code.toNat) := fun h => by
      rw [(causeOfCode_eq_some _ d).mpr h.1] at hnone
      cases hnone
    simp [hnot]

theorem Link.entered_of_transfer {l : Link} {d : Dir} {t : Target} {n : Nat}
    (h : l.phase = .transfer d t n) : l.entered d t = some n := by
  simp [Link.entered, h]

/-- Settles O23, from what an acknowledged code takes out. -/
theorem causeAndControlWritesAct : Obligations.CauseAndControlWritesAct := by
  intro s b
  refine ⟨fun k hk => ?cause, fun hmask => ?mask, fun hmode => ?mode, fun k hlater => ?later⟩
  case cause =>
    obtain ⟨hmask, hhas⟩ := s.acknowledge_attn b
    refine ⟨(s.acknowledge b).received .cause (k + 1), ?_, ?_, ?_, hmask, hhas, Attention.attn_iff _⟩
    · simp only [exec, execCauseAcknowledge, hk]
    · simp [sameBut_iff, State.received]
    · simp [State.received]
  case mask => simp only [exec, execMaskWrite, hmask]; rfl
  case mode => simp only [exec, execLinkResetRequest, Link.entered_of_transfer hmode]
  case later =>
    simp only [exec, execMaskWrite, execLinkResetRequest, Link.entered_of_transfer hlater]
    exact ⟨trivial, trivial⟩

end Sys2Proof.Machine
end

/-! # The link port's transactions (O12, O14, O15, O17 to O19) -/

section
namespace Sys2Proof.Machine

/-! ## Framing (R3, R4) -/

theorem phaseAfterStart_of_decodeStart_some {b : Byte} {d : Dir} {t : Target}
    (h : decodeStart b = some (d, t)) : phaseAfterStart b = .transfer d t 0 := by
  simp [phaseAfterStart, h]

/-- Settles O12. -/
theorem transactionFrames : Obligations.TransactionFrames := by
  intro s
  refine ⟨fun hidle => execTransactionStart_of_idle hidle, fun hbusy => ⟨?_, ?_⟩, fun hidle => ?_,
    fun b d t hopened hstart => ?_⟩
  · simp only [exec, execTransactionStart, if_neg hbusy]
  · refine ⟨_, execTransactionEnd_of_not_idle hbusy, ?_, rfl, rfl, rfl, rfl⟩
    simp [sameBut_iff]
  · simp only [exec, execTransactionEnd, if_pos hidle]
  · rw [← phaseAfterStart_of_decodeStart_some hstart]
    exact execStartByteRejected_of_opened b hopened

/-! ## POINTER (R6) -/

theorem execPointerWrite_of_entered {s : State} {n : Nat} (bs : List Byte)
    (h : s.link.entered .write .pointer = some n) :
    exec (.pointerWrite bs) s = .next (s.withLink (s.link.pointerBytes n bs)) := by
  simp only [exec, execPointerWrite, h]

/-- Bytes after the second of a POINTER write are only counted. -/
theorem Link.pointerBytes_late (l : Link) (n : Nat) (bs : List Byte) : l.pointerBytes (n + 2) bs =
    { l with phase := .transfer .write .pointer (n + 2 + bs.length) } := by
  induction bs generalizing l n with
  | nil => rfl
  | cons b bs ih =>
    have hbyte : l.pointerByte (n + 2) b = { l with phase := .transfer .write .pointer (n + 3) } := rfl
    rw [Link.pointerBytes, hbyte, ih _ (n + 1), List.length_cons]
    simp only [Link.mk.injEq, LinkPhase.transfer.injEq, and_true, true_and]
    omega

/-- The second byte of a POINTER write sets the pointer. -/
theorem Link.pointerBytes_second (l : Link) {hi : Byte} (hheld : l.heldByte = some hi) (lo : Byte)
    (rest : List Byte) : l.pointerBytes 1 (lo :: rest) =
      { l with
        pointer := (half hi lo).setWidth 14
        heldByte := none
        phase := .transfer .write .pointer (rest.length + 2) } := by
  have hbyte : l.pointerByte 1 lo = { l with
      heldByte := none
      pointer := (half hi lo).setWidth 14
      phase := .transfer .write .pointer 2 } := by
    simp only [Link.pointerByte, hheld]
  rw [Link.pointerBytes, hbyte, Link.pointerBytes_late _ 0, Nat.zero_add, Nat.add_comm]

/-- Settles O14, byte by byte. -/
theorem pointerWriteSetsPointer : Obligations.PointerWriteSetsPointer := by
  intro s
  refine ⟨fun hnew => ⟨fun hi lo rest => ?_, fun hi => ?_, ?_⟩,
    fun hi hone hheld => ⟨fun lo rest => ?_, ?_⟩, fun n data hlate => ?_⟩
  · rw [execPointerWrite_of_entered _ hnew, Link.pointerBytes,
      Link.pointerBytes_second _ (hi := hi) rfl]
    rfl
  · rw [execPointerWrite_of_entered _ hnew]
    rfl
  · rw [execPointerWrite_of_entered _ hnew]
    rfl
  · rw [execPointerWrite_of_entered _ (Link.entered_of_transfer hone), Link.pointerBytes_second _ hheld]
  · refine ⟨_, execTransactionEnd_of_not_idle (by rw [hone]; nofun), rfl, rfl, rfl⟩
  · rw [execPointerWrite_of_entered _ (Link.entered_of_transfer hlate), Link.pointerBytes_late]

/-! ## Two-byte reads (R5, R7, R16, R18) -/

/-- After the turnaround byte the latched pair is delivered, and FFh after it. -/
theorem Link.pairRead_late (t : Target) (pair : List Byte) (l : Link) (j m : Nat) :
    Link.pairRead t pair l (j + 1) m = { l with
      phase := .transfer .read t (j + 1 + m)
      delivered := l.delivered ++ (List.range m).map fun i => l.readLatch.getD (j + i) 0xFF } := by
  induction m generalizing l j with
  | zero => simp [Link.pairRead]
  | succ m ih =>
    rw [Link.pairRead, ih]
    simp only [Link.pairByte, Link.deliver, List.range_succ_eq_map, List.map_cons, List.map_map,
      Function.comp_def, Nat.add_zero, List.append_assoc, List.cons_append, List.nil_append,
      Nat.succ_eq_add_one, Link.mk.injEq, LinkPhase.transfer.injEq, true_and]
    exact ⟨by omega, by simp only [Nat.add_assoc, Nat.add_comm 1]⟩

/-- A whole two-byte read (R5). -/
theorem Link.pairRead_whole (t : Target) (first second : Byte) (l : Link) (n : Nat) :
    Link.pairRead t [first, second] l 0 n = { l with
      phase := .transfer .read t n
      readLatch := (Link.pairRead t [first, second] l 0 n).readLatch
      delivered := l.delivered ++ ([0xFF, first, second] ++ List.replicate n 0xFF).take n } := by
  cases n with
  | zero => simp [Link.pairRead]
  | succ n =>
    have hstream : (List.range n).map (fun i => [first, second].getD (0 + i) 0xFF)
        = ([first, second] ++ List.replicate (n + 1) 0xFF).take n := by
      refine List.ext_getElem (by simp; omega) fun i h1 h2 => ?_
      match i with
      | 0 => simp
      | 1 => simp
      | i + 2 => simp
    rw [Link.pairRead, Link.pairRead_late]
    simp only [Link.pairByte, Link.deliver, hstream, Link.mk.injEq, LinkPhase.transfer.injEq, true_and]
    exact ⟨by omega, by simp⟩

theorem State.readPair_of_entered {s : State} {t : Target} {first second : Byte} {n : Nat}
    (h : s.link.entered .read t = some 0) :
    ∃ t', s.readPair t [first, second] n = t' ∧ SameBut [.link] s t'
      ∧ t'.link = { s.link with
          phase := .transfer .read t n
          readLatch := t'.link.readLatch
          delivered := s.link.delivered
            ++ ([0xFF, first, second] ++ List.replicate n 0xFF).take n } := by
  refine ⟨s.withLink (Link.pairRead t [first, second] s.link 0 n), by simp only [State.readPair, h], ?_,
    Link.pairRead_whole t first second s.link n⟩
  simp [sameBut_iff]

theorem Link.pointerPair_eq (l : Link) : l.pointerPair =
    [BitVec.ofNat 8 (l.pointer.toNat / 256), BitVec.ofNat 8 (l.pointer.toNat % 256)] := by
  have hlow : BitVec.ofNat 8 l.pointer.toNat = BitVec.ofNat 8 (l.pointer.toNat % 256) :=
    BitVec.eq_of_toNat_eq (by simp)
  rw [← hlow]
  simp [Link.pointerPair, beBytes]

/-- Settles O15: the pair is latched with the turnaround byte. -/
theorem twoByteReadsDeliver : Obligations.TwoByteReadsDeliver := by
  rintro s n c target first second (⟨rfl, rfl, rfl, rfl⟩ | ⟨rfl, rfl, rfl, rfl⟩ | ⟨rfl, rfl, rfl, rfl⟩) h
  · obtain ⟨t, ht, hframe, hlink⟩ := State.readPair_of_entered h
    refine ⟨t, ?_, hframe, hlink⟩
    rw [← ht, ← Link.pointerPair_eq]
    rfl
  · obtain ⟨t, ht, hframe, hlink⟩ := State.readPair_of_entered h
    exact ⟨t, congrArg Host.Outcome.next ht, hframe, hlink⟩
  · obtain ⟨t, ht, hframe, hlink⟩ := State.readPair_of_entered h
    exact ⟨t, congrArg Host.Outcome.next ht, hframe, hlink⟩

/-! ## WINDOW reads (R5, R9) -/

/-- From the second turnaround byte on, each byte delivers the memory the latch holds. -/
theorem Link.windowBytes_late (m : Memory) (l : Link) (k j : Nat)
    (hlatch : l.readLatch = [m.read l.pointer.toNat]) : Link.windowBytes m l (k + 2) j = { l with
      phase := .transfer .read .window (k + 2 + j)
      readLatch := (Link.windowBytes m l (k + 2) j).readLatch
      pointer := l.pointer + BitVec.ofNat 14 j
      delivered := l.delivered
        ++ (List.range j).map fun i => m.read ((l.pointer.toNat + i) % 16384) } := by
  induction j generalizing l k with
  | zero => simp [Link.windowBytes]
  | succ j ih =>
    have hnext := ih (Link.windowByte m l (k + 2)) (k + 1) rfl
    rw [Link.windowBytes, hnext]
    have hptr : (l.pointer + 1).toNat = (l.pointer.toNat + 1) % 16384 := by
      rw [BitVec.toNat_add]
      rfl
    simp only [Link.windowByte, Link.deliver, hlatch, hptr, List.range_succ_eq_map, List.map_cons,
      List.map_map, Function.comp_def, Nat.add_zero, List.append_assoc, List.cons_append,
      List.nil_append, Nat.succ_eq_add_one, Link.mk.injEq, LinkPhase.transfer.injEq, true_and]
    have hmod : ∀ i, ((l.pointer.toNat + 1) % 16384 + i) % 16384 = (l.pointer.toNat + (i + 1)) % 16384 := by
      omega
    have hsmall : l.pointer.toNat % 16384 = l.pointer.toNat := Nat.mod_eq_of_lt l.pointer.isLt
    simp only [hmod, hsmall, List.getD_cons_zero, and_true]
    exact ⟨by omega, by rw [BitVec.ofNat_add, BitVec.add_assoc, BitVec.add_comm (BitVec.ofNat 14 j)]; rfl⟩

/-- Settles O17: the latch is one byte ahead of the pointer. -/
theorem windowReadDelivers : Obligations.WindowReadDelivers := by
  intro s n h
  refine ⟨s.withLink (Link.windowBytes s.mem s.link 0 n), ?_, ?_, ?_⟩
  · simp only [exec, execWindowRead, h]
  · simp [sameBut_iff]
  · match n with
    | 0 => simp [Link.windowBytes]
    | 1 => simp [Link.windowBytes, Link.windowByte, Link.deliver]
    | n + 2 =>
      have hlate := Link.windowBytes_late s.mem
        (Link.windowByte s.mem (Link.windowByte s.mem s.link 0) 1) 0 n rfl
      rw [State.withLink_link, Link.windowBytes, Link.windowBytes, hlate]
      simp [Link.windowByte, Link.deliver]
      omega

/-! ## WINDOW writes (R8, R10) -/

theorem State.windowByte_of_entered {s : State} {k : Nat} (v : Byte)
    (h : s.link.entered .write .window = some k) :
    s.windowByte v = (s.windowEffect s.link.pointer.toNat v).advance k := by
  simp only [State.windowByte, h]

theorem Link.pointer_lt (l : Link) : l.pointer.toNat < Config.memSize := l.pointer.isLt

/-- A stored byte (R8). -/
theorem State.windowEffect_store {s : State} {a : Nat} (v : Byte) (hw : hostWritable a = true)
    (h6 : a ≠ 0x0006) (h7 : a ≠ 0x0007) (hd : a ≠ 0x000D) : s.windowEffect a v = s.storeByte a v := by
  simp [State.windowEffect, Config.hdrRd, Config.hdrRenewal, h6, h7, hd, hw]

theorem State.windowEffect_drop {s : State} {a : Nat} (v : Byte) (hw : hostWritable a = false) :
    s.windowEffect a v = s.dropByte := by
  have h6 : a ≠ Config.hdrRd := by rintro rfl; cases hw
  have h7 : a ≠ Config.hdrRd + 1 := by rintro rfl; cases hw
  have hd : a ≠ Config.hdrRenewal := by rintro rfl; cases hw
  simp [State.windowEffect, h6, h7, hd, hw]

theorem hostWritable_slotAddr (n : SlotNo) : hostWritable (slotAddr n) = true := by
  revert n
  decide

/-- Settles O18. -/
theorem windowStoresOrDrops : Obligations.WindowStoresOrDrops := by
  intro s v c k hrow hk hwf a
  rw [exec_windowRow hrow, State.windowByte_of_entered v hk]
  refine ⟨fun hw h6 h7 hd hslot => ?_, fun hw => ?_⟩
  · have hnone : slotAt a = none := by
      cases hs : slotAt a with
      | none => rfl
      | some n => exact absurd (slotAddr_of_slotAt hs) (hslot n)
    have heffect : s.windowEffect a v = s.poke a v := by
      rw [State.windowEffect_store v hw h6 h7 hd, State.storeByte, hnone]
    refine ⟨_, rfl, ?_, ?_, ?_, ?_⟩
    · rw [heffect]
      exact Memory.read_write_same _ hwf s.link.pointer_lt
    · rw [heffect]
      exact fun x hx => Memory.read_write_other _ _ hx
    · rw [heffect]
      rfl
    · rw [heffect]
      simp [sameBut_iff, State.advance]
  · refine ⟨_, rfl, ?_⟩
    rw [State.windowEffect_drop v hw]
    unfold State.dropByte
    split
    next hre =>
      refine ⟨by simp [sameBut_iff, State.advance], ?_, by simp [State.advance, hre], rfl, fun _ _ => rfl⟩
      rw [← hre]
      rfl
    next hre =>
      refine ⟨by simp [sameBut_iff, State.advance], rfl, ?_, by simp [State.advance], fun d hd => ?_⟩
      · simp [State.advance, hre, Attention.put]
      · exact Attention.has_put_other _ _ (by simpa using hd)

/-! ### The record of state bytes -/

theorem recordWrite_lookup_same (n : SlotNo) (b : Byte) (l : List (SlotNo × Byte)) :
    (recordWrite n b l).lookup n = some b := by
  induction l with
  | nil => simp [recordWrite]
  | cons e l ih =>
    obtain ⟨k, v⟩ := e
    unfold recordWrite
    split
    · simp
    · split
      · simp
      next hne => simp [List.lookup_cons, beq_false_of_ne hne, ih]

theorem recordWrite_lookup_other (n : SlotNo) (b : Byte) (l : List (SlotNo × Byte)) {m : SlotNo}
    (hm : m ≠ n) : (recordWrite n b l).lookup m = l.lookup m := by
  have hfalse : (m == n) = false := beq_false_of_ne hm
  induction l with
  | nil => simp [recordWrite, List.lookup_cons, hfalse]
  | cons e l ih =>
    obtain ⟨k, v⟩ := e
    unfold recordWrite
    split
    · simp [List.lookup_cons, hfalse]
    · split
      next heq => simp [List.lookup_cons, ← heq, hfalse]
      next => simp [List.lookup_cons, ih]

theorem recordWrite_ascending (n : SlotNo) (b : Byte) (l : List (SlotNo × Byte))
    (h : l.Pairwise fun x y => x.1 < y.1) : (recordWrite n b l).Pairwise fun x y => x.1 < y.1 := by
  induction l with
  | nil => simp [recordWrite]
  | cons e l ih =>
    obtain ⟨k, v⟩ := e
    obtain ⟨hk, hl⟩ := List.pairwise_cons.mp h
    unfold recordWrite
    split
    next hlt =>
      refine List.pairwise_cons.mpr ⟨fun x hx => ?_, h⟩
      obtain rfl | hx := List.mem_cons.mp hx
      · exact hlt
      · exact hlt.trans (hk x hx)
    next hge =>
      split
      next heq => subst heq; exact List.pairwise_cons.mpr ⟨hk, hl⟩
      next hne =>
        refine List.pairwise_cons.mpr ⟨fun x hx => ?_, ih hl⟩
        have hx1 : x.1 ∈ (recordWrite n b l).map Prod.fst := List.mem_map_of_mem hx
        obtain hxn | hxl := (mem_recordWrite n b l x.1).mp hx1
        · rw [hxn]
          exact lt_of_le_of_ne (not_lt.mp hge) (Ne.symm hne)
        · obtain ⟨y, hy, hyx⟩ := List.mem_map.mp hxl
          exact hyx ▸ hk y hy

/-- Settles O19. -/
theorem slotStateWriteRecorded : Obligations.SlotStateWriteRecorded := by
  intro s v c k n hrow hk hwf hptr hasc
  have hb := slotAddr_bounds n
  have heffect : s.windowEffect s.link.pointer.toNat v = (s.poke (slotAddr n) v).recordState n v := by
    rw [hptr, State.windowEffect_store v (hostWritable_slotAddr n) (by omega) (by omega) (by omega),
      State.storeByte, slotAt_slotAddr]
  rw [exec_windowRow hrow, State.windowByte_of_entered v hk, heffect]
  refine ⟨_, rfl, ?_, ?_, recordWrite_lookup_same _ _ _, fun m hm => recordWrite_lookup_other _ _ _ hm,
    recordWrite_ascending _ _ _ hasc, rfl, ?_⟩
  · exact Memory.read_write_same _ hwf (by simp only [Config.memSize]; omega)
  · exact fun x hx => Memory.read_write_other _ _ hx
  · simp [sameBut_iff, State.advance]

end Sys2Proof.Machine
end

/-! # Every order is read back from its parameter bytes (O11) -/

section
namespace Sys2Proof.Machine

/-! ## Fields of two and four bytes -/

theorem ofNat_div_toNat {w : Nat} (x : BitVec w) (k : Nat) :
    BitVec.ofNat 8 (x.toNat / 2 ^ k) = x.extractLsb' k 8 := by
  refine BitVec.eq_of_toNat_eq ?_
  simp [BitVec.extractLsb'_toNat, Nat.shiftRight_eq_div_pow]

theorem beBytes_half (x : Half) : beBytes 2 x.toNat = [x.extractLsb' 8 8, x.extractLsb' 0 8] := by
  simp only [← ofNat_div_toNat]
  rfl

theorem beBytes_word (x : Word) : beBytes 4 x.toNat =
    [x.extractLsb' 24 8, x.extractLsb' 16 8, x.extractLsb' 8 8, x.extractLsb' 0 8] := by
  simp only [← ofNat_div_toNat]
  rfl

theorem half_bytes (x : Half) : half (x.extractLsb' 8 8) (x.extractLsb' 0 8) = x := by
  refine BitVec.eq_of_getLsbD_eq fun i hi => ?_
  rw [half, BitVec.getLsbD_append]
  split
  next h => simp [h]
  next h =>
    rw [BitVec.getLsbD_extractLsb', show 8 + (i - 8) = i by omega]
    simp
    omega

theorem word_bytes (x : Word) : word (x.extractLsb' 24 8) (x.extractLsb' 16 8) (x.extractLsb' 8 8)
    (x.extractLsb' 0 8) = x := by
  refine BitVec.eq_of_getLsbD_eq fun i hi => ?_
  simp only [word, BitVec.getLsbD_append, BitVec.getLsbD_extractLsb']
  split
  next h => simp [h]
  next h =>
    split
    next h' =>
      rw [show 8 + (i - 8) = i by omega]
      simp [h']
    next h' =>
      split
      next h'' =>
        rw [show 16 + (i - 8 - 8) = i by omega]
        simp [h'']
      next h'' =>
        rw [show 24 + (i - 8 - 8 - 8) = i by omega]
        simp
        omega

/-- Settles O11: a field's bytes spell the field, and each order finds its fields where its layout has
them. -/
theorem orderEncodingRoundTrips : Obligations.OrderEncodingRoundTrips := by
  intro o ho
  cases o with
  | unknown code => exact absurd rfl ho
  | withdraw _ | clearTrip | checkInsulation | setJournalLevels _ _ => rfl
  | _ =>
    simp only [orderParams, beBytes_half, beBytes_word]
    simp [decodeOrder, orderCode, param32, param16, param, padTo, half_bytes, word_bytes]

end Sys2Proof.Machine
end

/-! # Orders: posted, taken, ended, running -/

section
namespace Sys2Proof.Machine

/-! ## Reading a run of bytes -/

theorem Memory.readAll_eq_replicate {m : Memory} {a n : Nat}
    (h : ∀ c, a ≤ c → c < a + n → m.read c = 0) : m.readAll a n = List.replicate n 0 := by
  induction n generalizing a with
  | zero => rfl
  | succ n ih =>
    rw [Memory.readAll, List.replicate_succ, h a le_rfl (by omega),
      ih fun c h1 h2 => h c (by omega) (by omega)]

theorem readsSameBut_refl (stored : Nat → Prop) (s : State) : ReadsSameBut stored s s :=
  fun _ _ => rfl

theorem ReadsSameBut.mono {p q : Nat → Prop} {s t : State} (h : ReadsSameBut p s t)
    (hpq : ∀ a, p a → q a) : ReadsSameBut q s t :=
  fun a ha => h a fun hp => ha (hpq a hp)

theorem ReadsSameBut.trans {p : Nat → Prop} {s t u : State} (hst : ReadsSameBut p s t)
    (htu : ReadsSameBut p t u) : ReadsSameBut p s u :=
  fun a ha => (htu a ha).trans (hst a ha)

/-! ## An accepted post (R25) -/

theorem State.copyPost_mem (s : State) (n : SlotNo) (p : Posted) :
    (s.copyPost n p).mem = (s.mem.writeAll (slotAddr n + 32) (List.replicate 32 0)).write (slotAddr n)
      0x01 := rfl

@[simp] theorem State.copyPost_slot_same (s : State) (n : SlotNo) (p : Posted) :
    (s.copyPost n p).slot n = ⟨.posted, some p⟩ := (SlotMove.copyPost s n p).here

theorem State.copyPost_slot_other (s : State) {n k : SlotNo} (p : Posted) (h : k ≠ n) :
    (s.copyPost n p).slot k = s.slot k := (SlotMove.copyPost s n p).other k h

@[simp] theorem State.copyPost_queues (s : State) (n : SlotNo) (p : Posted) :
    (s.copyPost n p).orders.queues = s.orders.queues := rfl

@[simp] theorem State.copyPost_notices (s : State) (n : SlotNo) (p : Posted) :
    (s.copyPost n p).orders.notices = s.orders.notices := rfl

theorem State.copyPost_read_other (s : State) (n : SlotNo) (p : Posted) {a : Nat}
    (h : ¬engineBytes n a) : (s.copyPost n p).mem.read a = s.mem.read a := by
  simp only [engineBytes, not_or, not_and] at h
  rw [State.copyPost_mem, Memory.read_write_other _ _ h.1,
    Memory.read_writeAll_other _ _ _ (by simp only [List.length_replicate]; omega)]

theorem State.copyPost_result (s : State) (n : SlotNo) (p : Posted) (h : s.mem.wf = true) :
    (s.copyPost n p).mem.readAll (slotAddr n + 32) 32 = List.replicate 32 0 := by
  have hb := slotAddr_bounds n
  refine Memory.readAll_eq_replicate fun c h1 h2 => ?_
  rw [State.copyPost_mem, Memory.read_write_other _ _ (by omega)]
  exact Memory.read_writeAll_zeros h (by simp only [Config.memSize]; omega) h1 h2

theorem State.setSlotState_read_other (s : State) (n : SlotNo) (st : SlotState) {a : Nat}
    (h : ¬engineBytes n a) : (s.setSlotState n st).mem.read a = s.mem.read a := by
  rw [State.setSlotState_mem]
  exact Memory.read_write_other _ _ fun ha => h (.inl ha)

/-! ## An order taken at once (R24, R29) -/

/-- The row of an order in a FREE slot of a free block with an empty queue takes the order. -/
theorem exec_takesAtOnce {s : State} {n : SlotNo} {tag : Half} {o : Order} {c : Instr} {b : Block}
    (h : TakesAtOnce s n b) (hc : orderCommand n tag o = some c) (hb : orderBlock o = some b) :
    exec c s = .next ((s.copyPost n ⟨tag, o⟩).takeOrder n o) := by
  obtain ⟨hfree, hocc, hqueue, -⟩ := h
  have hocc' : (s.copyPost n ⟨tag, o⟩).occupied b = false := by
    rw [← hocc]
    cases b <;> simp [State.occupied]
  have hqueue' : (s.copyPost n ⟨tag, o⟩).queue b = [] := hqueue
  rw [exec_orderCommand hc, State.post, if_pos hfree, State.acceptPost, State.routeOrder]
  simp [hb, hocc', hqueue']

/-- A state after the effects of an order that touched neither memory nor the order engine. -/
structure AfterCopy (s : State) (n : SlotNo) (p : Posted) (v : State) : Prop where
  mem : v.mem = (s.copyPost n p).mem := by simp
  orders : v.orders = (s.copyPost n p).orders := by simp

theorem ended_finish {v : State} {n : SlotNo} {p : Posted} (e : Ending)
    (hslot : (v.slot n).posted = some p) (hwf : v.mem.wf = true) : Ended (v.finish n e) n p e := by
  have htag : (v.slot n).tag = p.tag := by simp [Slot.tag, hslot]
  refine ⟨?_, v.finish_state n e hwf, ?_, by simp [Attention.put]⟩
  · rw [State.slot_finish_same]
    simp [hslot]
  · rw [v.finish_result n e hwf, htag]

theorem otherCauses_finish {s v : State} (n : SlotNo) (e : Ending) (h : v.attn = s.attn) :
    OtherCauses [.orderDone] s (v.finish n e) := by
  rw [OtherCauses, State.finish_attn, h]
  exact ⟨Attention.put_mask _ _ _, fun c hc => Attention.has_put_other _ _ (by simpa using hc)⟩

namespace AfterCopy

variable {s v : State} {n : SlotNo} {p : Posted}

theorem slot (h : AfterCopy s n p v) : v.slot n = ⟨.posted, some p⟩ := by
  rw [State.slot_congr h.orders, State.copyPost_slot_same]

theorem wf (h : AfterCopy s n p v) (hs : s.mem.wf = true) : v.mem.wf = true := by
  rw [h.mem]
  exact State.copyPost_wf s n p hs

theorem ended (h : AfterCopy s n p v) (hs : s.mem.wf = true) (e : Ending) :
    Ended (v.finish n e) n p e :=
  ended_finish e (by rw [h.slot]) (h.wf hs)

theorem reads (h : AfterCopy s n p v) (e : Ending) :
    ReadsSameBut (engineBytes n) s (v.finish n e) := fun a ha => by
  rw [v.finish_read_other n e ha, h.mem, State.copyPost_read_other s n p ha]

theorem otherSlots (h : AfterCopy s n p v) (e : Ending) : OtherSlots n s (v.finish n e) := by
  refine ⟨fun k hk => ?_, ?_, ?_⟩
  · rw [State.slot_finish_other _ _ hk, State.slot_congr h.orders, State.copyPost_slot_other _ _ hk]
  · rw [State.finish_queues, h.orders, State.copyPost_queues]
  · show v.orders.notices = _
    rw [h.orders, State.copyPost_notices]

theorem sameBut {changed : List Part} (e : Ending)
    (hrest : SameBut ([.mem, .orders, .attn] ++ changed) s v) :
    SameBut ([.mem, .orders, .attn] ++ changed) s (v.finish n e) := by
  have hrest' := sameBut_iff.mp hrest
  refine sameBut_iff.mpr ?_
  simp only [State.finish_pins, State.finish_link, State.finish_metering, State.finish_billing,
    State.finish_power, State.finish_heating, State.finish_insulation, State.finish_relay,
    State.finish_trips, State.finish_statusSeq, State.finish_pending]
  obtain ⟨-, h2, h3, -, -, h6⟩ := hrest'
  exact ⟨fun hn => absurd (by simp) hn, h2, h3, fun hn => absurd (by simp) hn,
    fun hn => absurd (by simp) hn, h6⟩

theorem frame {changed : List Part} (h : AfterCopy s n p v) (e : Ending) (hattn : v.attn = s.attn)
    (hrest : SameBut ([.mem, .orders, .attn] ++ changed) s v) :
    OrderFrame n changed s (v.finish n e) :=
  ⟨h.reads e, h.otherSlots e, otherCauses_finish n e hattn, sameBut e hrest⟩

end AfterCopy

theorem afterCopy_self (s : State) (n : SlotNo) (p : Posted) : AfterCopy s n p (s.copyPost n p) := {}

/-- A refused order leaves its result and nothing else (R30, R36). -/
theorem refuses_of_finish {c : Instr} {s : State} {n : SlotNo} {p : Posted} {o : OrderOutcome}
    (hwf : s.mem.wf = true) (h : exec c s = .next ((s.copyPost n p).finish n (refusal o))) :
    Refuses c s n p o :=
  ⟨_, h, (afterCopy_self s n p).ended hwf _,
    (afterCopy_self s n p).frame _ (by simp) (by simp [sameBut_iff])⟩

/-- An order that begins to run (R31, R33). -/
theorem runs_of {s v : State} {n : SlotNo} {p : Posted} (hwf : s.mem.wf = true)
    (hmem : v.mem = ((s.copyPost n p).setSlotState n .running).mem)
    (horders : v.orders = ((s.copyPost n p).setSlotState n .running).orders) :
    Runs v n p ∧ ReadsSameBut (engineBytes n) s v ∧ OtherSlots n s v := by
  have hb := slotAddr_bounds n
  refine ⟨⟨?_, ?_, ?_⟩, fun a ha => ?_, fun k hk => ?_, ?_, ?_⟩
  · rw [State.slot_congr horders, State.slot_setSlotState_same, State.copyPost_slot_same]
  · rw [hmem, State.setSlotState_mem]
    exact Memory.read_write_same _ (State.copyPost_wf s n p hwf) (by simp only [Config.memSize]; omega)
  · rw [hmem, State.setSlotState_mem, Memory.readAll_write_other _ _ _ _ _ (.inr (by omega)),
      State.copyPost_result s n p hwf]
  · rw [hmem, State.setSlotState_read_other _ _ _ ha, State.copyPost_read_other s n p ha]
  · rw [State.slot_congr horders, State.slot_setSlotState_other _ _ hk, State.copyPost_slot_other _ _ hk]
  · rw [horders]; rfl
  · rw [horders]; rfl

/-! ## Held and waiting posts (O26) -/

/-- A held write shows the slot's state again, with WRITE_REFUSED (R27). -/
theorem holdWrite_effect (s : State) (n : SlotNo) (hwf : s.mem.wf = true) :
    (s.holdWrite n).mem.read (slotAddr n) = (s.slot n).state.code
      ∧ ReadsSameBut (fun a => a = slotAddr n) s (s.holdWrite n)
      ∧ (s.holdWrite n).attn.writeRefused = true ∧ OtherCauses [.writeRefused] s (s.holdWrite n)
      ∧ SameBut [.mem, .attn] s (s.holdWrite n) := by
  refine ⟨(SlotMove.holdWrite s n).code hwf, fun a ha => Memory.read_write_other _ _ ha, rfl,
    ⟨rfl, fun c hc => ?_⟩, by simp [sameBut_iff]⟩
  exact Attention.has_put_other _ _ (by simpa using hc)

/-- Settles O26. -/
theorem postWaitsOrIsHeld : Obligations.PostWaitsOrIsHeld := by
  intro s n tag o c hc hwf
  rw [exec_orderCommand hc]
  refine ⟨fun hbusy => ⟨s.holdWrite n, by rw [State.post, if_neg hbusy], holdWrite_effect s n hwf⟩,
    fun b hfree hb hwaits => ?_⟩
  have hroute : s.post n tag o = (s.copyPost n ⟨tag, o⟩).enqueue b n := by
    have hocc : (s.copyPost n ⟨tag, o⟩).occupied b = s.occupied b := by
      cases b <;> simp [State.occupied]
    have hqueue : (s.copyPost n ⟨tag, o⟩).queue b = s.queue b := rfl
    rw [State.post, if_pos hfree, State.acceptPost, State.routeOrder]
    simp only [hb, hocc, hqueue]
    rw [if_pos (by simpa using hwaits)]
  have m := SlotMove.enqueue (s.copyPost n ⟨tag, o⟩) b n
  rw [State.copyPost_slot_same] at m
  have hcopied := State.copyPost_wf s n ⟨tag, o⟩ hwf
  have hb' := slotAddr_bounds n
  refine ⟨_, congrArg _ hroute, m.here, m.code hcopied, ?_, ?_, fun b' hne => ?_, fun k hk => ?_, rfl,
    fun a ha => ?_, by simp [sameBut_iff]⟩
  · rw [State.enqueue, State.setSlotState_mem, Memory.readAll_write_other _ _ _ _ _ (.inr (by omega))]
    exact State.copyPost_result s n ⟨tag, o⟩ hwf
  · rw [State.enqueue, State.queue_congr (State.setSlotState_queues _ _ _), State.queue_setQueue_same]
    rfl
  · rw [State.enqueue, State.queue_congr (State.setSlotState_queues _ _ _),
      State.queue_setQueue_other _ _ hne]
    rfl
  · rw [m.other k hk, State.copyPost_slot_other _ _ hk]
  · rw [State.enqueue, State.setSlotState_read_other _ _ _ ha]
    exact State.copyPost_read_other s n _ ha

/-! ## Notices (O25) -/

theorem orderCommand_eq_none_iff {n : SlotNo} {tag : Half} {o : Order} :
    orderCommand n tag o = none ↔ orderBlock o = none := by
  cases o <;> simp [orderCommand, orderBlock]

/-- Settles O25: a notice of a FREE slot is the row of its order, or ends for an unknown code. -/
theorem noticeJudged : Obligations.NoticeJudged := by
  intro s n v rest hnotices hwf s1 p
  have hnotice : exec .slotStateNotice s = .next (s1.judge n v) := by
    simp only [exec, execSlotStateNotice, State.takeNotice, hnotices, s1]
  have hslot : s1.slot n = s.slot n := rfl
  rw [hnotice]
  refine ⟨fun hfree hv => ⟨fun c hc => ?_, fun hnone => ?_⟩, fun hdone hv => ?_, fun hnot1 hnot2 => ?_⟩
  · rw [exec_orderCommand hc, State.judge, hslot, hfree, State.post, hslot, if_pos hfree]
    exact congrArg _ (if_pos hv)
  · have hend : s1.judge n v = (s1.copyPost n p).finish n (refusal .unknownOrder) := by
      have hblock := orderCommand_eq_none_iff.mp hnone
      rw [State.judge, hslot, hfree]
      refine (if_pos hv).trans ?_
      show (s1.copyPost n p).routeOrder n p.order = _
      rw [State.routeOrder, hblock]
    exact ⟨_, congrArg _ hend, (afterCopy_self s1 n p).ended hwf _,
      (afterCopy_self s1 n p).frame _ (by simp) (by simp [sameBut_iff])⟩
  · have hend : s1.judge n v = s1.acceptFree n := by
      rw [State.judge, hslot, hdone]
      exact if_pos hv
    have m := SlotMove.acceptFree s1 n
    refine ⟨_, congrArg _ hend, m.here, m.code hwf, fun a ha => Memory.read_write_other _ _ ha,
      ⟨m.other, rfl, rfl⟩, by simp [sameBut_iff]⟩
  · have hend : s1.judge n v = s1.holdWrite n := by
      rw [State.judge, hslot]
      cases hst : (s.slot n).state with
      | free => exact if_neg fun hv => hnot1 ⟨hst, hv⟩
      | done => exact if_neg fun hv => hnot2 ⟨hst, hv⟩
      | _ => rfl
    obtain ⟨hcode, hreads, hrefused, hothers, hsame⟩ := holdWrite_effect s1 n hwf
    refine ⟨_, congrArg _ hend, hcode, hreads, by simp, hrefused, hothers, ?_⟩
    simp [sameBut_iff, s1]

end Sys2Proof.Machine
end

/-! # Grants, gates and drives -/

section
namespace Sys2Proof.Machine

/-! ## A failing gate (R112) -/

/-- A gate failure moves the drives and nothing else. -/
theorem drivesOnly_failGate (s : State) : DrivesOnly s s.failGate := by
  simp only [DrivesOnly, State.failGate_power, Power.gateCharge, State.failGate_relay_state, true_and,
    and_true]
  simp [State.failGate]

theorem sameBut_failGate (s : State) : SameBut [.power, .relay, .insulation] s s.failGate := by
  simp [sameBut_iff]

/-- A new grant, fallback, period or keepalive in force, with the grant gate's failure (R109, R112). -/
def State.regrant (s : State) (p : Power) : State :=
  (s.withPower p).failGateIf (decide (0 < s.power.effGrant)) (decide (0 < p.effGrant))

theorem State.setKeepalive_eq (s : State) (k : Keepalive) :
    s.setKeepalive k = s.regrant { s.power with keepalive := k } := rfl

theorem State.applyGrant_eq (s : State) (g f p : Nat) : s.applyGrant g f p =
    s.regrant { s.power with
      grant := g, fallback := f, period := p,
      keepalive := if s.billing.session.isSome then .alive 0 false else .stopped } := rfl

theorem State.regrant_of_kept {s : State} {p : Power} (h : s.power.effGrant = 0 ∨ 0 < p.effGrant) :
    s.regrant p = s.withPower p := by
  unfold State.regrant State.failGateIf
  rw [if_neg]
  simp only [Bool.and_eq_true, decide_eq_true_eq, Bool.not_eq_true', decide_eq_false_iff_not]
  omega

theorem State.regrant_of_failed {s : State} {p : Power} (hs : 0 < s.power.effGrant)
    (hp : p.effGrant = 0) : s.regrant p = (s.withPower p).failGate := by
  unfold State.regrant State.failGateIf
  rw [if_pos]
  simp [hs, hp]

/-- Whichever way the gate goes, the settings are those put in force. -/
theorem State.regrant_power (s : State) (p : Power) :
    (s.regrant p).power.grant = p.grant ∧ (s.regrant p).power.fallback = p.fallback
      ∧ (s.regrant p).power.period = p.period ∧ (s.regrant p).power.keepalive = p.keepalive
      ∧ (s.regrant p).power.supplyLow = p.supplyLow := by
  by_cases h : s.power.effGrant = 0 ∨ 0 < p.effGrant
  · rw [State.regrant_of_kept h]
    exact ⟨rfl, rfl, rfl, rfl, rfl⟩
  · rw [State.regrant_of_failed (by omega) (by omega), State.failGate_power]
    exact ⟨rfl, rfl, rfl, rfl, rfl⟩

theorem State.regrant_effGrant (s : State) (p : Power) : (s.regrant p).power.effGrant = p.effGrant := by
  obtain ⟨hg, hf, -, hk, hl⟩ := s.regrant_power p
  simp only [Power.effGrant, hg, hf, hk, hl]

theorem sameBut_regrant (s : State) (p : Power) :
    SameBut [.power, .relay, .insulation] s (s.regrant p) := by
  simp [sameBut_iff, State.regrant]

/-! ## SET GRANT (O28) -/

/-- Byte 33 says CLAMPED unless every value is the one asked for (R36). -/
theorem clampedNote_eq {c : Bool} {asked : Prop} [Decidable asked] (h : c = true ↔ ¬asked) :
    clampedNote c = if asked then 0x00 else 0x01 := by
  by_cases ha : asked
  · rw [if_pos ha, show c = false by simpa [ha] using h]
    rfl
  · rw [if_neg ha, h.mpr ha]
    rfl

theorem beBytes_one (n : Nat) : beBytes 1 n = [BitVec.ofNat 8 n] := by simp [beBytes]

/-- Settles O28. -/
theorem setGrantSets : Obligations.SetGrantSets := by
  intro s n tag grant fallback period h g f p alive eff set
  have hwf := h.2.2.2
  let own : Posted := ⟨tag, .setGrant grant fallback period⟩
  let u := s.copyPost n own
  have hexec := exec_takesAtOnce h (tag := tag) (o := .setGrant grant fallback period) rfl rfl
  have heff : set.effGrant = eff := by
    simp only [Power.effGrant, set, eff]
    cases alive <;> rfl
  have hcopy : AfterCopy s n own (u.regrant set) :=
    { mem := by simp [State.regrant, u], orders := by simp [State.regrant, u] }
  have hattn : (u.regrant set).attn = s.attn := by simp [State.regrant, u]
  have hsame : SameBut [.mem, .orders, .attn, .power, .relay, .insulation] s (u.regrant set) := by
    simp [sameBut_iff, State.regrant, u]
  obtain ⟨hgrant, hfallback, hperiod, hkeep, -⟩ := u.regrant_power set
  let e := (u.takeSetGrant grant fallback period).1
  have hend : e = ⟨.ok, if g = grant.toNat ∧ f = fallback.toNat ∧ p = period.toNat then 0x00 else 0x01,
      beBytes 2 g ++ beBytes 2 f ++ beBytes 1 p ++ [if alive then 0x01 else 0x00]
        ++ beBytes 2 eff⟩ := by
    have hnote := clampedNote_eq (c := decide (g ≠ grant.toNat) || decide (f ≠ fallback.toNat)
      || decide (p ≠ period.toNat)) (asked := g = grant.toNat ∧ f = fallback.toNat ∧ p = period.toNat)
      (by simp only [Bool.or_eq_true, decide_eq_true_eq]; tauto)
    have hcode : beBytes 1 (u.regrant set).power.keepalive.code = [if alive then 0x01 else 0x00] := by
      rw [hkeep, beBytes_one]
      simp only [set]
      cases alive <;> rfl
    calc e = ⟨.ok, clampedNote (decide (g ≠ grant.toNat) || decide (f ≠ fallback.toNat)
          || decide (p ≠ period.toNat)), beBytes 2 g ++ beBytes 2 f ++ beBytes 1 p
          ++ beBytes 1 (u.regrant set).power.keepalive.code
          ++ beBytes 2 (u.regrant set).power.effGrant⟩ := rfl
      _ = _ := by rw [hnote, hcode, State.regrant_effGrant, heff]
  refine ⟨(u.regrant set).finish n e, hexec.trans rfl, ?_, hcopy.frame e hattn hsame, ?_, ?_, ?_, ?_,
    fun hkept => ?_, fun hheld hfails => ?_⟩
  · rw [← hend]
    exact hcopy.ended hwf e
  · rw [State.finish_power, hgrant]
  · rw [State.finish_power, hfallback]
  · rw [State.finish_power, hperiod]
  · rw [State.finish_power, hkeep]
  · have hv : u.regrant set = u.withPower set := State.regrant_of_kept (by rw [heff]; exact hkept)
    refine ⟨by rw [State.finish_power, hv]; rfl, hcopy.frame e hattn ?_⟩
    rw [hv]
    simp [sameBut_iff, u]
  · have hv : u.regrant set = (u.withPower set).failGate :=
      State.regrant_of_failed hheld (heff.trans hfails)
    rw [State.finish_power, State.finish_relay, hv, State.failGate_power, State.failGate_relay_state]
    exact ⟨rfl, rfl, rfl, rfl⟩

/-! ## The renewal byte (O22) -/

/-- The keepalive after a renewal (R107). -/
def Keepalive.renewed (k : Keepalive) : Keepalive := if k = .stopped then .stopped else .alive 0 false

/-- A renewal: GRANT_DUE leaves in every state, and the renewed keepalive is in force (R107). -/
theorem State.renew_eq (s : State) : s.renew =
    (s.clear .grantDue).regrant { s.power with keepalive := s.power.keepalive.renewed } := by
  unfold State.renew
  cases h : s.power.keepalive with
  | stopped =>
    have hp : ({ s.power with keepalive := Keepalive.stopped.renewed } : Power) = s.power := by
      rw [Keepalive.renewed, if_pos rfl, ← h]
    rw [hp, State.regrant_of_kept (by simp only [State.clear_power]; omega)]
    rfl
  | _ => rfl

/-- Settles O22. -/
theorem renewalRestartsKeepalive : Obligations.RenewalRestartsKeepalive := by
  intro s v c k hrow hentered hptr hwf next p
  let u := (s.poke 0x000D v).clear .grantDue
  have hrenew : exec c s = .next ((u.regrant p).advance k) := by
    rw [exec_windowRow hrow, State.windowByte_of_entered v hentered, hptr]
    exact congrArg (fun x => Host.Outcome.next (State.advance x k)) (State.renew_eq (s.poke 0x000D v))
  have hattn : (u.regrant p).attn = s.attn.put .grantDue false := by simp [State.regrant, u]
  have hlink : (u.regrant p).link = s.link := by simp [State.regrant, u]
  have hmem : (u.regrant p).mem = s.mem.write 0x000D v := by simp [State.regrant, u]
  obtain ⟨hgrant, hfallback, hperiod, hkeep, -⟩ := u.regrant_power p
  refine ⟨_, hrenew, ?_, fun a ha => ?_, ?_, ?_, ⟨?_, fun d hd => ?_⟩, hkeep, hgrant, hfallback, hperiod,
    ?_, fun hkept => ?_, fun hheld hfails => ?_⟩
  · rw [State.advance_mem, hmem]
    exact Memory.read_write_same _ hwf (by decide)
  · rw [State.advance_mem, hmem]
    exact Memory.read_write_other _ _ ha
  · rw [State.advance, State.withLink_link, hlink]
    rfl
  · rw [State.advance_attn, hattn]
    rfl
  · rw [State.advance_attn, hattn]
    rfl
  · rw [State.advance_attn, hattn]
    exact Attention.has_put_other _ _ (by simpa using hd)
  · simp [sameBut_iff, State.regrant, u]
  · rw [State.regrant_of_kept (s := u) hkept]
    exact ⟨rfl, by simp [sameBut_iff, u]⟩
  · rw [State.regrant_of_failed (s := u) hheld hfails]
    have hfall := drivesOnly_failGate (u.withPower p)
    refine ⟨?_, ?_, hfall⟩ <;> simp [State.failGate_power]

/-! ## SET POWER STAGE (O29) -/

theorem State.applyStage_power (s : State) (g : Stage) : (s.applyStage g).power =
    { s.power with stage := g, iDem := min s.power.iDem g.stageMax } := by
  unfold State.applyStage
  split <;> rename_i h
  · rw [State.setDemand_power, Nat.min_eq_right h.le]
    rfl
  · rw [Nat.min_eq_left (not_lt.mp h)]
    rfl

theorem State.applyStage_of_le {s : State} {g : Stage} (h : s.power.iDem ≤ g.stageMax) :
    s.applyStage g = s.withPower { s.power with stage := g } := by
  rw [State.applyStage, if_neg (not_lt.mpr h)]

/-- Settles O29. -/
theorem setPowerStageSets : Obligations.SetPowerStageSets := by
  intro s n tag eta stageMax sUp rH heaterMax h g asked
  have hwf := h.2.2.2
  let own : Posted := ⟨tag, .setPowerStage eta stageMax sUp rH heaterMax⟩
  let v := (s.copyPost n own).applyStage g
  let e := (s.takeSetPowerStage eta stageMax sUp rH heaterMax).1
  have hend : e = ⟨.ok, if g = asked then 0x00 else 0x01,
      beBytes 2 g.eta ++ beBytes 2 g.stageMax ++ beBytes 1 g.sUp ++ beBytes 2 g.rH
        ++ beBytes 2 g.heaterMax⟩ := by
    rw [← clampedNote_eq (c := decide (g ≠ asked)) decide_eq_true_iff]
    rfl
  have hcopy : AfterCopy s n own v := { mem := by simp [v], orders := by simp [v] }
  have hsame : SameBut [.mem, .orders, .attn, .power, .insulation] s v := by
    simp [sameBut_iff, v]
  have hexec := exec_takesAtOnce h (tag := tag)
    (o := .setPowerStage eta stageMax sUp rH heaterMax) rfl rfl
  refine ⟨v.finish n e, hexec.trans rfl, ?_,
    hcopy.frame e (by simp [v]) hsame, ?_, fun hle => ?_⟩
  · rw [← hend]
    exact hcopy.ended hwf e
  · rw [State.finish_power, State.applyStage_power, State.copyPost_power]
  · rw [State.finish_insulation, show v = _ from State.applyStage_of_le (s := s.copyPost n own) hle]
    rfl

end Sys2Proof.Machine
end

/-! # Orders that run: CHARGE, HEAT and CHECK INSULATION; LOAD ACCEPTANCE -/

section
namespace Sys2Proof.Machine

/-! ## CHARGE (O30) -/

/-- Settles O30. -/
theorem chargeTaken : Obligations.ChargeTaken := by
  intro s n tag maxCurrent vLim endCurrent h c posted m v e
  have hwf := h.2.2.2
  let u := s.copyPost n posted
  have hexec : exec c s = .next (u.takeCharge n maxCurrent vLim endCurrent) :=
    (exec_takesAtOnce h (o := .charge maxCurrent vLim endCurrent) rfl rfl).trans rfl
  refine ⟨fun hstands => ?_, fun hnone hnot => ?_, fun hnone hses htable => ?_⟩
  · exact refuses_of_finish hwf (hexec.trans (congrArg _ (if_pos hstands)))
  · have hcharge : ¬u.power.charge.isSome = true := by simp [u, hnone]
    have hrefuse : u.takeCharge n maxCurrent vLim endCurrent = u.finish n (refusal .notNow) := by
      rw [State.takeCharge, if_neg hcharge, if_pos (by simpa [u] using hnot)]
    exact refuses_of_finish hwf (hexec.trans (congrArg _ hrefuse))
  · let ch := newCharge n s.power.stage.stageMax maxCurrent vLim endCurrent
    have hcharge : ¬u.power.charge.isSome = true := by simp [u, hnone]
    have hruns : u.takeCharge n maxCurrent vLim endCurrent
        = (u.setSlotState n .running).withPower { s.power with charge := some ch, lastVLim := ch.vLim } := by
      rw [State.takeCharge, if_neg hcharge, if_neg (by simp [u, hses, htable])]
      simp [u, ch]
    obtain ⟨hrun, hreads, hothers⟩ := runs_of (n := n) (p := posted)
      (v := (u.setSlotState n .running).withPower { s.power with charge := some ch, lastVLim := ch.vLim })
      hwf rfl rfl
    refine ⟨_, hexec.trans (congrArg _ hruns), hrun, hreads, hothers, by simp [sameBut_iff, u], ?_⟩
    have hclamped : ch.clamped
        = !decide (m = maxCurrent.toNat ∧ v = vLim.toNat ∧ e = endCurrent.toNat) := by
      simp only [Bool.decide_and, Bool.not_and, ← decide_not]
      exact (Bool.or_assoc ..)
    rw [State.withPower_power, ← hclamped]
    rfl

/-! ## HEAT (O31) -/

theorem decodeSource_eq (b : Byte) : decodeSource b =
    if b.toNat ≤ 2 then some (if b.toNat = 0 then .supply else if b.toNat = 1 then .supplyThenPack
      else .pack) else none := by
  unfold decodeSource
  split <;> simp_all
  omega

theorem decodePolicy_eq (b : Byte) : decodePolicy b =
    if b.toNat ≤ 1 then some (if b.toNat = 0 then .heatFirst else .chargeFirst) else none := by
  unfold decodePolicy
  split <;> simp_all
  omega

theorem decodeMode_eq (b : Byte) : decodeMode b =
    if b.toNat ≤ 1 then some (if b.toNat = 0 then .once else .keep) else none := by
  unfold decodeMode
  split <;> simp_all
  omega

/-- Settles O31. -/
theorem heatTaken : Obligations.HeatTaken := by
  intro s n tag target band hysteresis pMax source policy mode h c posted coded t' b hy p
  have hwf := h.2.2.2
  let u := s.copyPost n posted
  have hexec : exec c s = .next (u.takeHeat n target band hysteresis pMax source policy mode) :=
    (exec_takesAtOnce h (o := .heat target band hysteresis pMax source policy mode) rfl rfl).trans rfl
  have hplan (hnone : s.heating.plan = none) : ¬u.heating.plan.isSome = true := by simp [u, hnone]
  refine ⟨fun hstands => ?_, fun hnone hcode => ?_, fun hnone hcode hloss => ?_,
    fun hnone hcode hloss => ?_⟩
  · exact refuses_of_finish hwf (hexec.trans (congrArg _ (if_pos hstands)))
  · have hrefuse : u.takeHeat n target band hysteresis pMax source policy mode
        = u.finish n (refusal .badParameter) := by
      rw [State.takeHeat, if_neg (hplan hnone), decodeSource_eq, decodePolicy_eq, decodeMode_eq]
      simp only [coded, Bool.and_eq_false_iff, decide_eq_false_iff_not, or_assoc] at hcode
      rcases hcode with hsource | hpolicy | hmode
      · rw [if_neg hsource]
      · rw [if_neg hpolicy]
        split <;> simp_all
      · rw [if_neg hmode]
        split <;> simp_all
    exact refuses_of_finish hwf (hexec.trans (congrArg _ hrefuse))
  all_goals
    simp only [coded, Bool.and_eq_true, decide_eq_true_eq] at hcode
    obtain ⟨⟨hsource, hpolicy⟩, hmode⟩ := hcode
  · have hrefuse : u.takeHeat n target band hysteresis pMax source policy mode
        = u.finish n (refusal .notNow) := by
      rw [State.takeHeat, if_neg (hplan hnone), decodeSource_eq, decodePolicy_eq, decodeMode_eq,
        if_pos hsource, if_pos hpolicy, if_pos hmode]
      exact if_pos hloss
    exact refuses_of_finish hwf (hexec.trans (congrArg _ hrefuse))
  · let pl := newPlan n s.power.stage.heaterMax target band hysteresis pMax
      (if source.toNat = 0 then .supply else if source.toNat = 1 then .supplyThenPack else .pack)
      (if policy.toNat = 0 then .heatFirst else .chargeFirst) (if mode.toNat = 0 then .once else .keep)
    let w := (u.setSlotState n .running).withHeating { s.heating with plan := some pl }
    have hruns : u.takeHeat n target band hysteresis pMax source policy mode = w := by
      rw [State.takeHeat, if_neg (hplan hnone), decodeSource_eq, decodePolicy_eq, decodeMode_eq,
        if_pos hsource, if_pos hpolicy, if_pos hmode]
      exact if_neg (by simp [u, hloss])
    obtain ⟨hrun, hreads, hothers⟩ := runs_of (n := n) (p := posted) (v := w) hwf rfl rfl
    refine ⟨w, hexec.trans (congrArg _ hruns), hrun, hreads, hothers, by simp [sameBut_iff, u, w], ?_⟩
    have hclamped : pl.clamped = !decide (t' = target.toInt ∧ b = band.toNat ∧ hy = hysteresis.toNat
        ∧ p = pMax.toNat) := by
      simp only [Bool.decide_and, Bool.not_and, ← decide_not, ← Bool.or_assoc]
      rfl
    rw [← hclamped]
    rfl

/-! ## CHECK INSULATION (O34) -/

/-- Settles O34. -/
theorem checkInsulationTaken : Obligations.CheckInsulationTaken := by
  intro s n tag h
  have hwf := h.2.2.2
  let posted : Posted := ⟨tag, .checkInsulation⟩
  let u := s.copyPost n posted
  have hexec : exec (.checkInsulation n tag) s = .next (u.takeCheck n) :=
    (exec_takesAtOnce h (o := .checkInsulation) rfl rfl).trans rfl
  have hstate : u.insulation.state = s.insulation.state := rfl
  refine ⟨fun hidle => ?_, fun hnot => ?_⟩
  · let e : Ending := ⟨.ended, endHvDown, s.insulation.checkNoResult⟩
    have hends : u.takeCheck n = u.finish n e := by
      rw [State.takeCheck, hstate, hidle]
      rfl
    have hcopy := afterCopy_self s n posted
    exact ⟨_, hexec.trans (congrArg _ hends), hcopy.ended hwf e,
      hcopy.frame e (by simp) (by simp [sameBut_iff])⟩
  · let w := (u.setSlotState n .running).withInsulation { s.insulation with check := some ⟨n, 0⟩ }
    have hruns : u.takeCheck n = w := by
      rw [State.takeCheck, hstate]
      cases hst : s.insulation.state with
      | idle => exact absurd hst hnot
      | _ => rfl
    obtain ⟨hrun, hreads, hothers⟩ := runs_of (n := n) (p := posted) (v := w) hwf rfl rfl
    exact ⟨w, hexec.trans (congrArg _ hruns), hrun, hreads, hothers, by simp [sameBut_iff, u, w], rfl⟩

/-! ## LOAD ACCEPTANCE (O33) -/

/-- The points in the staging area, one of four bytes after the other (R136). -/
theorem stagedPoints_readAll (m : Memory) (a k : Nat) : stagedPoints k (m.readAll a (4 * k)) =
    (List.range k).map fun i => ⟨(half (m.read (a + 4 * i)) (m.read (a + 4 * i + 1))).toInt,
      (half (m.read (a + 4 * i + 2)) (m.read (a + 4 * i + 3))).toNat⟩ := by
  induction k generalizing a with
  | zero => rfl
  | succ k ih =>
    have hnext (i : Nat) : a + 4 * (i + 1) = a + 4 + 4 * i := by omega
    rw [List.range_succ_eq_map, List.map_cons, List.map_map]
    refine congrArg₂ List.cons rfl ((ih (a + 4)).trans (List.map_congr_left fun i _ => ?_))
    simp only [Function.comp_apply, Nat.succ_eq_add_one, hnext]

theorem temperaturesRise_iff (pts : List Point) :
    temperaturesRise pts = true ↔ pts.Pairwise fun p q => p.temp < q.temp := by
  induction pts with
  | nil => simp [temperaturesRise]
  | cons p rest ih =>
    cases rest with
    | nil => simp [temperaturesRise]
    | cons q rest =>
      rw [temperaturesRise, Bool.and_eq_true, ih, decide_eq_true_eq, List.pairwise_cons (a := p)]
      refine and_congr_left fun hrise => ⟨fun hpq x hx => ?_, fun hall => hall q (by simp)⟩
      rcases List.mem_cons.mp hx with rfl | hx
      · exact hpq
      · exact hpq.trans (List.rel_of_pairwise_cons hrise hx)

theorem pointsValid_iff (pts : List Point) : pointsValid pts = true ↔
    (∀ p ∈ pts, -400 ≤ p.temp ∧ p.temp ≤ 1250 ∧ p.current ≤ 600)
      ∧ pts.Pairwise fun p q => p.temp < q.temp := by
  rw [pointsValid, Bool.and_eq_true, temperaturesRise_iff]
  simp only [List.all_eq_true, Bool.and_eq_true, decide_eq_true_eq, and_assoc]

theorem acceptanceParamsOk_eq (offset count : Nat) : acceptanceParamsOk offset count =
    decide (2 ≤ count ∧ count ≤ 10 ∧ 0x0640 ≤ offset ∧ offset + 4 * count ≤ 0x2000) := by
  rw [Bool.eq_iff_iff]
  simp only [acceptanceParamsOk, Bool.and_eq_true, decide_eq_true_eq]
  simp only [Config.stagingFirst, Config.stagingLast]
  omega

/-- Settles O33. -/
theorem loadAcceptanceLoads : Obligations.LoadAcceptanceLoads := by
  intro s n tag offset count h c posted inRange pts good
  have hwf := h.2.2.2
  let u := s.copyPost n posted
  have hexec : exec c s = .next (State.answer n (u.takeLoadAcceptance offset count)) :=
    (exec_takesAtOnce h (o := .loadAcceptance offset count) rfl rfl).trans rfl
  have hparams : acceptanceParamsOk offset.toNat count.toNat = inRange := acceptanceParamsOk_eq _ _
  have hpts : inRange = true →
      stagedPoints count.toNat (u.mem.readAll offset.toNat (4 * count.toNat)) = pts := fun hin => by
    rw [stagedPoints_readAll]
    have hplace : ∀ a, offset.toNat ≤ a → u.mem.read a = s.mem.read a := fun a ha => by
      have hb := slotAddr_bounds n
      simp only [inRange, decide_eq_true_eq] at hin
      refine State.copyPost_read_other s n posted fun he => ?_
      simp only [engineBytes] at he
      omega
    refine List.map_congr_left fun i _ => ?_
    rw [hplace _ (by omega), hplace _ (by omega), hplace _ (by omega), hplace _ (by omega)]
  refine ⟨fun hout => ?_, fun hin hbad => ?_, fun hin hgood => ?_⟩
  · have hrefuse : u.takeLoadAcceptance offset count = (refusal .badParameter, u) := by
      simp [State.takeLoadAcceptance, hparams, hout]
    exact refuses_of_finish hwf (hexec.trans (by rw [hrefuse]; rfl))
  · have hrefuse : u.takeLoadAcceptance offset count = (refusal .badTable, u) := by
      have hinvalid : pointsValid pts = false := by
        rwa [← Bool.not_eq_true, pointsValid_iff]
      simp [State.takeLoadAcceptance, hparams, hin, hpts hin, hinvalid]
    exact refuses_of_finish hwf (hexec.trans (by rw [hrefuse]; rfl))
  · intro hh
    let w := u.withHeating { hh with acceptance := hh.formAcceptance }
    let e : Ending := ⟨.ok, 0x00, [count, flagByte s.heating.table.isSome] ++ beBytes 2 hh.formAcceptance
      ++ tempBytes s.heating.tMin⟩
    have hloads : u.takeLoadAcceptance offset count = (e, w) := by
      have hvalid : pointsValid pts = true := (pointsValid_iff pts).mpr hgood
      simp only [State.takeLoadAcceptance, hparams, hin, hpts hin, hvalid, Bool.not_true,
        Bool.false_eq_true, if_false]
      rfl
    have hcopy : AfterCopy s n posted w := { mem := rfl, orders := rfl }
    exact ⟨w.finish n e, hexec.trans (by rw [hloads]; rfl), hcopy.ended hwf e,
      hcopy.frame e rfl (by simp [sameBut_iff, w, u]), by rw [State.finish_heating]; rfl⟩

end Sys2Proof.Machine
end

/-! # CLEAR TRIP, SET INSULATION and SET SENSORS -/

section
namespace Sys2Proof.Machine

/-! ## CLEAR TRIP (O36) -/

/-- A set that clearing empties ends TRIP and the first-trip record; any other keeps both (R183). -/
theorem State.clearTrips_ends {s : State} (hs : s.trips.set.isEmpty = false)
    (hempty : s.clearedSet.isEmpty = true) : s.clearTrips = (s.withTrips ⟨s.clearedSet, none⟩).clear .trip := by
  simp [State.clearTrips, hempty, hs]

theorem State.clearTrips_stays {s : State} (h : s.clearedSet.isEmpty = false ∨ s.trips.set.isEmpty = true) :
    s.clearTrips = s.withTrips { s.trips with set := s.clearedSet } := by
  rw [State.clearTrips, if_neg]
  rcases h with h | h <;> simp [h]

/-- What remains is what stands and whose condition is not gone (R182). -/
theorem State.clearedSet_eq (s : State) : s.clearedSet =
    { insulation := s.trips.set.insulation && s.insulation.condition == .fault
      contact := false
      weld := s.trips.set.weld && s.pins.infb
      packOvertemp := s.trips.set.packOvertemp
        && !(match s.heating.tMax with
            | some x => decide (x < 550)
            | none => false)
      heaterOvertemp := s.trips.set.heaterOvertemp
        && !(match s.heating.plate with
            | .valid x => decide (x < 850)
            | _ => false)
      packOvervoltage := s.trips.set.packOvervoltage
        && decide (s.power.lastVLim ≤ s.metering.readings.packVoltage)
      module := s.trips.set.module && s.pins.pmflt } := by
  have hover : (!decide (s.metering.readings.packVoltage < s.power.lastVLim))
      = decide (s.power.lastVLim ≤ s.metering.readings.packVoltage) := by
    rw [← decide_not]
    exact decide_eq_decide.mpr not_lt
  cases hmax : s.heating.tMax <;> cases hplate : s.heating.plate <;>
    simp only [State.clearedSet, State.conditionGone, hmax, hplate, hover, bne, Bool.not_not,
      Bool.not_true, Bool.and_false]

/-- Settles O36. -/
theorem clearTripRemoves : Obligations.ClearTripRemoves := by
  intro s n tag h
  have hwf := h.2.2.2
  let own : Posted := ⟨tag, .clearTrip⟩
  let u := s.copyPost n own
  let e : Ending := ⟨.ok, 0x00, [s.trips.set.byte, u.clearTrips.trips.set.byte]⟩
  have hcopy : AfterCopy s n own u.clearTrips := { mem := by simp [u], orders := by simp [u] }
  have hset : u.clearTrips.trips.set = s.clearedSet := u.clearTrips_set
  have hends (hs : s.trips.set.isEmpty = false) (hempty : u.clearTrips.trips.set.isEmpty = true) :
      u.clearTrips = (u.withTrips ⟨s.clearedSet, none⟩).clear .trip :=
    State.clearTrips_ends (s := u) hs (by rwa [hset] at hempty)
  have hstays (hkept : u.clearTrips.trips.set.isEmpty = false ∨ s.trips.set.isEmpty = true) :
      u.clearTrips = u.withTrips { s.trips with set := s.clearedSet } :=
    State.clearTrips_stays (s := u) (by rwa [hset] at hkept)
  refine ⟨u.clearTrips.finish n e, (exec_takesAtOnce h (tag := tag) (o := .clearTrip) rfl rfl).trans rfl,
    ?_, hcopy.reads e, hcopy.otherSlots e, ⟨?_, fun c hc => ?_⟩, ?_, ?_, fun hs hempty => ?_, fun hkept => ?_⟩
  · rw [State.finish_trips]
    exact hcopy.ended hwf e
  · rw [State.finish_attn, Attention.put_mask]
    simp only [State.clearTrips]
    split <;> rfl
  · simp only [List.mem_cons, List.not_mem_nil, or_false, not_or] at hc
    rw [State.finish_attn, Attention.has_put_other _ _ hc.1]
    simp only [State.clearTrips]
    split
    · exact Attention.has_put_other _ _ hc.2
    · rfl
  · exact AfterCopy.sameBut (changed := [.trips]) e (by simp [sameBut_iff, u])
  · rw [State.finish_trips]
    exact hset.trans s.clearedSet_eq
  · rw [State.finish_trips] at hempty
    rw [State.finish_trips, State.finish_attn, hends hs hempty]
    exact ⟨rfl, rfl⟩
  · rw [State.finish_trips] at hkept
    rw [State.finish_trips, State.finish_attn, hstays hkept]
    exact ⟨rfl, rfl⟩

/-! ## What a failing gate leaves of the monitor (R152) -/

/-- What of a half-period the drives do not move. -/
def HalfPeriod.course (h : HalfPeriod) : Bool × Nat × Nat × Nat × Bool :=
  (h.positive, h.stretch, h.uInj, h.elapsed, h.infbChanged)

/-- A gate's failure moves nothing of the monitor but what the half-period saw of the drives. -/
theorem State.failGateIf_insulation (s : State) (held now : Bool) :
    ∃ f : HalfPeriod → HalfPeriod, (∀ h, (f h).course = h.course)
      ∧ (s.failGateIf held now).insulation
        = { s.insulation with half := s.insulation.half.map f } := by
  unfold State.failGateIf
  split
  · refine ⟨fun h => (h.watch s.power.duty 0).watch
      (min s.power.duty (dutyFor s.power.stage.rH s.power.lastV s.power.packFed)) 0, fun _ => rfl, ?_⟩
    simp [State.failGate, Power.gateCharge, Function.comp_def]
  · exact ⟨id, fun _ => rfl, by simp⟩

theorem State.failGateIf_failed (s : State) {held now : Bool} (hheld : held = true) (hnow : now = false) :
    s.failGateIf held now = s.failGate := by
  rw [State.failGateIf, hheld, hnow]
  rfl

theorem State.failGateIf_kept (s : State) {held now : Bool} (h : held = false ∨ now = true) :
    s.failGateIf held now = s := by
  rw [State.failGateIf, if_neg]
  rcases h with rfl | rfl <;> simp

/-! ## SET INSULATION (O35) -/

theorem InsSettings.valid_iff (g : InsSettings) : g.valid = true ↔
    (100 ≤ g.rM ∧ g.rM ≤ 2000) ∧ (5000 ≤ g.uInj ∧ g.uInj ≤ 15000) ∧ (100 ≤ g.warn ∧ g.warn ≤ 2000)
      ∧ (50 ≤ g.fault ∧ g.fault ≤ 1000) ∧ (1 ≤ g.k ∧ g.k ≤ 8) ∧ (10 ≤ g.window ∧ g.window ≤ 60)
      ∧ g.fault < g.warn := by
  simp only [InsSettings.valid, Bool.and_eq_true, decide_eq_true_eq, and_assoc]

theorem Insulation.restarts_iff (i : Insulation) (g : InsSettings) : i.restarts g = true ↔
    i.state ≠ .idle ∧ (g.rM ≠ i.settings.rM ∨ g.uInj ≠ i.settings.uInj) := by
  simp only [Insulation.restarts, Bool.and_eq_true, Bool.or_eq_true, bne_iff_ne]

theorem Condition.permits_iff (c : Condition) : c.permits = true ↔ c = .ok ∨ c = .warning := by
  cases c <;> simp [Condition.permits]

theorem Insulation.freshNow_iff (i : Insulation) : i.freshNow = true ↔
    (i.condition = .ok ∨ i.condition = .warning) ∧ ∃ l, i.last = some l ∧ l.age ≤ 10 * i.settings.window := by
  unfold Insulation.freshNow
  cases i.last <;> simp [Condition.permits_iff]

/-- The settings in force, with WARMUP entered again where they restart it (R167). -/
def State.withSettings (s : State) (g : InsSettings) : State :=
  let s1 := s.withInsulation { s.insulation with settings := g }
  if s.insulation.restarts g then s1.enterWarmup else s1

theorem State.applyInsulation_eq (s : State) (g : InsSettings) : s.applyInsulation g =
    ((s.withSettings g).withInsulation { (s.withSettings g).insulation with
      fresh := (s.withSettings g).insulation.freshNow }).failGateIf s.insulation.fresh
        (s.withSettings g).insulation.freshNow := rfl

/-- The monitor with new settings: the results stand, and the measurement goes on or begins again. -/
theorem State.withSettings_insulation (s : State) (g : InsSettings) :
    (s.withSettings g).insulation =
      if s.insulation.restarts g then
        { ({ s.insulation with settings := g } : Insulation).discard with
          state := .warmup, half := some { s.newHalf true with uInj := g.uInj } }
      else { s.insulation with settings := g } := by
  unfold State.withSettings
  split <;> rfl

/-- The monitor after SET INSULATION: the new settings with freshness by the new window, and a
half-period that may have seen the drives fall (R162, R167). -/
theorem State.applyInsulation_insulation (s : State) (g : InsSettings) :
    ∃ f : HalfPeriod → HalfPeriod, (∀ h, (f h).course = h.course)
      ∧ (s.applyInsulation g).insulation = { (s.withSettings g).insulation with
          fresh := (s.withSettings g).insulation.freshNow
          half := (s.withSettings g).insulation.half.map f } := by
  obtain ⟨f, hcourse, hf⟩ := State.failGateIf_insulation
    ((s.withSettings g).withInsulation { (s.withSettings g).insulation with
      fresh := (s.withSettings g).insulation.freshNow })
    s.insulation.fresh (s.withSettings g).insulation.freshNow
  exact ⟨f, hcourse, hf⟩

/-- Settles O35. -/
theorem setInsulationSets : Obligations.SetInsulationSets := by
  intro s n tag rM uInj warn fault k window h c posted g good again fresh
  have hwf := h.2.2.2
  let u := s.copyPost n posted
  have hexec : exec c s = .next (State.answer n (u.takeSetInsulation rM uInj warn fault k window)) :=
    (exec_takesAtOnce h (o := .setInsulation rM uInj warn fault k window) rfl rfl).trans rfl
  refine ⟨fun hbad => ?_, fun hgood => ?_⟩
  · have hrefuse : u.takeSetInsulation rM uInj warn fault k window = (refusal .badParameter, u) :=
      if_pos (by simpa using mt (InsSettings.valid_iff g).mp hbad)
    exact refuses_of_finish hwf (hexec.trans (by rw [hrefuse]; rfl))
  · let v := u.applyInsulation g
    let e : Ending := ⟨.ok, 0x00, beBytes 2 g.rM ++ beBytes 2 g.uInj ++ beBytes 2 g.warn
      ++ beBytes 2 g.fault ++ [k, window] ++ beBytes 1 v.insulation.state.code
      ++ [flagByte (s.insulation.restarts g)]⟩
    have htakes : u.takeSetInsulation rM uInj warn fault k window = (e, v) :=
      if_neg (by simpa using (InsSettings.valid_iff g).mpr hgood)
    have hcopy : AfterCopy s n posted v := { mem := by simp [v, u], orders := by simp [v, u] }
    have hrestarts : s.insulation.restarts g = true ↔ again := Insulation.restarts_iff _ _
    obtain ⟨f, hcourse, hmonitor⟩ := u.applyInsulation_insulation g
    have hset : (u.withSettings g).insulation = if s.insulation.restarts g then
        { ({ s.insulation with settings := g } : Insulation).discard with
          state := .warmup, half := some { u.newHalf true with uInj := g.uInj } }
      else { s.insulation with settings := g } := u.withSettings_insulation g
    have hkeeps : (u.withSettings g).insulation.settings = g
        ∧ (u.withSettings g).insulation.condition = s.insulation.condition
        ∧ (u.withSettings g).insulation.last = s.insulation.last
        ∧ (u.withSettings g).insulation.history = s.insulation.history := by
      rw [hset]
      split <;> exact ⟨rfl, rfl, rfl, rfl⟩
    obtain ⟨hsettings, hcondition, hlast, hhistory⟩ := hkeeps
    have hfresh : (u.withSettings g).insulation.freshNow = true ↔ fresh := by
      rw [Insulation.freshNow_iff, hsettings, hcondition, hlast]
    have hpower : (u.withSettings g).power = s.power := by
      unfold State.withSettings
      split <;> rfl
    have hrelay : (u.withSettings g).relay = s.relay := by
      unfold State.withSettings
      split <;> rfl
    refine ⟨v.finish n e, hexec.trans (by rw [htakes]; rfl), ?_, hrestarts,
      hcopy.frame e (by simp [v, u]) (by simp [sameBut_iff, v, u]), ?_⟩
    · rw [State.finish_insulation]
      exact hcopy.ended hwf e
    rw [State.finish_insulation, State.finish_power, State.finish_relay, hmonitor]
    refine ⟨hsettings, hcondition, hlast, hhistory, hfresh, fun hgoes => ?_, fun hagain => ?_,
      fun hheld hstale => ?_, fun hkept => ?_⟩
    · rw [hset, if_neg (mt hrestarts.mp hgoes)]
      exact ⟨rfl, rfl, rfl⟩
    · rw [hset, if_pos (hrestarts.mpr hagain)]
      refine ⟨rfl, rfl, rfl, rfl, rfl, rfl, rfl, rfl, _, rfl, ?_⟩
      have hc := hcourse { u.newHalf true with uInj := g.uInj }
      simp only [HalfPeriod.course, Prod.mk.injEq] at hc
      obtain ⟨hpositive, hstretch, huInj, helapsed, -⟩ := hc
      exact ⟨hpositive, huInj, hstretch, helapsed⟩
    · have hv : v = ((u.withSettings g).withInsulation { (u.withSettings g).insulation with
          fresh := (u.withSettings g).insulation.freshNow }).failGate :=
        State.failGateIf_failed _ hheld (Bool.eq_false_iff.mpr (mt hfresh.mp hstale))
      rw [hv, State.failGate_power]
      exact ⟨rfl, rfl⟩
    · have hv : v = (u.withSettings g).withInsulation { (u.withSettings g).insulation with
          fresh := (u.withSettings g).insulation.freshNow } :=
        State.failGateIf_kept _ (hkept.imp_right hfresh.mpr)
      rw [hv]
      exact ⟨hpower, hrelay⟩

end Sys2Proof.Machine
end

/-! # The sensor table's tests, and SET SENSORS -/

section
namespace Sys2Proof.Machine

/-! ## The plan's end (R146) -/

theorem State.endPlan_of_some {s : State} {p : Plan} (cause : Byte) (h : s.heating.plan = some p) :
    s.endPlan cause =
      (s.dropPlan.finish p.slot ⟨.ended, cause, p.fields s.heating.tMin⟩).raise .planEvent := by
  simp only [State.endPlan, h]

theorem State.endPlan_of_none {s : State} (cause : Byte) (h : s.heating.plan = none) :
    s.endPlan cause = s := by
  simp only [State.endPlan, h]

theorem State.endPlan_heating (s : State) (cause : Byte) :
    (s.endPlan cause).heating = { s.heating with plan := none } := by
  cases h : s.heating.plan with
  | none =>
    rw [State.endPlan_of_none cause h, ← h]
  | some p =>
    rw [State.endPlan_of_some cause h, State.raise_heating, State.finish_heating]
    rfl

/-- The first two result bytes of an ended order: its outcome and byte 33 (R35). -/
theorem State.finish_outcome (s : State) (n : SlotNo) (e : Ending) (h : s.mem.wf = true) :
    (s.finish n e).mem.read (slotAddr n + 32) = e.outcome.code
      ∧ (s.finish n e).mem.read (slotAddr n + 33) = e.note := by
  have hbytes := s.finish_result n e h
  obtain ⟨houtcome, hrest⟩ := List.cons.inj hbytes
  exact ⟨houtcome, (List.cons.inj hrest).1⟩

theorem not_engineBytes_of_ne {n k : SlotNo} (hk : k ≠ n) {a : Nat} (ha : engineBytes k a) :
    ¬engineBytes n a := by
  have hne : k.val ≠ n.val := fun h => hk (Fin.ext h)
  simp only [engineBytes, slotAddr, Config.slotBase, Config.slotSize] at ha ⊢
  omega

/-! ## SENSOR_LOSS (R132) -/

/-- SENSOR_LOSS begins with this table. -/
def Heating.lossBegins (h : Heating) : Bool := decide (h.count < 3) && !h.sensorLoss

/-- The table with SENSOR_LOSS as it now stands. -/
def State.withLoss (s : State) : State :=
  s.withHeating { s.heating with sensorLoss := decide (s.heating.count < 3) }

theorem State.testSensorLoss_eq (s : State) : s.testSensorLoss =
    if s.heating.lossBegins then s.withLoss.dutyOff.endPlan endSensors else s.withLoss := rfl

theorem State.testSensorLoss_heating (s : State) : s.testSensorLoss.heating =
    { s.heating with
      sensorLoss := decide (s.heating.count < 3)
      plan := if s.heating.lossBegins then none else s.heating.plan } := by
  rw [State.testSensorLoss_eq]
  split
  · rw [State.endPlan_heating, State.dutyOff_heating]
    rfl
  · rfl

theorem State.testSensorLoss_power (s : State) : s.testSensorLoss.power =
    { s.power with duty := if s.heating.lossBegins then 0 else s.power.duty } := by
  rw [State.testSensorLoss_eq]
  split
  · rw [State.endPlan_power, State.dutyOff, State.setDuty_power]
    rfl
  · rfl

/-- Where no plan ends, SENSOR_LOSS touches neither memory nor the order engine nor the causes. -/
theorem State.testSensorLoss_quiet {s : State}
    (h : s.heating.lossBegins = false ∨ s.heating.plan = none) :
    s.testSensorLoss.mem = s.mem ∧ s.testSensorLoss.orders = s.orders ∧ s.testSensorLoss.attn = s.attn := by
  rw [State.testSensorLoss_eq]
  split
  · rename_i hbegins
    rw [State.endPlan_of_none _ (by simpa [State.withLoss, hbegins] using h)]
    simp [State.withLoss]
  · exact ⟨rfl, rfl, rfl⟩

/-- A SENSOR_LOSS that begins ends the running plan (R132). -/
theorem State.testSensorLoss_ends {s : State} {p : Plan} (hbegins : s.heating.lossBegins = true)
    (hp : s.heating.plan = some p) : s.testSensorLoss =
      (s.withLoss.dutyOff.dropPlan.finish p.slot
        ⟨.ended, endSensors, p.fields s.heating.tMin⟩).raise .planEvent := by
  rw [State.testSensorLoss_eq, if_pos hbegins, State.endPlan_of_some (p := p) _ (by simpa [State.withLoss])]
  simp only [State.dutyOff_heating]
  rfl

/-- A slot that is not the plan's keeps its record through the SENSOR_LOSS test. -/
theorem State.testSensorLoss_slot {s : State} {n : SlotNo}
    (h : ∀ p, s.heating.plan = some p → p.slot ≠ n) : s.testSensorLoss.slot n = s.slot n := by
  by_cases hq : s.heating.lossBegins = false ∨ s.heating.plan = none
  · exact State.slot_congr (State.testSensorLoss_quiet hq).2.1 n
  · simp only [not_or, Bool.not_eq_false] at hq
    obtain ⟨p, hp⟩ := Option.ne_none_iff_exists'.mp hq.2
    rw [State.testSensorLoss_ends hq.1 hp]
    exact State.slot_finish_other _ _ (h p hp).symm

/-! ## The guards (R134) -/

/-- The table with the three guards tested. -/
def Heating.tested (h : Heating) : Heating :=
  { h with
    packGuard := h.testPackGuard
    plateGuard := h.testPlateGuard
    plateSensorGuard := h.testPlateSensor }

theorem State.testGuards_eq (s : State) : s.testGuards =
    if s.heating.tested.guarded && !s.heating.guarded then (s.withHeating s.heating.tested).dutyOff
    else s.withHeating s.heating.tested := rfl

theorem State.testGuards_heating (s : State) : s.testGuards.heating = s.heating.tested := by
  rw [State.testGuards_eq]
  split
  · rw [State.dutyOff_heating]
    rfl
  · rfl

theorem State.testGuards_power (s : State) : s.testGuards.power =
    { s.power with duty := if s.heating.tested.guarded && !s.heating.guarded then 0 else s.power.duty } := by
  rw [State.testGuards_eq]
  split
  · rw [State.dutyOff, State.setDuty_power]
    rfl
  · rfl

/-! ## SET SENSORS (O32) -/

/-- The mask and the limits in force, before the tests (R133). -/
def State.withLimits (s : State) (mask : Byte) (cap limit : Int) : State :=
  s.withHeating { s.heating with mask := mask, packCap := cap, plateLimit := limit }

/-- Settles O32. -/
theorem setSensorsSets : Obligations.SetSensorsSets := by
  intro s n tag mask packCap plateLimit hat cap limit h loss hplan
  have hwf := hat.2.2.2
  let own : Posted := ⟨tag, .setSensors mask packCap plateLimit⟩
  let u := s.copyPost n own
  let w := (u.withLimits mask cap limit).testSensorLoss
  let v := w.testGuards.reformAcceptance
  have hbegins : (u.withLimits mask cap limit).heating.lossBegins = (loss && !s.heating.sensorLoss) := rfl
  have hw : w.heating = { h with
      sensorLoss := loss, plan := if loss && !s.heating.sensorLoss then none else s.heating.plan } :=
    State.testSensorLoss_heating (u.withLimits mask cap limit)
  have hguards : w.testGuards.heating = Heating.tested { h with
      sensorLoss := loss, plan := if loss && !s.heating.sensorLoss then none else s.heating.plan } := by
    rw [State.testGuards_heating, hw]
  have hheating : v.heating = { w.testGuards.heating with
      acceptance := w.testGuards.heating.formAcceptance } := rfl
  rw [hguards] at hheating
  have hguarded : w.testGuards.heating.guarded = v.heating.guarded := rfl
  have hpower : v.power = { s.power with
      duty := if v.heating.guarded && !s.heating.guarded then 0
        else if loss && !s.heating.sensorLoss then 0 else s.power.duty } := by
    have hwpower : w.power = { s.power with
        duty := if loss && !s.heating.sensorLoss then 0 else s.power.duty } :=
      State.testSensorLoss_power (u.withLimits mask cap limit)
    have hgpower := State.testGuards_power w
    rw [hwpower, ← State.testGuards_heating, hguarded, hw] at hgpower
    exact hgpower
  have hquiet : (loss && !s.heating.sensorLoss) = false ∨ s.heating.plan = none →
      v.mem = u.mem ∧ v.orders = u.orders ∧ v.attn = s.attn := fun hq => by
    obtain ⟨hmem, horders, hattn⟩ := State.testSensorLoss_quiet (s := u.withLimits mask cap limit) hq
    refine ⟨?_, ?_, ?_⟩ <;> simp only [v, State.reformAcceptance_mem, State.reformAcceptance_orders,
      State.reformAcceptance_attn, State.testGuards_mem, State.testGuards_orders, State.testGuards_attn]
    · exact hmem
    · exact horders
    · exact hattn
  have hmemw : v.mem = w.mem := by simp [v]
  have hordersw : v.orders = w.orders := by simp [v]
  have hslot : v.slot n = ⟨.posted, some own⟩ := by
    rw [State.slot_congr hordersw, State.testSensorLoss_slot (s := u.withLimits mask cap limit) hplan]
    exact State.copyPost_slot_same s n own
  have hwfu : u.mem.wf = true := State.copyPost_wf s n own hwf
  have hwfv : v.mem.wf = true := by
    rw [hmemw]
    exact State.testSensorLoss_wf _ hwfu
  let e := (u.takeSetSensors mask packCap plateLimit).1
  have hend : e = ⟨.ok, if cap = packCap.toInt ∧ limit = plateLimit.toInt then 0x00 else 0x01,
      [mask] ++ beInt 2 cap ++ beInt 2 limit ++ beBytes 1 h.count ++ [if loss then 0x01 else 0x00]⟩ := by
    have hnote := clampedNote_eq (c := decide (cap ≠ packCap.toInt) || decide (limit ≠ plateLimit.toInt))
      (asked := cap = packCap.toInt ∧ limit = plateLimit.toInt)
      (by simp only [Bool.or_eq_true, decide_eq_true_eq]; tauto)
    calc e = ⟨.ok, clampedNote (decide (cap ≠ packCap.toInt) || decide (limit ≠ plateLimit.toInt)),
          [mask] ++ beInt 2 cap ++ beInt 2 limit ++ beBytes 1 v.heating.count
            ++ [flagByte v.heating.sensorLoss]⟩ := rfl
      _ = _ := by rw [hnote, hheating]; rfl
  have hexec := exec_takesAtOnce hat (tag := tag) (o := .setSensors mask packCap plateLimit) rfl rfl
  refine ⟨v.finish n e, hexec.trans rfl, ?_, ?_⟩
  · rw [← hend]
    exact ended_finish e (by rw [hslot]) hwfv
  rw [State.finish_heating, State.finish_power, State.finish_insulation, State.finish_attn]
  refine ⟨?_, ?_, ?_, ?_, ?_, ?_, ?_, ?_, ?_, ?_, ?_, ?_, ?_, fun hkept => ?_, fun p hloss hsl hp => ?_,
    fun hloss hsl => ?_, fun hguard hsg => ?_, ?_, fun hkept hsame => ?_⟩
  iterate 12 rw [hheating]; rfl
  · exact AfterCopy.sameBut (changed := [.heating, .power, .insulation]) e
      (by simp [sameBut_iff, v, w, u, State.withLimits])
  · have hno : (loss && !s.heating.sensorLoss) = false ∨ s.heating.plan = none := by
      rcases hkept with hl | hs | hp
      · exact .inl (by rw [hl]; rfl)
      · exact .inl (by rw [hs]; exact Bool.and_false _)
      · exact .inr hp
    obtain ⟨hmem, horders, hattn⟩ := hquiet hno
    have hcopy : AfterCopy s n own v := ⟨hmem, horders⟩
    refine ⟨?_, hcopy.frame e hattn (by simp [sameBut_iff, v, w, u, State.withLimits])⟩
    rw [hheating]
    show (if loss && !s.heating.sensorLoss then none else s.heating.plan) = s.heating.plan
    rcases hno with hl | hp
    · rw [hl]
      rfl
    · rw [hp, ite_self]
  · have hbegin : (loss && !s.heating.sensorLoss) = true := by rw [hloss, hsl]; rfl
    have hne := hplan p hp
    have hw' := State.testSensorLoss_ends (s := u.withLimits mask cap limit) hbegin hp
    have hslotp : v.slot p.slot = w.slot p.slot := State.slot_congr hordersw _
    have hbytes := State.finish_outcome ((u.withLimits mask cap limit).withLoss.dutyOff.dropPlan) p.slot
      ⟨.ended, endSensors, p.fields (u.withLimits mask cap limit).heating.tMin⟩ hwfu
    refine ⟨?_, ?_, ?_, ?_, ?_⟩
    · rw [hheating]
      show (if loss && !s.heating.sensorLoss then none else s.heating.plan) = none
      rw [hbegin]
      rfl
    · rw [State.slot_finish_other _ _ hne, hslotp, show w = _ from hw']
      exact congrArg Slot.state (State.slot_finish_same _ _ _)
    · rw [v.finish_read_other n e (not_engineBytes_of_ne hne (.inr (by omega))), hmemw, show w = _ from hw']
      exact hbytes.1
    · rw [v.finish_read_other n e (not_engineBytes_of_ne hne (.inr (by omega))), hmemw, show w = _ from hw']
      exact hbytes.2
    · have hattnw : v.attn = w.attn := by simp [v]
      rw [hattnw, show w = _ from hw']
      rfl
  · rw [hpower, hloss, hsl]
    exact ite_self _
  · rw [hpower, hguard, hsg]
    rfl
  · rw [hpower]
  · have hl : (loss && !s.heating.sensorLoss) = false := by
      rcases hkept with hl | hs
      · rw [hl]; rfl
      · rw [hs]; exact Bool.and_false _
    have hg : (v.heating.guarded && !s.heating.guarded) = false := by
      rcases hsame with hg | hs
      · rw [hg]; rfl
      · rw [hs]; exact Bool.and_false _
    have hw' : w = (u.withLimits mask cap limit).withLoss :=
      (State.testSensorLoss_eq _).trans (if_neg (by rw [hbegins, hl]; decide))
    have hg' : w.testGuards = w.withHeating w.heating.tested :=
      (State.testGuards_eq w).trans (if_neg (by
      rw [← State.testGuards_heating, hguarded, hw]
      exact fun hc => absurd (hg.symm.trans hc) (by decide)))
    refine ⟨by rw [hpower, hl, hg]; rfl, ?_⟩
    show w.testGuards.insulation = _
    rw [hg', hw']
    rfl

end Sys2Proof.Machine
end

/-! # Records written, held and waiting -/

section
namespace Sys2Proof.Machine

/-! ## Frames composed -/

theorem SameBut.mono {ps qs : List Part} {s t : State} (h : SameBut ps s t) (hsub : ∀ p ∈ ps, p ∈ qs) :
    SameBut qs s t := fun p hp => h p fun hmem => hp (hsub p hmem)

/-! ## Where a record goes (R93, R98, R101, R102) -/

/-- The record becomes the held record, and the header says so (R101). -/
def State.holdRecord (s : State) (r : Record) : State :=
  (s.withBilling { s.billing with held := some r }).poke 0x000B 1

theorem Billing.fill_of_next {b b' : Billing} (hw : b'.w = b.w + 1) (hrd : b'.rd = b.rd)
    (h : b.fill < 65535) : b'.fill = b.fill + 1 := by
  simp only [Billing.fill, hw, hrd] at h ⊢
  bv_omega

theorem State.journalWrite_fill {s : State} (r : Record) (h : s.billing.fill < 128) :
    (s.journalWrite r).billing.fill = s.billing.fill + 1 :=
  Billing.fill_of_next (by rw [State.journalWrite_billing]) (by rw [State.journalWrite_billing]) (by omega)

theorem State.placeRecord_writes {s : State} (r : Record) (h : s.billing.fill < 128) :
    s.placeRecord r = s.journalWrite r := if_pos h

theorem State.placeRecord_holds {s : State} (r : Record) (hfull : 128 ≤ s.billing.fill)
    (hheld : s.billing.held = none) : s.placeRecord r = s.holdRecord r := by
  rw [State.placeRecord, if_neg (by simpa [Config.journalSlots] using hfull), hheld]
  rfl

theorem State.placeRecord_waits {s : State} (r : Record) (hfull : 128 ≤ s.billing.fill)
    (hheld : s.billing.held.isSome = true) :
    s.placeRecord r = s.withBilling { s.billing with waiting := some r } := by
  obtain ⟨x, hx⟩ := Option.isSome_iff_exists.mp hheld
  rw [State.placeRecord, if_neg (by simpa [Config.journalSlots] using hfull), hx]

/-- A record written while no hold begins. -/
theorem State.enterRecord_writes {s : State} (r : Record) (hfill : s.billing.fill < 128)
    (hhold : s.billing.hold = true ∨ s.billing.fill + 1 < s.billing.halt) :
    s.enterRecord r = s.journalWrite r := by
  rw [State.enterRecord, State.placeRecord_writes r hfill]
  refine if_neg fun hbegins => ?_
  have hfill' := State.journalWrite_fill r hfill
  obtain ⟨-, hnot, hlevel⟩ := hbegins
  rw [State.journalWrite_billing] at hnot
  have hhalt : (s.journalWrite r).billing.halt = s.billing.halt := by rw [State.journalWrite_billing]
  rw [hfill', hhalt] at hlevel
  rcases hhold with hhold | hhold
  · exact absurd (hhold.symm.trans hnot) (by decide)
  · omega

/-- A record whose write brings the fill to the halt level begins the hold (R93, R98). -/
theorem State.enterRecord_begins {s : State} (r : Record) (hfill : s.billing.fill < 128)
    (hhold : s.billing.hold = false) (hlevel : s.billing.halt ≤ s.billing.fill + 1) :
    s.enterRecord r = (s.journalWrite r).beginHold := by
  rw [State.enterRecord, State.placeRecord_writes r hfill]
  refine if_pos ⟨hfill, ?_, ?_⟩
  · rw [State.journalWrite_billing]
    exact hhold
  · rw [State.journalWrite_fill r hfill, State.journalWrite_billing]
    exact hlevel

theorem State.enterRecord_full {s : State} (r : Record) (hfull : 128 ≤ s.billing.fill) :
    s.enterRecord r = s.placeRecord r :=
  if_neg fun h => absurd h.1 (by simpa [Config.journalSlots] using hfull)

theorem State.enterRecord_holds {s : State} (r : Record) (hfull : 128 ≤ s.billing.fill)
    (hheld : s.billing.held = none) : s.enterRecord r = s.holdRecord r :=
  (State.enterRecord_full r hfull).trans (State.placeRecord_holds r hfull hheld)

theorem State.enterRecord_waits {s : State} (r : Record) (hfull : 128 ≤ s.billing.fill)
    (hheld : s.billing.held.isSome = true) :
    s.enterRecord r = s.withBilling { s.billing with waiting := some r } :=
  (State.enterRecord_full r hfull).trans (State.placeRecord_waits r hfull hheld)

/-! ## Room (R93, R98, R101) -/

theorem Room.congr {s t : State} {k : Nat} (h : Room s k) (hheld : t.billing.held = s.billing.held)
    (hfill : t.billing.fill = s.billing.fill) (hhold : t.billing.hold = s.billing.hold)
    (hhalt : t.billing.halt = s.billing.halt) : Room t k := by
  rw [Room, hheld, hfill, hhold, hhalt]
  exact h

theorem Room.enterRecord {s : State} {k : Nat} (h : Room s (k + 1)) (r : Record) :
    s.enterRecord r = s.journalWrite r := by
  obtain ⟨-, hfill, hhold⟩ := h
  exact State.enterRecord_writes r (by omega) (hhold.imp_right fun hlevel => by omega)

theorem Room.next {s : State} {k : Nat} (h : Room s (k + 1)) (r : Record) :
    Room (s.journalWrite r) k := by
  obtain ⟨hheld, hfill, hhold⟩ := h
  have hfill' := State.journalWrite_fill r (show s.billing.fill < 128 by omega)
  refine ⟨?_, by omega, ?_⟩
  · rw [State.journalWrite_billing]
    exact hheld
  · rw [hfill', State.journalWrite_billing]
    exact hhold.imp_right fun hlevel => by show _ < s.billing.halt; omega

/-! ## What a write stores (R93, R97) -/

@[simp] theorem State.journalWrite_attn (s : State) (r : Record) :
    (s.journalWrite r).attn = s.attn.put .journalNew true := by simp [State.journalWrite]

theorem recordBytes_bounds {mark : Half} {a : Nat} (h : recordBytes mark a) : 0x2000 ≤ a ∧ a < 0x4000 := by
  simp only [recordBytes, Config.journalBase] at h
  omega

theorem not_recordBytes_of_lt {mark : Half} {a : Nat} (h : a < 0x2000) : ¬recordBytes mark a :=
  fun hr => absurd (recordBytes_bounds hr).1 (by omega)

theorem engineBytes_bound {n : SlotNo} {a : Nat} (h : engineBytes n a) : 0x40 ≤ a ∧ a < 0x440 := by
  have hb := slotAddr_bounds n
  simp only [engineBytes] at h
  omega

theorem journalHeader_bound {a : Nat} (h : journalHeader a) : a < 0x0D := by
  simp only [journalHeader] at h
  omega

/-- The journal slots of a mark and of the next one lie apart. -/
theorem not_recordBytes_next {mark : Half} {a : Nat} (h : recordBytes mark a) :
    ¬recordBytes (mark + 1) a := by
  simp only [recordBytes, Config.journalBase] at h ⊢
  bv_omega

theorem State.journalWrite_read_other (s : State) (r : Record) {a : Nat} (hw : a ≠ 0x0004 ∧ a ≠ 0x0005)
    (hflag : a ≠ 0x000C) (hrecord : ¬recordBytes s.billing.w a) :
    (s.journalWrite r).mem.read a = s.mem.read a := by
  simp only [recordBytes, Config.journalBase] at hrecord
  rw [State.journalWrite_mem, Memory.read_write_other, Memory.read_writeAll_other,
    Memory.read_writeAll_other]
  · simp only [length_record_bytes, Config.journalBase, Config.journalSlots]
    omega
  · simp only [length_beBytes, Config.hdrW]
    omega
  · simpa only [Config.hdrFlagged] using hflag

theorem State.journalWrite_reads (s : State) (r : Record) :
    ReadsSameBut (fun a => journalHeader a ∨ recordBytes s.billing.w a) s (s.journalWrite r) :=
  fun a ha => by
  simp only [not_or, journalHeader] at ha
  obtain ⟨⟨h4, h5, -, hflag⟩, hrecord⟩ := ha
  exact s.journalWrite_read_other r ⟨h4, h5⟩ hflag hrecord

theorem State.journalWrite_recordAt {s : State} (r : Record) (h : s.mem.wf = true) :
    RecordAt (s.journalWrite r) s.billing.w r := by
  rw [RecordAt, State.journalWrite_mem, Memory.readAll_write_other, Memory.readAll_writeAll_other,
    ← length_record_bytes r]
  · exact Memory.readAll_writeAll _ _ h (by
      simp only [length_record_bytes, Config.journalBase, Config.journalSlots, Config.memSize]
      omega)
  · simp only [length_beBytes, Config.hdrW, Config.journalBase]
    omega
  · simp only [Config.hdrFlagged, Config.journalBase]
    omega

/-- W in the header after a write (R93). -/
theorem State.journalWrite_shows {s : State} (r : Record) (h : s.mem.wf = true) :
    (s.journalWrite r).mem.readAll 0x0004 2 = beBytes 2 (s.billing.w + 1).toNat := by
  rw [State.journalWrite_mem, Memory.readAll_write_other _ _ _ _ _ (.inl (by decide))]
  exact Memory.readAll_writeAll (m := _) 0x0004 (beBytes 2 (s.billing.w + 1).toNat)
    (Memory.writeAll_wf_eq _ _ _ h) (by rw [length_beBytes]; decide)

/-- The flagged-unread indicator after a write (R97). -/
theorem State.journalWrite_flagged {s : State} (r : Record) (h : s.mem.wf = true) :
    (s.journalWrite r).mem.read 0x000C = flagByte (s.journalWrite r).billing.flaggedUnread := by
  rw [State.journalWrite_mem]
  exact Memory.read_write_same _ (by simp [h]) (by decide)

/-- A record stays in its slot while nothing is stored there. -/
theorem RecordAt.keep {s t : State} {mark : Half} {r : Record} {p : Nat → Prop} (h : RecordAt s mark r)
    (hreads : ReadsSameBut p s t) (hp : ∀ a, recordBytes mark a → ¬p a) : RecordAt t mark r := by
  rw [RecordAt, ← h]
  exact Memory.readAll_congr _ _ fun a h1 h2 => hreads a (hp a ⟨h1, h2⟩)

theorem State.holdRecord_reads (s : State) (r : Record) :
    ReadsSameBut (fun a => a = 0x000B) s (s.holdRecord r) := fun _ ha => Memory.read_write_other _ _ ha

theorem State.holdRecord_holds {s : State} (r : Record) (h : s.mem.wf = true) :
    Holds (s.holdRecord r) r := ⟨rfl, Memory.read_write_same (m := s.mem) (a := 0x000B) 1 h (by decide)⟩

end Sys2Proof.Machine
end

/-! # Read marks and the link reset -/

section
namespace Sys2Proof.Machine

/-! ## The end of a hold (R99) -/

/-- The hold ends at or below the resume level. -/
def Billing.holdEnds (b : Billing) : Bool := b.hold && decide (b.fill ≤ b.resume)

theorem State.retestResume_eq (s : State) :
    s.retestResume = if s.billing.holdEnds then s.endHold else s := by
  simp only [State.retestResume, Billing.holdEnds, Bool.and_eq_true, decide_eq_true_eq]

theorem State.retestResume_billing (s : State) : s.retestResume.billing =
    { s.billing with hold := s.billing.hold && !s.billing.holdEnds } := by
  rw [State.retestResume_eq]
  cases h : s.billing.holdEnds with
  | true => simp [State.endHold]
  | false => simp

theorem State.retestResume_attn (s : State) :
    s.retestResume.attn.journalHalt = (s.attn.journalHalt && !s.billing.holdEnds)
      ∧ OtherCauses [.journalHalt] s s.retestResume := by
  rw [State.retestResume_eq]
  cases s.billing.holdEnds with
  | true =>
    refine ⟨(Bool.and_false _).symm, rfl, fun c hc => ?_⟩
    exact Attention.has_put_other _ _ (by simpa using hc)
  | false => exact ⟨(Bool.and_true _).symm, rfl, fun _ _ => rfl⟩

theorem State.retestResume_same (s : State) : SameBut [.attn, .billing] s s.retestResume := by
  rw [State.retestResume_eq]
  split <;> simp [sameBut_iff, State.endHold]

/-! ## A mark judged (R95) -/

theorem half_high (hi lo : Byte) : (half hi lo).extractLsb' 8 8 = hi := by
  refine BitVec.eq_of_getLsbD_eq fun i hi => ?_
  rw [BitVec.getLsbD_extractLsb', half, BitVec.getLsbD_append]
  simp [hi]

theorem Billing.acceptsMark_iff (b : Billing) (m : Half) :
    b.acceptsMark m = true ↔ (b.w - m).toNat ≤ (b.w - b.rd).toNat := by
  rw [Billing.acceptsMark, decide_eq_true_eq]

/-- A byte at 0007h: the mark is judged, and the latch reloaded from Rd (R11). -/
theorem State.windowEffect_mark (s : State) (v : Byte) : s.windowEffect 0x0007 v = s.markLow v := rfl

/-- The read mark in force and in the header (R96, step 1). -/
def State.withMark (s : State) (m : Half) : State :=
  (s.withBilling { s.billing with rd := m }).pokeAll 0x0006 (beBytes 2 m.toNat)

theorem State.markLow_of_accepted {s : State} {v : Byte}
    (h : s.billing.acceptsMark (half s.link.latch v) = true) : s.markLow v =
      ((s.withMark (half s.link.latch v)).releaseHeld.releaseWaiting.showFlagged.retestResume).loadLatch
        (s.withMark (half s.link.latch v)).releaseHeld.releaseWaiting.showFlagged.retestResume.billing.rdHigh := by
  rw [State.markLow, State.takeMark, if_pos h]
  rfl

/-- The marks after a read mark is applied: the indicator follows, and the hold is tested (R96). -/
theorem State.showFlagged_reads (s : State) : ReadsSameBut (fun a => a = 0x000C) s s.showFlagged :=
  fun _ ha => Memory.read_write_other _ _ ha

theorem State.showFlagged_flag {s : State} (h : s.mem.wf = true) :
    s.showFlagged.mem.read 0x000C = flagByte s.billing.flaggedUnread :=
  Memory.read_write_same (m := s.mem) (a := 0x000C) _ h (by decide)

/-! ## The read mark's rows (O20) -/

/-- Settles O20. -/
theorem readMarkWrites : Obligations.ReadMarkWrites := by
  intro s v c k hrow hentered
  have hexec : exec c s = .next ((s.windowEffect s.link.pointer.toNat v).advance k) := by
    rw [exec_windowRow hrow, State.windowByte_of_entered v hentered]
  refine ⟨fun hptr => ?_, fun hptr => ?_, fun hptr hwf hheld hwaiting => ?_⟩
  · rw [hexec, hptr]
    rfl
  · intro m hbehind
    have hrefused : s.markLow v = (s.raise .writeRefused).loadLatch s.billing.rdHigh := by
      rw [State.markLow, State.takeMark, if_neg]
      · rfl
      · rw [Billing.acceptsMark_iff]
        exact not_le.mpr hbehind
    refine ⟨_, hexec, ?_⟩
    rw [hptr, show ((0x0007 : BitVec 14).toNat = 0x0007) from rfl, State.windowEffect_mark, hrefused]
    refine ⟨by simp [sameBut_iff, State.loadLatch, State.advance], rfl, rfl, rfl, fun d hd => ?_⟩
    exact Attention.has_put_other _ _ (by simpa using hd)
  · intro m ends haccepts
    let u := s.withMark m
    let t := u.showFlagged.retestResume
    have hheld' : u.releaseHeld = u := by
      rw [State.releaseHeld, show u.billing.held = none from hheld]
    have hwaiting' : u.releaseWaiting = u := by
      rw [State.releaseWaiting, show u.billing.waiting = none from hwaiting]
    have hmark : s.markLow v = t.loadLatch t.billing.rdHigh := by
      rw [State.markLow_of_accepted ((Billing.acceptsMark_iff _ _).mpr haccepts)]
      show (u.releaseHeld.releaseWaiting.showFlagged.retestResume).loadLatch
        u.releaseHeld.releaseWaiting.showFlagged.retestResume.billing.rdHigh = _
      rw [hheld', hwaiting']
    have hbilling : t.billing = { s.billing with rd := m, hold := s.billing.hold && !ends } :=
      State.retestResume_billing u.showFlagged
    have hlatch : t.billing.rdHigh = s.link.latch := by
      rw [hbilling]
      exact half_high _ _
    have hmem : t.mem = u.showFlagged.mem := State.retestResume_mem _
    have hwfu : u.mem.wf = true := Memory.writeAll_wf_eq _ _ _ hwf
    obtain ⟨hhalt, hothers⟩ := u.showFlagged.retestResume_attn
    refine ⟨_, hexec, ?_⟩
    rw [hptr, show ((0x0007 : BitVec 14).toNat = 0x0007) from rfl, State.windowEffect_mark, hmark, hlatch]
    refine ⟨?_, hbilling, ?_, ?_, fun a ha => ?_, ?_, hhalt, hothers⟩
    · simp [sameBut_iff, t, u, State.withMark, State.loadLatch, State.advance]
    · rw [State.advance_mem, State.loadLatch_mem, hmem, State.showFlagged, State.poke_mem,
        Memory.readAll_write_other _ _ _ _ _ (.inl (by decide))]
      exact Memory.readAll_writeAll (m := s.mem) 0x0006 (beBytes 2 m.toNat) hwf
        (by rw [length_beBytes]; decide)
    · rw [State.advance_mem, State.loadLatch_mem, hmem, State.showFlagged_flag hwfu]
      show _ = flagByte t.billing.flaggedUnread
      rw [hbilling]
      rfl
    · simp only [not_or] at ha
      rw [State.advance_mem, State.loadLatch_mem, hmem, u.showFlagged_reads a ha.2.2]
      exact Memory.read_writeAll_other _ _ _ (by rw [length_beBytes]; omega)
    · rw [State.advance, State.withLink_link]
      have hlink : t.link = s.link := by simp [t, u, State.withMark]
      simp only [State.loadLatch, State.withLink_link, hlink]
      rfl

/-! ## A read mark that makes room (O21) -/

/-- The held record has entered the journal at W, and perhaps the waiting one after it (R96). -/
structure Released (m : Half) (r : Record) (s b : State) : Prop where
  wf : b.mem.wf = true
  rd : b.billing.rd = m
  hold : b.billing.hold = true
  resume : b.billing.resume = s.billing.resume
  record : RecordAt b s.billing.w r
  attn : b.attn = s.attn.put .journalNew true
  shows : b.mem.readAll 0x0004 2 = beBytes 2 b.billing.w.toNat
  held : b.mem.read 0x000B = flagByte b.billing.held.isSome
  same : SameBut [.mem, .attn, .billing] s b

theorem RecordAt.showFlagged {s : State} {mark : Half} {r : Record} (h : RecordAt s mark r) :
    RecordAt s.showFlagged mark r :=
  h.keep s.showFlagged_reads fun a ha hc => by
    have := (recordBytes_bounds ha).1
    omega

/-- The held record's own write. -/
theorem released_held {s : State} {m : Half} {r : Record} (hwf : s.mem.wf = true)
    (hhold : s.billing.hold = true) :
    Released m r s ((((s.withMark m).withBilling { (s.withMark m).billing with held := none }).poke
      0x000B 0).journalWrite r) := by
  let h0 := ((s.withMark m).withBilling { (s.withMark m).billing with held := none }).poke 0x000B 0
  have hwfu : (s.withMark m).mem.wf = true := Memory.writeAll_wf_eq _ _ _ hwf
  have hwf0 : h0.mem.wf = true := Memory.write_wf_eq _ 0x000B 0 hwfu
  have hbilling := h0.journalWrite_billing r
  exact
    { wf := State.journalWrite_wf _ _ hwf0
      rd := by rw [hbilling]; rfl
      hold := by rw [hbilling]; exact hhold
      resume := by rw [hbilling]; rfl
      record := State.journalWrite_recordAt r hwf0
      attn := State.journalWrite_attn _ _
      shows := by rw [State.journalWrite_shows r hwf0, hbilling]
      held := by
        rw [h0.journalWrite_read_other r (by decide) (by decide) (not_recordBytes_of_lt (by decide)), hbilling]
        exact Memory.read_write_same (m := (s.withMark m).mem) (a := 0x000B) 0 hwfu (by decide)
      same := by simp [sameBut_iff, State.withMark] }

namespace Released

variable {s b : State} {m : Half} {r x : Record}

/-- The waiting record follows into the journal. -/
theorem writes (h : Released m r s b) (hw : b.billing.w = s.billing.w + 1) :
    Released m r s ((b.withBilling { b.billing with waiting := none }).journalWrite x) := by
  let c := b.withBilling { b.billing with waiting := none }
  have hwfc : c.mem.wf = true := h.wf
  have hbilling := c.journalWrite_billing x
  have hrecord : RecordAt c s.billing.w r := h.record
  have hsame := sameBut_iff.mp h.same
  exact
    { wf := State.journalWrite_wf _ _ hwfc
      rd := by rw [hbilling]; exact h.rd
      hold := by rw [hbilling]; exact h.hold
      resume := by rw [hbilling]; exact h.resume
      record := hrecord.keep (c.journalWrite_reads x) fun a ha hc => by
        rw [show c.billing.w = s.billing.w + 1 from hw] at hc
        exact hc.elim (fun hh => absurd (journalHeader_bound hh) (by have := (recordBytes_bounds ha).1; omega))
          (not_recordBytes_next ha)
      attn := by
        rw [State.journalWrite_attn, show c.attn = _ from h.attn]
        rfl
      shows := by rw [State.journalWrite_shows x hwfc, hbilling]
      held := by
        rw [c.journalWrite_read_other x (by decide) (by decide) (not_recordBytes_of_lt (by decide)), hbilling]
        exact h.held
      same := by simpa [sameBut_iff, c] using hsame }

/-- The waiting record becomes the held one. -/
theorem holds (h : Released m r s b) :
    Released m r s ((b.withBilling { b.billing with waiting := none }).holdRecord x) := by
  let c := b.withBilling { b.billing with waiting := none }
  have hreads := c.holdRecord_reads x
  have hsame := sameBut_iff.mp h.same
  exact
    { wf := Memory.write_wf_eq _ 0x000B 1 h.wf
      rd := h.rd
      hold := h.hold
      resume := h.resume
      record := h.record.keep (t := c.holdRecord x) hreads fun a ha hc => by
        have := (recordBytes_bounds ha).1
        omega
      attn := h.attn
      shows :=
        (Memory.readAll_write_other b.mem 0x000B 2 0x0004 1 (.inl (by decide))).trans h.shows
      held := Memory.read_write_same (m := b.mem) (a := 0x000B) 1 h.wf (by decide)
      same := by simpa [sameBut_iff, c, State.holdRecord] using hsame }

end Released


/-- Where the waiting record goes after the held one, with `fill` records before the two (R96). -/
def Followed (fill : Nat) (s b : State) : Prop :=
  (s.billing.waiting = none → b.billing.held = none ∧ b.billing.waiting = none
      ∧ b.billing.w = s.billing.w + 1)
    ∧ ∀ x : Record, s.billing.waiting = some x → b.billing.waiting = none
      ∧ (fill < 127 → b.billing.held = none ∧ b.billing.w = s.billing.w + 2
          ∧ RecordAt b (s.billing.w + 1) x)
      ∧ (fill = 127 → b.billing.held = some x ∧ b.billing.w = s.billing.w + 1)

/-- The waiting record after the held record has entered the journal. -/
theorem Released.follow {s a : State} {m : Half} {r : Record} {fill : Nat} (h : Released m r s a)
    (hfill : a.billing.fill = fill + 1) (hroom : fill < 128) (hw : a.billing.w = s.billing.w + 1)
    (hheld : a.billing.held = none) (hwaiting : a.billing.waiting = s.billing.waiting) :
    Released m r s a.releaseWaiting ∧ Followed fill s a.releaseWaiting := by
  cases hx : s.billing.waiting with
  | none =>
    have hnone : a.releaseWaiting = a := by rw [State.releaseWaiting, hwaiting, hx]
    rw [hnone]
    refine ⟨h, fun _ => ⟨hheld, hwaiting.trans hx, hw⟩, fun x hsome => ?_⟩
    rw [hx] at hsome
    cases hsome
  | some x =>
    let c := a.withBilling { a.billing with waiting := none }
    have henters : a.releaseWaiting = c.enterRecord x := by
      rw [State.releaseWaiting, hwaiting, hx, hheld]
    have hcfill : c.billing.fill = fill + 1 := hfill
    rcases Nat.lt_or_eq_of_le (Nat.le_of_lt_succ hroom) with hlt | heq
    · have hwrites : a.releaseWaiting = c.journalWrite x :=
        henters.trans (State.enterRecord_writes x (by omega) (.inl h.hold))
      have hbilling := c.journalWrite_billing x
      rw [hwrites]
      refine ⟨h.writes hw, fun hnone => absurd (hx.symm.trans hnone) (by simp), fun y hy => ?_⟩
      obtain rfl : x = y := Option.some.inj (hx.symm.trans hy)
      rw [hbilling]
      refine ⟨rfl, fun _ => ⟨hheld, ?_, ?_⟩, fun heq => absurd heq hlt.ne⟩
      · show a.billing.w + 1 = _
        rw [hw, BitVec.add_assoc]
        rfl
      · rw [← hw]
        exact State.journalWrite_recordAt (s := c) x h.wf
    · have hholds : a.releaseWaiting = c.holdRecord x :=
        henters.trans (State.enterRecord_holds x (by omega) hheld)
      rw [hholds]
      refine ⟨h.holds, fun hnone => absurd (hx.symm.trans hnone) (by simp), fun y hy => ?_⟩
      obtain rfl : x = y := Option.some.inj (hx.symm.trans hy)
      exact ⟨rfl, fun hlt => absurd heq hlt.ne, fun _ => ⟨rfl, hw⟩⟩

/-- An accepted mark that makes room for the held record (R96). -/
theorem State.markLow_releases {s : State} {v : Byte} {r : Record} (hwf : s.mem.wf = true)
    (hheld : s.billing.held = some r) (hhold : s.billing.hold = true)
    (haccepts : s.billing.acceptsMark (half s.link.latch v) = true)
    (hroom : (s.billing.w - half s.link.latch v).toNat < 128) :
    ∃ b, Released (half s.link.latch v) r s b
      ∧ Followed (s.billing.w - half s.link.latch v).toNat s b
      ∧ s.markLow v = b.showFlagged.retestResume.loadLatch s.link.latch := by
  let u := s.withMark (half s.link.latch v)
  let h0 := (u.withBilling { u.billing with held := none }).poke 0x000B 0
  have hfill0 : h0.billing.fill < 128 := hroom
  have hreleased : u.releaseHeld = h0.journalWrite r := by
    have hu : u.billing.held = some r := hheld
    rw [State.releaseHeld, hu]
    exact (if_pos hroom).trans (State.enterRecord_writes r hfill0 (.inl hhold))
  have hbilling := h0.journalWrite_billing r
  obtain ⟨hb, hfollowed⟩ := (released_held (m := half s.link.latch v) (r := r) hwf hhold).follow
    (State.journalWrite_fill r hfill0) hroom (by rw [hbilling]; rfl) (by rw [hbilling]; rfl)
    (by rw [hbilling]; rfl)
  refine ⟨_, hb, hfollowed, ?_⟩
  rw [State.markLow_of_accepted haccepts, show (s.withMark (half s.link.latch v)).releaseHeld = _ from hreleased,
    State.retestResume_billing]
  refine congrArg (State.loadLatch _) ?_
  rw [← half_high s.link.latch v, ← hb.rd]
  rfl

/-- Settles O21. -/
theorem readMarkReleasesHeldRecord : Obligations.ReadMarkReleasesHeldRecord := by
  intro s v c k r hrow hentered hptr hwf hheld hhold m haccepts hroom
  obtain ⟨b, hb, hfollowed, hmark⟩ := State.markLow_releases hwf hheld hhold
    ((Billing.acceptsMark_iff _ _).mpr haccepts) hroom
  let t := b.showFlagged.retestResume
  have hexec : exec c s = .next ((t.loadLatch s.link.latch).advance k) := by
    rw [exec_windowRow hrow, State.windowByte_of_entered v hentered, hptr,
      show ((0x0007 : BitVec 14).toNat = 0x0007) from rfl, State.windowEffect_mark, hmark]
  have htbilling : t.billing = { b.billing with hold := b.billing.hold && !b.billing.holdEnds } :=
    b.showFlagged.retestResume_billing
  obtain ⟨-, hothers⟩ := b.showFlagged.retestResume_attn
  have htmem : t.mem = b.showFlagged.mem := State.retestResume_mem _
  have hsame := sameBut_iff.mp (hb.same.mono (qs := [.mem, .link, .attn, .billing]) (by decide))
  have hlink : t.link = s.link := (State.retestResume_link b.showFlagged).trans (hb.same .link (by decide))
  have hrecords {mark : Half} {x : Record} (hx : RecordAt b mark x) :
      RecordAt ((t.loadLatch s.link.latch).advance k) mark x :=
    (congrArg (fun mem : Memory => mem.readAll _ 64) htmem).trans hx.showFlagged
  obtain ⟨htheld, htwaiting, htw⟩ : t.billing.held = b.billing.held
      ∧ t.billing.waiting = b.billing.waiting ∧ t.billing.w = b.billing.w := by
    rw [htbilling]
    exact ⟨rfl, rfl, rfl⟩
  refine ⟨_, hexec, ?_, ?_, ?_, hrecords hb.record, ?_, ?_, ?_, ?_, ?_, fun hw => ?_, fun x hw => ?_⟩
  · simpa [sameBut_iff, t, State.loadLatch, State.advance] using hsame
  · simp only [State.advance, State.loadLatch, State.withLink_link, hlink]
    rfl
  · show t.billing.rd = m
    rw [htbilling]
    exact hb.rd
  · show t.attn.journalNew = true
    rw [show t.attn.journalNew = b.attn.journalNew from hothers.2 .journalNew (by decide), hb.attn]
    rfl
  · refine ⟨?_, fun d hd => ?_⟩
    · show t.attn.mask = _
      rw [hothers.1, State.showFlagged_attn, hb.attn]
      rfl
    · simp only [List.mem_cons, List.not_mem_nil, or_false, not_or] at hd
      show t.attn.has d = _
      rw [hothers.2 d (by simpa using hd.2), State.showFlagged_attn, hb.attn]
      exact Attention.has_put_other _ _ hd.1
  · show t.billing.hold = !decide (t.billing.fill ≤ s.billing.resume)
    rw [htbilling, ← hb.resume]
    show (b.billing.hold && !(b.billing.hold && decide (b.billing.fill ≤ b.billing.resume)))
      = !decide (b.billing.fill ≤ b.billing.resume)
    rw [hb.hold, Bool.true_and, Bool.true_and]
  · show t.mem.readAll 0x0004 2 = beBytes 2 t.billing.w.toNat
    rw [htmem, htw]
    exact (Memory.readAll_write_other b.mem 0x000C 2 0x0004 _ (.inl (by decide))).trans hb.shows
  · show t.mem.read 0x000B = flagByte t.billing.held.isSome
    rw [htmem, htheld, b.showFlagged_reads 0x000B (by decide)]
    exact hb.held
  · obtain ⟨h1, h2, h3⟩ := hfollowed.1 hw
    exact ⟨htheld.trans h1, htwaiting.trans h2, htw.trans h3⟩
  · obtain ⟨hgone, hlt, heq⟩ := hfollowed.2 x hw
    refine ⟨htwaiting.trans hgone, fun hroom' => ?_, fun hfull => ?_⟩
    · obtain ⟨h1, h2, h3⟩ := hlt hroom'
      exact ⟨htheld.trans h1, htw.trans h2, hrecords h3⟩
    · obtain ⟨h1, h2⟩ := heq hfull
      exact ⟨htheld.trans h1, htw.trans h2⟩

/-! ## A link reset (O24) -/

/-- Settles O24. -/
theorem linkResetClearsHostState : Obligations.LinkResetClearsHostState := by
  intro s hdue hnotices hwf next
  let u := s.withLink (s.link.afterReset s.billing.rdHigh)
  have hreset : exec .linkReset s = .next s.resetHost := by
    refine congrArg Host.Outcome.next ((if_pos hdue).trans ?_)
    rw [State.linkReset_eq, hnotices]
    rfl
  have horders : s.resetHost.orders = u.resetOrders.orders := by simp [State.resetHost, u]
  have hmem : s.resetHost.mem = u.resetOrders.mem := by simp [State.resetHost, u]
  have hzero {n : SlotNo} {a : Nat} (ha : engineBytes n a) : s.resetHost.mem.read a = 0 := by
    rw [hmem]
    exact State.resetOrders_read_zero (s := u) hwf ha
  have hbilling : u.resetOrders.billing = _ := u.resetOrders_billing
  refine ⟨_, hreset, ?_, ?_, fun n => ⟨?_, hzero (.inl rfl), ?_⟩, ?_, ?_, fun a ha => ?_, ?_, ?_, ?_, ?_, ?_⟩
  · simp [State.resetHost, Link.afterReset, Billing.rdHigh]
  · have hwarns : s.insulation.condition.warns
        = (s.insulation.condition == .warning || s.insulation.condition == .fault) := by
      cases s.insulation.condition <;> rfl
    rw [← hwarns]
    simp [State.resetHost, State.causesAfterReset, State.resetOrders_billing, State.resetOrders_insulation,
      Billing.detach]
  · rw [State.slot_congr horders]
    exact u.resetOrders_slot n
  · exact Memory.readAll_eq_replicate fun c h1 h2 => hzero (.inr ⟨h1, by omega⟩)
  · rw [horders]
    exact u.resetOrders_queues
  · rw [horders]
    exact u.resetOrders_notices.trans hnotices
  · rw [hmem]
    exact State.resetOrders_read_other u (not_exists.mp ha)
  · simp [State.resetHost, State.resetKeepalive_power, State.resetOrders_power, State.resetOrders_billing,
      Billing.detach, next]
  · simp [State.resetHost, State.resetOrders_heating]
  · simp [State.resetHost, State.resetOrders_insulation]
  · simp [State.resetHost, State.resetOrders_billing]
    rfl
  · simp [sameBut_iff, State.resetHost]

end Sys2Proof.Machine
end

/-! # What a drained queue leaves: posted copies and ended orders -/

section
namespace Sys2Proof.Machine

/-! ## A slot keeps its posted order (R25, R35) -/

theorem State.setSlotState_posted (s : State) (n k : SlotNo) (st : SlotState) :
    ((s.setSlotState n st).slot k).posted = (s.slot k).posted := by
  by_cases hk : k = n
  · rw [hk, State.slot_setSlotState_same]
  · rw [State.slot_setSlotState_other _ _ hk]

theorem State.finish_posted (s : State) (n k : SlotNo) (e : Ending) :
    ((s.finish n e).slot k).posted = (s.slot k).posted := by
  by_cases hk : k = n
  · rw [hk, State.slot_finish_same]
  · rw [State.slot_finish_other _ _ hk]

theorem State.endCharge_posted (s : State) (k : SlotNo) (cause : Byte) :
    ((s.endCharge cause).slot k).posted = (s.slot k).posted := by
  unfold State.endCharge
  split
  · rw [State.finish_posted]
    rfl
  · rfl

theorem State.slot_of_orders {s t : State} {n : SlotNo} {p : Posted} (h : t.orders = s.orders)
    (hs : (s.slot n).posted = some p) : (t.slot n).posted = some p := by
  rw [State.slot_congr h, hs]

/-- No operation of a block and no drain takes a slot's copy away. -/
theorem posted_kept (n : SlotNo) (p : Posted) : QueueKept fun _ s => (s.slot n).posted = some p where
  quiet h hs := State.slot_of_orders h.orders hs
  relabel _ _ _ hs := hs
  journal r _ hs := State.slot_of_orders (by simp) hs
  holdRecord _ _ hs := hs
  freeHeld hs := hs
  holdBegins hs := State.slot_of_orders (by simp) hs
  holdEnds hs := State.slot_of_orders (by simp) hs
  levels _ _ hs := hs
  mark _ hs := hs
  shown hs := hs
  trip _ hs := State.slot_of_orders (by simp) hs
  clears hs := State.slot_of_orders (by simp) hs
  condition _ _ hs := State.slot_of_orders (by simp [State.newCondition]) hs
  fault _ _ _ hs := State.slot_of_orders (by simp [State.newCondition]) hs
  sessionOpens _ _ _ hs := hs
  sessionEnds _ _ hs := hs
  finishes e hs := (State.finish_posted _ _ _ e).trans hs
  chargeEnds e _ _ hs := (State.finish_posted _ _ _ e).trans hs
  planEnds e _ _ hs := (State.finish_posted _ _ _ e).trans hs
  checkEnds e _ hs := (State.finish_posted _ _ _ e).trans hs
  closeEnds e _ hs := (State.finish_posted _ _ _ e).trans hs
  chargeRuns _ _ _ hs := (State.setSlotState_posted _ _ _ _).trans hs
  planRuns _ _ _ hs := (State.setSlotState_posted _ _ _ _).trans hs
  checkRuns _ hs := (State.setSlotState_posted _ _ _ _).trans hs
  closeRuns _ _ hs := by
    refine State.slot_of_orders (State.failGate_orders _) ?_
    rw [State.endCharge_posted]
    exact (State.setSlotState_posted _ _ _ _).trans hs
  waits := .inl (labelFree_of_const _)
  drained _ hs := hs
  requeue _ _ _ hs := hs
  takesHead _ _ _ _ hs := hs
  unqueues e _ _ _ _ hs := by
    rw [State.finish_posted]
    unfold State.unqueue
    split <;> exact hs

/-- A queue drained as R32 has it, from the engine's agreement after it. -/
theorem drained_of_ordersShow {b : Block} {s t : State} (ht : OrdersShow t)
    (hposted : ∀ k p, (s.slot k).posted = some p → (t.slot k).posted = some p)
    (hdone : t.queue b = [] ∨ t.occupied b = true) : Drained b s t := by
  rw [ordersShow_iff] at ht
  refine ⟨hdone, fun k hk hgone p hp hblock => ?_⟩
  have htp := hposted k p hp
  cases hstate : (t.slot k).state with
  | free => rw [(ht.free k).mp hstate] at htp; cases htp
  | posted => exact absurd hstate (ht.posted k (by simp [Busy.none]))
  | waiting =>
    obtain ⟨b', hb'⟩ := ht.waiting k hstate (by simp [Busy.none])
    obtain ⟨-, ⟨q, hq, hqblock⟩, -⟩ := ht.queued b' k hb'
    obtain rfl : p = q := Option.some.inj (htp.symm.trans hq)
    obtain rfl : b = b' := Option.some.inj (hblock.symm.trans hqblock)
    exact absurd hb' hgone
  | running => exact .inr rfl
  | done => exact .inl rfl

/-! ## An order that has ended stays (R35) -/

/-- The engine's agreement, with one slot DONE whose record and bytes are known. -/
structure DoneStays (n : SlotNo) (p : Posted) (m : Nat → Byte) (l : Busy) (s : State) : Prop where
  orders : OrdersBut l s
  slot : s.slot n = ⟨.done, some p⟩
  reads : ∀ a, engineBytes n a → s.mem.read a = m a

namespace DoneStays

variable {n : SlotNo} {p : Posted} {m : Nat → Byte} {l l' : Busy} {s t : State}

theorem move (h : DoneStays n p m l s) (ho : OrdersBut l' t) (hslot : t.slot n = s.slot n)
    (hreads : ∀ a, engineBytes n a → t.mem.read a = s.mem.read a) : DoneStays n p m l' t :=
  ⟨ho, hslot.trans h.slot, fun a ha => (hreads a ha).trans (h.reads a ha)⟩

/-- A move that leaves the order engine alone and stores nothing in a slot. -/
theorem beside (h : DoneStays n p m l s) (ho : OrdersBut l' t) (horders : t.orders = s.orders)
    (hreads : ∀ a, 0x40 ≤ a → a < 0x440 → t.mem.read a = s.mem.read a) : DoneStays n p m l' t :=
  h.move ho (State.slot_congr horders n) fun a ha =>
    hreads a (engineBytes_bound ha).1 (engineBytes_bound ha).2

theorem ne_of_state {k : SlotNo} (h : DoneStays n p m l s) (hk : (s.slot k).state ≠ .done) : n ≠ k := by
  rintro rfl
  exact hk (by rw [h.slot])

theorem ne_of_runsAs {k : SlotNo} {w : Runner} (h : DoneStays n p m l s) (hk : s.RunsAs k w) : n ≠ k :=
  h.ne_of_state (by rw [hk.1]; decide)

theorem ne_of_runner {k : SlotNo} {w : Runner} (h : DoneStays n p m l s)
    (hk : s.runningSlot w = some k) : n ≠ k := h.ne_of_runsAs ((h.orders.runner w k).mp hk)

theorem ne_of_taken {k : SlotNo} {o : Order} (h : DoneStays n p m (l.take k o) s) : n ≠ k := by
  obtain ⟨hstate, -⟩ := h.orders.taken (k, o) List.mem_cons_self
  refine h.ne_of_state ?_
  rcases hstate with hstate | hstate <;> rw [hstate] <;> decide

theorem not_labelFree (h : DoneStays n p m l s) : ¬LabelFree (DoneStays n p m) := fun hfree =>
  (hfree l (l.take n .clearTrip) s rfl h).ne_of_taken rfl

/-- Another slot's order ends. -/
theorem finish {k : SlotNo} {e : Ending} (h : DoneStays n p m l s) (hk : n ≠ k)
    (hslot : t.slot n = s.slot n) (hmem : t.mem = s.mem) (ho : OrdersBut l' (t.finish k e)) :
    DoneStays n p m l' (t.finish k e) :=
  h.move ho (by rw [State.slot_finish_other _ _ hk, hslot]) fun a ha => by
    rw [State.finish_read_other _ _ _ (not_engineBytes_of_ne hk ha), hmem]

/-- Another slot's order begins to run. -/
theorem runs {k : SlotNo} (h : DoneStays n p m l s) (hk : n ≠ k)
    (horders : t.orders = (s.setSlotState k .running).orders)
    (hmem : t.mem = (s.setSlotState k .running).mem) (ho : OrdersBut l' t) : DoneStays n p m l' t :=
  h.move ho (by rw [State.slot_congr horders, State.slot_setSlotState_other _ _ hk]) fun a ha => by
    rw [hmem, State.setSlotState_read_other _ _ _ (not_engineBytes_of_ne hk ha)]

end DoneStays

/-- A write of the header or the journal stores nothing in a slot. -/
theorem State.poke_slots (s : State) {x : Nat} (v : Byte) (hx : x < 0x40) (a : Nat) (h1 : 0x40 ≤ a)
    (_ : a < 0x440) : (s.poke x v).mem.read a = s.mem.read a := Memory.read_write_other _ _ (by omega)

theorem State.journalWrite_slots (s : State) (r : Record) (a : Nat) (h1 : 0x40 ≤ a) (h2 : a < 0x440) :
    (s.journalWrite r).mem.read a = s.mem.read a :=
  s.journalWrite_reads r a fun h => h.elim (fun hh => by have := journalHeader_bound hh; omega)
    (not_recordBytes_of_lt (by omega))

theorem done_kept (n : SlotNo) (p : Posted) (m : Nat → Byte) : QueueKept (DoneStays n p m) where
  quiet hq h := h.beside (orders_kept.quiet hq h.orders) hq.orders fun a _ _ => by rw [hq.mem]
  relabel h1 h2 h3 h := h.move (orders_kept.relabel h1 h2 h3 h.orders) rfl fun _ _ => rfl
  journal r hfill h := h.beside (orders_kept.journal r hfill h.orders) (by simp) (State.journalWrite_slots _ r)
  holdRecord r hheld h := h.beside (orders_kept.holdRecord r hheld h.orders) rfl
    (State.poke_slots _ _ (by decide))
  freeHeld h := h.beside (orders_kept.freeHeld h.orders) rfl (State.poke_slots _ _ (by decide))
  holdBegins h := h.beside (orders_kept.holdBegins h.orders) (by simp) fun a _ _ => by simp
  holdEnds h := h.beside (orders_kept.holdEnds h.orders) (by simp) fun a _ _ => by simp
  levels halt resume h := h.beside (orders_kept.levels halt resume h.orders) rfl fun a h1 h2 =>
    (State.poke_slots _ _ (by decide) a h1 h2).trans (State.poke_slots _ _ (by decide) a h1 h2)
  mark x h := h.beside (orders_kept.mark x h.orders) rfl fun a h1 _ =>
    Memory.read_writeAll_other _ _ _ (by rw [length_beBytes]; simp only [Config.hdrRd]; omega)
  shown h := h.beside (orders_kept.shown h.orders) rfl (State.poke_slots _ _ (by decide))
  trip hk h := h.beside (orders_kept.trip hk h.orders) (by simp) fun a _ _ => by simp
  clears h := h.beside (orders_kept.clears h.orders) (by simp) fun a _ _ => by simp
  condition h1 h2 h := h.beside (orders_kept.condition h1 h2 h.orders) (by simp [State.newCondition])
    fun a _ _ => by simp [State.newCondition]
  fault h1 h2 h3 h := h.beside (orders_kept.fault h1 h2 h3 h.orders) (by simp [State.newCondition])
    fun a _ _ => by simp [State.newCondition]
  sessionOpens ses c hnone h := h.beside (orders_kept.sessionOpens ses c hnone h.orders) rfl fun _ _ _ => rfl
  sessionEnds sum hc h := h.beside (orders_kept.sessionEnds sum hc h.orders) rfl fun _ _ _ => rfl
  finishes e h := h.finish h.ne_of_taken rfl rfl (orders_kept.finishes e h.orders)
  chargeEnds {_ s k c} e hc hk h := by
    have hrun : s.RunsAs k .charge := hk.elim (fun hks => (h.orders.runner .charge k).mp (by
      simp [State.runningSlot, hc, hks])) id
    exact h.finish (h.ne_of_runsAs hrun) rfl rfl (orders_kept.chargeEnds e hc hk h.orders)
  planEnds {_ s k c} e hc hk h := by
    have hrun : s.RunsAs k .heat := hk.elim (fun hks => (h.orders.runner .heat k).mp (by
      simp [State.runningSlot, hc, hks])) id
    exact h.finish (h.ne_of_runsAs hrun) rfl rfl (orders_kept.planEnds e hc hk h.orders)
  checkEnds {_ s c} e hc h := h.finish (h.ne_of_runner (w := .check) (by simp [State.runningSlot, hc])) rfl rfl
    (orders_kept.checkEnds e hc h.orders)
  closeEnds {_ s k ph} e hc h := h.finish (h.ne_of_runner (w := .close) (by simp [State.runningSlot, hc])) rfl rfl
    (orders_kept.closeEnds e hc h.orders)
  chargeRuns h1 h2 h3 h := h.runs h.ne_of_taken (by simp) (by simp) (orders_kept.chargeRuns h1 h2 h3 h.orders)
  planRuns h1 h2 h3 h := h.runs h.ne_of_taken (by simp) (by simp) (orders_kept.planRuns h1 h2 h3 h.orders)
  checkRuns h1 h := h.runs h.ne_of_taken (by simp) (by simp)
    (orders_kept.checkRuns (.inr (h1.resolve_left h.not_labelFree)) h.orders)
  closeRuns {_ s k _ ses} h1 h2 h := by
    have hk := h.ne_of_taken
    have hslot : (s.setSlotState k .running).slot n = s.slot n := State.slot_setSlotState_other _ _ hk
    have hread : ∀ a, engineBytes n a → (s.setSlotState k .running).mem.read a = s.mem.read a :=
      fun a ha => State.setSlotState_read_other _ _ _ (not_engineBytes_of_ne hk ha)
    have hends : (s.startClose k ses).slot n = s.slot n
        ∧ ∀ a, engineBytes n a → (s.startClose k ses).mem.read a = s.mem.read a := by
      rw [State.startClose, State.slot_congr (State.failGate_orders _), State.failGate_mem, State.endCharge]
      split
      · rename_i c hc
        have hne : n ≠ c.slot := h.ne_of_runner (w := .charge) (congrArg (Option.map Charge.slot) hc)
        refine ⟨(State.slot_finish_other _ _ hne).trans hslot, fun a ha => ?_⟩
        exact (State.finish_read_other _ _ _ (not_engineBytes_of_ne hne ha)).trans (hread a ha)
      · exact ⟨hslot, hread⟩
    exact h.move (orders_kept.closeRuns h1 h2 h.orders) hends.1 hends.2
  waits := .inr fun h => ⟨h.orders.behind _, fun k hk => (h.orders.queued _ k hk).2.1⟩
  drained hdone h := h.beside (orders_kept.drained hdone h.orders) rfl fun _ _ _ => rfl
  requeue _ _ hfree h := absurd hfree h.not_labelFree
  takesHead h1 h2 h3 h4 h := h.move (orders_kept.takesHead h1 h2 h3 h4 h.orders) rfl fun _ _ => rfl
  unqueues {_ s k q _} e h1 h2 h3 h4 h := by
    have hk : n ≠ k := h.ne_of_state (by rw [h3]; decide)
    have hsame : (s.unqueue k q.order).slot n = s.slot n ∧ (s.unqueue k q.order).mem = s.mem := by
      unfold State.unqueue
      split <;> exact ⟨rfl, rfl⟩
    exact h.finish hk hsame.1 hsame.2 (orders_kept.unqueues e h1 h2 h3 h4 h.orders)

end Sys2Proof.Machine
end

/-! # Rounding, the idle step, and the events of counts at their limits -/

section
namespace Sys2Proof.Machine

/-! ## Cost (O47) -/

/-- Settles O47: the carry is what is left of a division rounded half up. -/
theorem costRoundsHalfUp : Obligations.CostRoundsHalfUp := by
  intro acc carry hlow hhigh
  have hdiv := Int.emod_add_mul_ediv ((acc : Int) + carry + 500) 1000
  have hmod := Int.emod_nonneg ((acc : Int) + carry + 500) (show (1000 : Int) ≠ 0 by decide)
  have hlt := Int.emod_lt_of_pos ((acc : Int) + carry + 500) (show (0 : Int) < 1000 by decide)
  simp only [reportedCost, nextCarry]
  omega

/-! ## The idle step (O51) -/

theorem tickTenths_eq (seconds tenths : Nat) : tickTenths seconds tenths =
    if tenths < 9 then (seconds, tenths + 1) else (seconds + 1, 0) := by
  unfold tickTenths
  split <;> split <;> first | rfl | omega

/-- Settles O51. -/
theorem idleStepCounts : Obligations.IdleStepCounts := by
  intro s hidle up
  have hstep : step s = .next s.tick := by rw [step, hidle]
  have hup (a b : Nat) : tickTenths a b = up a b := tickTenths_eq a b
  refine ⟨_, hstep, by simp [sameBut_iff, State.tick], rfl, ?_, ?_, ?_, rfl⟩
  · have hkeep : s.power.keepalive.tick s.power.period = match s.power.keepalive with
        | .alive count half => .alive (min (10 * s.power.period) (count + 1)) half
        | k => k := by
      cases s.power.keepalive <;> rfl
    have hcharge : Charge.tick = fun c => { c with
        seconds := (up c.seconds c.tenths).1, tenths := (up c.seconds c.tenths).2 } := by
      funext c
      rw [Charge.tick, hup]
    rw [← hcharge]
    exact congrArg (fun k => { s.power with keepalive := k, charge := s.power.charge.map Charge.tick }) hkeep
  · have hplan : Plan.tick = fun p => { p with
        seconds := (up p.seconds p.tenths).1, tenths := (up p.seconds p.tenths).2 } := by
      funext p
      rw [Plan.tick, hup]
    rw [← hplan]
    rfl
  · rfl

/-! ## The keepalive's events (O50) -/

/-- Settles O50. -/
theorem keepaliveEvents : Obligations.KeepaliveEvents := by
  intro s
  refine ⟨fun count halive hdue => ?_, fun hbelow => ?_, fun count half halive hdue => ?_, fun hbelow => ?_⟩
  · have hhalf : s.power.halfDue = true := s.power.halfDue_iff.mpr ⟨count, halive, hdue⟩
    refine ⟨_, congrArg Host.Outcome.next (if_pos hhalf), by simp [sameBut_iff], rfl, ⟨rfl, fun c hc => ?_⟩, ?_⟩
    · exact Attention.has_put_other _ _ (by simpa using hc)
    · rw [halive]
      rfl
  · refine congrArg Host.Outcome.next (if_neg fun hhalf => ?_)
    obtain ⟨count, halive, hdue⟩ := s.power.halfDue_iff.mp hhalf
    have := hbelow count halive
    omega
  · have hexpires : s.power.expiryDue = true := s.power.expiryDue_iff.mpr ⟨count, half, halive, hdue⟩
    let p : Power := { s.power with keepalive := .expired }
    have heff : (s.regrant p).power.effGrant = p.effGrant := s.regrant_effGrant p
    refine ⟨s.regrant p, congrArg Host.Outcome.next (if_pos hexpires), sameBut_regrant s p, (s.regrant_power p).2.2.2.1,
      ?_, fun hkept => ?_, fun hheld hfails => ?_⟩
    · rw [heff]
      rfl
    · rw [State.regrant_of_kept (by rwa [heff] at hkept)]
      exact ⟨rfl, by simp [sameBut_iff]⟩
    · rw [State.regrant_of_failed hheld (by rwa [heff] at hfails)]
      refine ⟨?_, ?_, drivesOnly_failGate (s.withPower p)⟩ <;> simp [State.failGate_power]
  · refine congrArg Host.Outcome.next (if_neg fun hexpires => ?_)
    obtain ⟨count, half, halive, hdue⟩ := s.power.expiryDue_iff.mp hexpires
    have := hbelow count half halive
    omega

/-! ## A CHECK INSULATION that ends, and its queue (R32, R165) -/

theorem State.drain_of_empty {s : State} {b : Block} (h : s.queue b = []) : s.drain b = s := by
  rw [State.drain, h]
  rfl

/-- A drain ends with what an order that has ended left, each slot's copy, and an agreeing engine. -/
theorem drain_leaves {b : Block} (hb : b ≠ .general) {l : Busy}
    (hlimbo : ∀ e ∈ l.limbo, orderBlock e.2 = some .general) {u : State} {n : SlotNo} {p : Posted}
    (hu : OrdersBut (l.drain b) u) (hslot : u.slot n = ⟨.done, some p⟩) :
    DoneStays n p (fun a => u.mem.read a) l (u.drain b)
      ∧ ∀ k q, (u.slot k).posted = some q → ((u.drain b).slot k).posted = some q :=
  ⟨(done_kept n p _).drain hlimbo hb ⟨hu, hslot, fun _ _ => rfl⟩,
    fun k q hq => (posted_kept k q).drain (l := l) hlimbo hb hq⟩

theorem State.endCheck_of_some {s : State} {ck : Check} (e : Ending) (h : s.insulation.check = some ck) :
    s.endCheck e = (s.withInsulation { s.insulation with check := none }).finish ck.slot e := by
  simp only [State.endCheck, h]

theorem State.endCheck_of_none {s : State} (e : Ending) (h : s.insulation.check = none) :
    s.endCheck e = s := by
  simp only [State.endCheck, h]

theorem State.endCheck_insulation (s : State) (e : Ending) :
    (s.endCheck e).insulation = { s.insulation with check := none } := by
  cases h : s.insulation.check with
  | none => rw [State.endCheck_of_none e h, ← h]
  | some ck =>
    rw [State.endCheck_of_some e h, State.finish_insulation]
    rfl

/-- The drain follows the end of a check that ran before. -/
theorem State.afterCheck_of_ended {s t : State} (hs : s.insulation.check.isSome = true)
    (ht : t.insulation.check = none) : t.afterCheck s.insulation = t.drain .insulation := by
  rw [State.afterCheck, hs, ht]
  rfl

/-- A running check ends and its queue drains: the engine agrees, the check's slot is DONE with its
result, and the queue is empty or waits behind the next check. -/
theorem checkEnds_drains {l : Busy} (hlimbo : ∀ e ∈ l.limbo, orderBlock e.2 = some .general)
    {u : State} {ck : Check} (hu : OrdersBut l u) (hck : u.insulation.check = some ck) (e : Ending) :
    ∃ p, (u.slot ck.slot).posted = some p ∧
      DoneStays ck.slot p (fun a => (u.endCheck e).mem.read a) l ((u.endCheck e).drain .insulation)
      ∧ Ended (u.endCheck e) ck.slot p e
      ∧ ∀ k q, (u.slot k).posted = some q →
        (((u.endCheck e).drain .insulation).slot k).posted = some q := by
  obtain ⟨-, p, hp, -⟩ := (hu.runner .check ck.slot).mp (congrArg (Option.map Check.slot) hck)
  have hended : Ended (u.endCheck e) ck.slot p e := by
    rw [State.endCheck_of_some e hck]
    exact ended_finish e hp hu.wf
  have hbut : OrdersBut (l.drain .insulation) (u.endCheck e) := by
    rw [State.endCheck_of_some e hck]
    exact hu.checkEnds e hck
  obtain ⟨hdone, hposted⟩ := drain_leaves (by decide) hlimbo hbut hended.1
  refine ⟨p, hp, hdone, hended, fun k q hq => hposted k q ?_⟩
  rw [State.endCheck_of_some e hck, State.finish_posted]
  exact hq

/-! ## Freshness and the time limit of a check (O56) -/

theorem State.failGate_insulation (s : State) :
    ∃ f : HalfPeriod → HalfPeriod, (∀ h, (f h).course = h.course)
      ∧ s.failGate.insulation = { s.insulation with half := s.insulation.half.map f } :=
  s.failGateIf_insulation true false

/-- Settles O56. -/
theorem freshnessAndCheckTimeLimits : Obligations.FreshnessAndCheckTimeLimits := by
  intro s
  have hnoExpiry (hnot : ¬s.insulation.atWindow = true) : exec .freshnessExpiry s = .next s :=
    congrArg Host.Outcome.next (if_neg hnot)
  have hnoTimeout (hnot : ¬s.insulation.checkDue = true) : exec .checkInsulationTimeout s = .next s :=
    congrArg Host.Outcome.next (if_neg hnot)
  refine ⟨fun hnone => hnoExpiry ?_, fun l hl => ⟨fun hlow => hnoExpiry ?_, fun hfresh hage => ?_⟩,
    fun hnone => hnoTimeout ?_, fun ck hck => ⟨fun hlow => hnoTimeout ?_, fun p hdue hslot hqueue hwf => ?_,
      fun hdue horders => ?_⟩⟩
  · rw [Insulation.atWindow_iff]
    rintro ⟨hfresh, l, hl, -⟩
    rcases hnone with hnone | hnone
    · exact absurd (hfresh.symm.trans hnone) (by decide)
    · rw [hnone] at hl
      cases hl
  · rw [Insulation.atWindow_iff]
    rintro ⟨-, x, hx, hdue⟩
    obtain rfl : l = x := Option.some.inj (hl.symm.trans hx)
    omega
  · have hat : s.insulation.atWindow = true := s.insulation.atWindow_iff.mpr ⟨hfresh, l, hl, hage.ge⟩
    let u := s.withInsulation { s.insulation with
      fresh := false
      last := s.insulation.last.map fun l => l.expire s.insulation.settings.window }
    obtain ⟨f, -, hmonitor⟩ := u.failGate_insulation
    refine ⟨u.failGate, congrArg Host.Outcome.next (if_pos hat), ?_, ?_, ?_, ?_, ?_, by simp [sameBut_iff, u]⟩
    · rw [hmonitor]
      rfl
    · simp [State.failGate_power]
    · simp [State.failGate_power]
    · rw [hmonitor]
      rfl
    · rw [hmonitor]
      show s.insulation.last.map _ = _
      rw [hl, Option.map_some, LastResult.expire, hage, Nat.max_eq_right (Nat.le_succ _)]
  · rw [Insulation.checkDue_iff]
    rintro ⟨ck, hck, -⟩
    rw [hnone] at hck
    cases hck
  · rw [Insulation.checkDue_iff]
    rintro ⟨x, hx, hdue⟩
    obtain rfl : ck = x := Option.some.inj (hck.symm.trans hx)
    omega
  all_goals
    have hdue' : s.insulation.checkDue = true := s.insulation.checkDue_iff.mpr ⟨ck, hck, hdue⟩
    let e : Ending := ⟨.timedOut, noteNone, s.insulation.checkNoResult⟩
    have hexec : exec .checkInsulationTimeout s = .next ((s.endCheck e).drain .insulation) := by
      refine congrArg Host.Outcome.next ((if_pos hdue').trans ?_)
      exact State.afterCheck_of_ended (by rw [hck]; rfl) (by rw [State.endCheck_insulation])
  · let u := s.withInsulation { s.insulation with check := none }
    have hends : (s.endCheck e).drain .insulation = u.finish ck.slot e := by
      rw [State.endCheck_of_some e hck]
      refine State.drain_of_empty ?_
      rw [State.queue_congr (State.finish_queues _ _ _)]
      exact hqueue
    rw [hends] at hexec
    refine ⟨_, hexec, ended_finish e (by rw [State.slot_congr (t := u) (s := s) rfl, hslot]) hwf, ?_,
      fun a ha => State.finish_read_other u _ e ha, ⟨fun k hk => State.slot_finish_other _ _ hk, ?_, ?_⟩,
      otherCauses_finish _ e rfl, by simp [sameBut_iff, u]⟩
    · rw [State.finish_insulation]
      rfl
    · exact State.finish_queues _ _ _
    · rfl
  · obtain ⟨p, hp, hdone, hended, hposted⟩ :=
      checkEnds_drains (l := .none) (by simp [Busy.none]) ((ordersShow_iff s).mp horders) hck e
    refine ⟨_, hexec, ?_, by rw [hdone.slot], ?_⟩
    · exact drained_of_ordersShow ((ordersShow_iff _).mpr hdone.orders) hposted (State.drain_done _ _)
    · rw [hdone.reads _ (.inr (by omega)), State.endCheck_of_some e hck]
      exact (State.finish_outcome _ _ e ((ordersShow_iff s).mp horders).wf).1

end Sys2Proof.Machine
end

/-! # The live status copies (O57) -/

section
namespace Sys2Proof.Machine

/-! ## Fields of a padded body -/

theorem padTo_of_short {n : Nat} (a b : List Byte) (h : a.length ≤ n) :
    padTo n (a ++ b) = a ++ padTo (n - a.length) b := by
  induction a generalizing n with
  | nil => rfl
  | cons x xs ih =>
    cases n with
    | zero => simp at h
    | succ n =>
      rw [List.length_cons] at h
      rw [List.cons_append, padTo, ih (by omega), List.length_cons, Nat.succ_sub_succ]
      rfl

theorem Memory.readAll_append (m : Memory) (a i j : Nat) :
    m.readAll a (i + j) = m.readAll a i ++ m.readAll (a + i) j := by
  induction i generalizing a with
  | zero => simp [Memory.readAll]
  | succ i ih =>
    rw [show i + 1 + j = (i + j) + 1 by omega, Memory.readAll, ih, Memory.readAll, List.cons_append,
      show a + 1 + i = a + (i + 1) by omega]

@[simp] theorem Memory.length_readAll (m : Memory) (a n : Nat) : (m.readAll a n).length = n := by
  induction n generalizing a with
  | zero => rfl
  | succ n ih => rw [Memory.readAll, List.length_cons, ih]

/-- A run of bytes in a longer run that is known. -/
theorem Memory.readAll_middle {m : Memory} {a n : Nat} {pre mid post : List Byte}
    (h : m.readAll a n = pre ++ (mid ++ post)) : m.readAll (a + pre.length) mid.length = mid := by
  have hn := congrArg List.length h
  rw [Memory.length_readAll] at hn
  rw [hn, List.length_append, List.length_append, Memory.readAll_append] at h
  have hrest := (List.append_inj h (m.length_readAll a pre.length)).2
  rw [Memory.readAll_append] at hrest
  exact (List.append_inj hrest (m.length_readAll _ mid.length)).1

@[simp] theorem length_beInt (k : Nat) (i : Int) : (beInt k i).length = k := length_beBytes _ _

@[simp] theorem length_tempBytes (t : Option Int) : (tempBytes t).length = 2 := by
  cases t <;> simp [tempBytes]

/-! ## The body's fields (R185) -/

/-- Bytes 4 to 71 of a live copy, field by field. -/
def State.statusFields (s : State) : List (List Byte) :=
  [beBytes 4 s.billing.partTime.toNat, [flagByte s.billing.clockSet],
    beBytes 2 s.metering.readings.inletVoltage, beBytes 2 s.metering.readings.inletCurrent,
    beBytes 4 s.metering.readings.inletPower, beBytes 2 s.metering.readings.packVoltage,
    beInt 2 s.metering.readings.packCurrent, beBytes 2 s.power.last.duty,
    beBytes 2 s.power.last.heaterPower, beBytes 2 s.power.last.grant, beBytes 2 s.power.last.heaterIn,
    beBytes 2 s.power.last.chargeIn, beBytes 2 s.power.last.iTgt, beBytes 2 s.power.last.iDem,
    [s.gates.byte], beBytes 1 s.relay.state.code, s.power.chargeByte, s.heating.planByte,
    tempBytes s.heating.tMin, tempBytes s.heating.tMax, tempBytes s.heating.plate.reading,
    s.heating.pack.toList.flatMap fun c => beBytes 1 c.code, beBytes 1 s.heating.plate.code,
    beBytes 1 (bitIf s.heating.sensorLoss 0 + bitIf s.heating.packGuard 1
      + bitIf s.heating.plateGuard 2 + bitIf s.heating.plateSensorGuard 3),
    beBytes 2 s.heating.acceptance, beBytes 1 s.insulation.condition.code,
    (match s.insulation.last with
      | some l => [flagByte true] ++ beBytes 2 l.rIso ++ beBytes 2 (l.age / 10)
      | none => padTo 5 []),
    [s.trips.set.byte],
    (match s.trips.first with
      | some f => beBytes 1 f.kind.code ++ beBytes 4 f.time.toNat
      | none => padTo 5 []),
    beBytes 1 s.billing.fill, beBytes 1 (bitIf s.billing.hold 0 + bitIf s.billing.held.isSome 1),
    beBytes 1 s.power.keepalive.code]

theorem State.statusBody_eq (s : State) : ∃ rest, s.statusBody = padTo 248 (s.statusFields.flatten ++ rest) := by
  refine ⟨beBytes 1 s.power.secondsLeft ++ s.billing.statusSession
    ++ s.insulation.history.flatMap HistoryEntry.status, ?_⟩
  simp only [State.statusBody, State.statusFields, Billing.statusTime, Readings.status, PeriodValues.status,
    Heating.status, Insulation.status, Trips.status, Billing.statusJournal, List.flatten_cons,
    List.flatten_nil, List.append_assoc, List.append_nil] <;> rfl

theorem State.length_lastResult (s : State) : (match s.insulation.last with
      | some l => [flagByte true] ++ beBytes 2 l.rIso ++ beBytes 2 (l.age / 10)
      | none => padTo 5 []).length = 5 := by
  split <;> simp

theorem State.length_firstTrip (s : State) : (match s.trips.first with
      | some f => beBytes 1 f.kind.code ++ beBytes 4 f.time.toNat
      | none => padTo 5 []).length = 5 := by
  split <;> simp

theorem Heating.length_packCodes (h : Heating) :
    (h.pack.toList.flatMap fun c => beBytes 1 c.code).length = 8 := by
  simp [List.length_flatMap]

/-- The lengths of the fields. -/
def statusLengths : List Nat :=
  [4, 1, 2, 2, 4, 2, 2, 2, 2, 2, 2, 2, 2, 2, 1, 1, 1, 1, 2, 2, 2, 8, 1, 1, 2, 1, 5, 1, 5, 1, 1, 1]

theorem State.length_statusFields (s : State) : s.statusFields.map List.length = statusLengths := by
  simp only [State.statusFields, List.map_cons, List.map_nil, length_beBytes, length_beInt, length_tempBytes,
    State.length_lastResult, State.length_firstTrip, Heating.length_packCodes, List.length_singleton,
    Power.chargeByte, Heating.planByte, statusLengths]

/-- A field of a written copy, by its number. -/
theorem State.statusField_read {s : State} {m : Memory} {base : Nat}
    (hbody : m.readAll (base + 4) 248 = s.statusBody) (i : Nat) {f : List Byte}
    (hi : s.statusFields[i]? = some f) {a n : Nat} (ha : a = base + 4 + (statusLengths.take i).sum)
    (hn : n = f.length) : m.readAll a n = f := by
  obtain ⟨hlt, hf⟩ := List.getElem?_eq_some_iff.mp hi
  have hsplit : s.statusFields = s.statusFields.take i ++ f :: s.statusFields.drop (i + 1) := by
    rw [← hf, List.cons_getElem_drop_succ, List.take_append_drop]
  have hpre : ((s.statusFields.take i).flatten).length = (statusLengths.take i).sum := by
    rw [List.length_flatten, List.map_take, s.length_statusFields]
  have htotal : (s.statusFields.flatten).length = 68 := by
    rw [List.length_flatten, s.length_statusFields]
    rfl
  have hflat : s.statusFields.flatten = (s.statusFields.take i).flatten
      ++ (f ++ (s.statusFields.drop (i + 1)).flatten) := by
    conv_lhs => rw [hsplit, List.flatten_append, List.flatten_cons]
  obtain ⟨rest, hrest⟩ := s.statusBody_eq
  rw [hflat, List.length_append, List.length_append] at htotal
  rw [hrest, hflat, List.append_assoc, List.append_assoc, padTo_of_short _ _ (by omega),
    padTo_of_short _ _ (by omega)] at hbody
  rw [ha, hn, ← hpre]
  exact Memory.readAll_middle hbody

/-- What a status period stores (R22). -/
theorem State.writeCopy_body (s : State) {base : Nat} (hbase : 0x440 ≤ base ∧ base ≤ 0x540) (index : Byte)
    (seq : Word) (hwf : s.mem.wf = true) :
    (s.writeCopy base index seq).mem.readAll (base + 4) 248 = s.statusBody := by
  rw [State.writeCopy_mem, Memory.readAll_write_other _ _ _ _ _ (.inr (by simp only [Config.hdrFresh]; omega)),
    Memory.readAll_writeAll_other _ _ _ _ _ (.inr (by rw [length_beBytes])), ← length_statusBody s]
  exact Memory.readAll_writeAll _ _ (Memory.writeAll_wf_eq _ _ _ hwf)
    (by rw [length_statusBody]; simp only [Config.memSize]; omega)

/-- The sequence number before the body. -/
theorem State.writeCopy_first (s : State) {base : Nat} (hbase : 0x440 ≤ base ∧ base ≤ 0x540) (index : Byte)
    (seq : Word) (hwf : s.mem.wf = true) :
    (s.writeCopy base index seq).mem.readAll base 4 = beBytes 4 seq.toNat := by
  rw [State.writeCopy_mem,
    Memory.readAll_write_other _ _ _ _ _ (.inr (by simp only [Config.hdrFresh]; omega))]
  exact Memory.readAll_writeAll _ (beBytes 4 seq.toNat)
    (Memory.writeAll_wf_eq _ _ _ (Memory.writeAll_wf_eq _ _ _ hwf))
    (by rw [length_beBytes]; simp only [Config.memSize]; omega)

/-- The sequence number after the body. -/
theorem State.writeCopy_last (s : State) {base : Nat} (hbase : 0x440 ≤ base ∧ base ≤ 0x540) (index : Byte)
    (seq : Word) (hwf : s.mem.wf = true) :
    (s.writeCopy base index seq).mem.readAll (base + 252) 4 = beBytes 4 seq.toNat := by
  rw [State.writeCopy_mem, Memory.readAll_write_other _ _ _ _ _ (.inr (by simp only [Config.hdrFresh]; omega)),
    Memory.readAll_writeAll_other _ _ _ _ _ (.inr (by rw [length_beBytes]; omega)),
    Memory.readAll_writeAll_other _ _ _ _ _ (.inr (by rw [length_statusBody]))]
  exact Memory.readAll_writeAll _ (beBytes 4 seq.toNat) hwf
    (by rw [length_beBytes]; simp only [Config.memSize]; omega)

/-- Settles O57: the fields of the body stand one after another, and the sequence number on both sides of
them. -/
theorem statusCopyWritten : Obligations.StatusCopyWritten := by
  intro s hwf base index seq
  have hcopy : nextCopy (s.mem.read 0x000A) = (base, index) := by
    simp only [nextCopy, base, index]
    split <;> rfl
  have hbase : 0x440 ≤ base ∧ base ≤ 0x540 := by
    have := nextCopy_bound (s.mem.read 0x000A)
    rwa [hcopy] at this
  have hseq : nextStatusSeq s.statusSeq = seq := by
    simp only [nextStatusSeq, seq]
    congr 1
    exact propext ⟨fun h => by bv_omega, fun h => by rw [h]; rfl⟩
  let t := s.writeCopy base index seq
  have hexec : exec .statusPeriod s = .next t := by
    show Host.Outcome.next (s.writeCopy (nextCopy (s.mem.read 0x000A)).1 (nextCopy (s.mem.read 0x000A)).2
      (nextStatusSeq s.statusSeq)) = _
    rw [hcopy, hseq]
  have hbody := s.writeCopy_body hbase index seq hwf
  have hfield (i : Nat) {f : List Byte} (hi : s.statusFields[i]? = some f) {a n : Nat}
      (ha : a = base + 4 + (statusLengths.take i).sum) (hn : n = f.length) : t.mem.readAll a n = f :=
    State.statusField_read hbody i hi ha hn
  have hbyte (i : Nat) {b : Byte} (hi : s.statusFields[i]? = some [b]) {a : Nat}
      (ha : a = base + 4 + (statusLengths.take i).sum) : t.mem.read a = b :=
    (List.cons.inj (hfield i hi (n := 1) ha rfl)).1
  have hmem := State.writeCopy_mem s base index seq
  have hfirst := s.writeCopy_first hbase index seq hwf
  have hlast := s.writeCopy_last hbase index seq hwf
  refine ⟨t, hexec, rfl, ?_, ?_, fun a ha => ?_, hfirst, hlast,
    hfield 0 rfl rfl rfl, hbyte 1 rfl rfl, hfield 2 rfl rfl rfl, hfield 3 rfl rfl rfl, hfield 4 rfl rfl rfl,
    hfield 5 rfl rfl rfl, hfield 6 rfl rfl (by simp), hfield 7 rfl rfl rfl, hfield 9 rfl rfl rfl,
    hfield 13 rfl rfl rfl, hbyte 14 rfl rfl, hbyte 15 (by rw [← beBytes_one]; rfl) rfl,
    hfield 18 rfl rfl (by simp), hfield 19 rfl rfl (by simp), hfield 24 rfl rfl rfl,
    hbyte 25 (by rw [← beBytes_one]; rfl) rfl, hbyte 27 rfl rfl, hbyte 29 (by rw [← beBytes_one]; rfl) rfl,
    hbyte 31 (by rw [← beBytes_one]; rfl) rfl⟩
  · rw [hmem]
    exact Memory.read_write_same _ (Memory.writeAll_wf_eq _ _ _ (Memory.writeAll_wf_eq _ _ _
      (Memory.writeAll_wf_eq _ _ _ hwf))) (by decide)
  · rw [sameBut_iff]
    simp [t, State.writeCopy]
  · obtain ⟨hfresh, hout⟩ := not_or.mp ha
    rw [hmem, Memory.read_write_other (a := Config.hdrFresh) _ _ hfresh,
      Memory.read_writeAll_other _ _ _ (by rw [length_beBytes]; omega),
      Memory.read_writeAll_other _ _ _ (by rw [length_statusBody]; omega),
      Memory.read_writeAll_other _ _ _ (by rw [length_beBytes]; omega)]
end Sys2Proof.Machine
end

/-! # The closes of the open interval and the hold's beginning -/

section
namespace Sys2Proof.Machine

/-! ## Frames composed -/

theorem SameBut.trans {ps : List Part} {s t u : State} (hst : SameBut ps s t) (htu : SameBut ps t u) :
    SameBut ps s u := by
  intro p hp
  have h1 := hst p hp
  have h2 := htu p hp
  cases p <;> exact h2.trans h1

theorem OtherCauses.refl (cs : List Cause) {s t : State} (h : t.attn = s.attn) : OtherCauses cs s t :=
  ⟨by rw [h], fun _ _ => by rw [h]⟩

theorem OtherCauses.mono {cs ds : List Cause} {s t : State} (h : OtherCauses cs s t)
    (hsub : ∀ c ∈ cs, c ∈ ds) : OtherCauses ds s t :=
  ⟨h.1, fun c hc => h.2 c fun hmem => hc (hsub c hmem)⟩

theorem OtherCauses.trans {cs : List Cause} {s t u : State} (hst : OtherCauses cs s t)
    (htu : OtherCauses cs t u) : OtherCauses cs s u :=
  ⟨htu.1.trans hst.1, fun c hc => (htu.2 c hc).trans (hst.2 c hc)⟩

theorem OtherCauses.of_put {cs : List Cause} {s t : State} {c : Cause} {b : Bool}
    (h : t.attn = s.attn.put c b) (hc : c ∈ cs) : OtherCauses cs s t := by
  rw [OtherCauses, h]
  exact ⟨Attention.put_mask _ _ _,
    fun d hd => Attention.has_put_other _ _ fun heq => hd (heq ▸ hc)⟩

/-! ## The cut of the open interval (R75, R77, R82, R103) -/

/-- The record of a written close. -/
def Billing.cutRecord (b : Billing) (ses : Session) (i : Interval) (cause : CloseCause) (bandEnd : Nat) :
    Record := { intervalRecord b ses i cause bandEnd with seq := b.nextSeq }

/-- The session after a written close, its next interval begun. -/
def Billing.cutNext (b : Billing) (ses : Session) (i : Interval) : Billing :=
  { b with
    nextSeq := b.nextSeq + 1
    journalMeter := b.meter
    session := some (ses.afterWritten i)
    interval := some (b.newInterval b.partTime b.meter) }

/-- The billing unit after the hold's own close of the open interval. -/
def Billing.holdCut (b : Billing) (ses : Session) (i : Interval) : Billing :=
  { b.cutNext ses i with hold := true }

section
variable {s : State} {ses : Session} {i : Interval} {place : State → Record → State}
  {cause : CloseCause} {bandEnd : Nat} {adopted : Bool}

theorem State.closeIntervalBy_closed (h : s.billing.session = none ∨ s.billing.interval = none) :
    s.closeIntervalBy place cause bandEnd adopted = s := by
  unfold State.closeIntervalBy
  split
  next ses i hses hint => rcases h with h | h <;> simp_all
  next => rfl

theorem State.closeIntervalBy_merges (hses : s.billing.session = some ses)
    (hint : s.billing.interval = some i) (hheld : s.billing.held.isSome = true) :
    s.closeIntervalBy place cause bandEnd adopted =
      s.withBilling { s.billing with interval := some (i.merge s.billing.band adopted) } := by
  rw [State.closeIntervalBy, hses, hint]
  exact if_pos hheld

theorem State.closeIntervalBy_inherits (hses : s.billing.session = some ses)
    (hint : s.billing.interval = some i) (hheld : s.billing.held = none)
    (hempty : (i.isEmpty && cause.dropsEmpty) = true) :
    s.closeIntervalBy place cause bandEnd adopted =
      s.withBilling { s.billing with
        interval := some (s.billing.newInterval i.start i.meterStart) } := by
  rw [State.closeIntervalBy, hses, hint]
  refine (if_neg ?_).trans (if_pos hempty)
  simp [hheld]

theorem State.closeIntervalBy_writes (hses : s.billing.session = some ses)
    (hint : s.billing.interval = some i) (hheld : s.billing.held = none)
    (hempty : (i.isEmpty && cause.dropsEmpty) = false) :
    s.closeIntervalBy place cause bandEnd adopted =
      place (s.withBilling (s.billing.cutNext ses i)) (s.billing.cutRecord ses i cause bandEnd) := by
  rw [State.closeIntervalBy, hses, hint]
  refine (if_neg ?_).trans ((if_neg ?_).trans rfl)
  · simp [hheld]
  · simp [hempty]

end

/-! ## A record written, held or waiting, as a frame -/

/-- What writing one record can change. -/
structure Recorded (s t : State) : Prop where
  same : SameBut [.mem, .attn, .billing] s t
  causes : OtherCauses [.journalNew] s t
  news : s.attn.journalNew = true → t.attn.journalNew = true
  reads : ReadsSameBut (fun a => journalHeader a ∨ recordBytes s.billing.w a) s t

theorem Recorded.of_billing (s : State) (b : Billing) : Recorded s (s.withBilling b) where
  same := by simp [sameBut_iff]
  causes := .refl _ rfl
  news h := h
  reads _ _ := rfl

theorem recorded_journalWrite (s : State) (r : Record) : Recorded s (s.journalWrite r) where
  same := by simp [sameBut_iff]
  causes := .of_put (s.journalWrite_attn r) (by simp)
  news _ := by rw [s.journalWrite_attn]; rfl
  reads := s.journalWrite_reads r

theorem recorded_holdRecord (s : State) (r : Record) : Recorded s (s.holdRecord r) where
  same := by simp [sameBut_iff, State.holdRecord]
  causes := .refl _ (by simp [State.holdRecord])
  news h := h
  reads := (s.holdRecord_reads r).mono fun _ h => .inl (.inr (.inr (.inl h)))

theorem recorded_placeRecord (s : State) (r : Record) : Recorded s (s.placeRecord r) := by
  rcases lt_or_ge s.billing.fill 128 with hfill | hfull
  · rw [State.placeRecord_writes r hfill]
    exact recorded_journalWrite s r
  · cases hheld : s.billing.held with
    | none =>
      rw [State.placeRecord_holds r hfull hheld]
      exact recorded_holdRecord s r
    | some x =>
      rw [State.placeRecord_waits r hfull (by rw [hheld]; rfl)]
      exact .of_billing s _

/-- A state that differs only in what the billing unit holds, before the record. -/
theorem Recorded.after {s t : State} {b : Billing} (h : Recorded (s.withBilling b) t)
    (hw : b.w = s.billing.w) : Recorded s t where
  same := (Recorded.of_billing s b).same.trans h.same
  causes := (Recorded.of_billing s b).causes.trans h.causes
  news := h.news
  reads a ha := h.reads a (by rw [State.withBilling_billing, hw]; exact ha)

/-! ## The hold begins (R98) -/

/-- The hold begins: JOURNAL_HALT, and the journal gate fails. -/
def State.haltSupply (s : State) : State :=
  ((s.withBilling { s.billing with hold := true }).raise .journalHalt).failGate

@[simp] theorem State.haltSupply_billing (s : State) :
    s.haltSupply.billing = { s.billing with hold := true } := by simp [State.haltSupply]

@[simp] theorem State.haltSupply_mem (s : State) : s.haltSupply.mem = s.mem := by simp [State.haltSupply]

@[simp] theorem State.haltSupply_attn (s : State) :
    s.haltSupply.attn = s.attn.put .journalHalt true := by simp [State.haltSupply]

theorem sameBut_haltSupply (s : State) :
    SameBut [.attn, .billing, .power, .relay, .insulation] s s.haltSupply := by
  simp [sameBut_iff, State.haltSupply]

/-- What the hold's beginning does to the drives. -/
structure Halted (s t : State) : Prop where
  demand : t.power.iDem = 0
  need : t.power.need = false
  duty : t.power.duty ≤ s.power.duty
  supplyFed : t.power.supplyFed = 0
  packFed : t.power.packFed = s.power.packFed
  charge : t.power.charge.map (·.slot) = s.power.charge.map (·.slot)
  relay : s.relay.state ≠ .closed → t.relay = s.relay

theorem State.failGate_relay {s : State} (h : s.relay.state ≠ .closed) : s.failGate.relay = s.relay := by
  simp only [State.failGate, State.setDuty_relay, State.withPower_relay, State.withdrawNeed]
  split
  · simp [h]
  · simp

theorem halted_haltSupply (s : State) : Halted s s.haltSupply where
  demand := by simp [State.haltSupply, State.failGate_power]
  need := by simp [State.haltSupply, State.failGate_power]
  duty := by simp [State.haltSupply, State.failGate_power]
  supplyFed := by simp [State.haltSupply, State.failGate_power]
  packFed := by simp [State.haltSupply, State.failGate_power, Power.gateCharge]
  charge := by simp [State.haltSupply, State.failGate_power, Power.gateCharge, Function.comp_def]
  relay h := (State.failGate_relay (by simpa using h)).trans (by simp)

theorem Halted.congr {s t u : State} (h : Halted s t) (hpower : u.power = t.power)
    (hrelay : u.relay = t.relay) : Halted s u := by
  obtain ⟨hdemand, hneed, hduty, hsupply, hpack, hcharge, hstill⟩ := h
  constructor <;> simp_all

theorem Halted.from {s t u : State} (h : Halted t u) (hpower : t.power = s.power)
    (hrelay : t.relay = s.relay) : Halted s u := by
  obtain ⟨hdemand, hneed, hduty, hsupply, hpack, hcharge, hstill⟩ := h
  constructor <;> simp_all

theorem State.beginHold_eq (s : State) : s.beginHold =
    s.haltSupply.closeIntervalBy State.placeRecord .hold s.billing.band false := by
  have hband : s.haltSupply.billing.band = s.billing.band := by rw [State.haltSupply_billing]; rfl
  rw [← hband]
  rfl

section
variable {s : State} {ses : Session} {i : Interval}

theorem State.beginHold_closed (h : s.billing.session = none ∨ s.billing.interval = none) :
    s.beginHold = s.haltSupply := by
  rw [s.beginHold_eq]
  exact State.closeIntervalBy_closed (by rw [s.haltSupply_billing]; exact h)

theorem State.beginHold_merges (hses : s.billing.session = some ses)
    (hint : s.billing.interval = some i) (hheld : s.billing.held.isSome = true) :
    s.beginHold = s.haltSupply.withBilling { s.billing with
      hold := true, interval := some (i.merge s.billing.band false) } := by
  rw [s.beginHold_eq, State.closeIntervalBy_merges (ses := ses) (i := i) (by simpa) (by simpa) (by simpa),
    s.haltSupply_billing]
  rfl

/-- The hold's own record of the open interval. -/
theorem State.beginHold_writes (hses : s.billing.session = some ses)
    (hint : s.billing.interval = some i) (hheld : s.billing.held = none) :
    s.beginHold = (s.haltSupply.withBilling (s.billing.holdCut ses i)).placeRecord
      (s.billing.cutRecord ses i .hold s.billing.band) := by
  rw [s.beginHold_eq, State.closeIntervalBy_writes (ses := ses) (i := i) (by simpa) (by simpa) (by simpa)
    (Bool.and_false _), s.haltSupply_billing]
  rfl

end

/-- What a hold's beginning can change. -/
structure Holding (s t : State) : Prop where
  same : SameBut [.mem, .attn, .billing, .power, .relay, .insulation] s t
  causes : OtherCauses [.journalNew, .journalHalt] s t
  news : s.attn.journalNew = true → t.attn.journalNew = true
  reads : ReadsSameBut (fun a => journalHeader a ∨ recordBytes s.billing.w a) s t
  drives : Halted s t

theorem Holding.of_recorded {s t : State} (h : Recorded s.haltSupply t) : Holding s t where
  same := ((sameBut_haltSupply s).mono (by simp)).trans (h.same.mono (by simp))
  causes := (OtherCauses.of_put s.haltSupply_attn (by simp)).trans (h.causes.mono (by simp))
  news hnew := h.news (by rw [s.haltSupply_attn]; exact hnew)
  reads a ha := (h.reads a (by simpa using ha)).trans (by simp)
  drives := (halted_haltSupply s).congr (h.same .power (by simp)) (h.same .relay (by simp))

theorem recorded_beginHold (s : State) : Recorded s.haltSupply s.beginHold := by
  by_cases hclosed : s.billing.session = none ∨ s.billing.interval = none
  · rw [State.beginHold_closed hclosed]
    exact .of_billing _ s.haltSupply.billing
  obtain ⟨hses, hint⟩ := not_or.mp hclosed
  obtain ⟨ses, hses⟩ := Option.ne_none_iff_exists'.mp hses
  obtain ⟨i, hint⟩ := Option.ne_none_iff_exists'.mp hint
  cases hheld : s.billing.held with
  | some x =>
    rw [State.beginHold_merges hses hint (by rw [hheld]; rfl)]
    exact .of_billing _ _
  | none =>
    rw [State.beginHold_writes hses hint hheld]
    exact (recorded_placeRecord _ _).after (by simp [Billing.holdCut, Billing.cutNext])

theorem holding_beginHold (s : State) : Holding s s.beginHold := .of_recorded (recorded_beginHold s)

theorem State.beginHold_halts (s : State) : s.beginHold.attn.journalHalt = true := by
  have hkept := (recorded_beginHold s).causes.2 .journalHalt (by simp)
  rw [s.haltSupply_attn, Attention.has_put_same] at hkept
  exact hkept

/-! ## A record entered, as a frame (R93) -/

/-- What a record that is entered can change, the hold's own record after it included. -/
structure Entered (s t : State) : Prop where
  same : SameBut [.mem, .attn, .billing, .power, .relay, .insulation] s t
  causes : OtherCauses [.journalNew, .journalHalt] s t
  reads : ReadsSameBut
    (fun a => journalHeader a ∨ recordBytes s.billing.w a ∨ recordBytes (s.billing.w + 1) a) s t
  drives : t.power = s.power ∧ t.relay = s.relay ∨ Halted s t

theorem Recorded.entered {s t : State} (h : Recorded s t) : Entered s t where
  same := h.same.mono (by simp)
  causes := h.causes.mono (by simp)
  reads := h.reads.mono fun a ha => by tauto
  drives := .inl ⟨h.same .power (by simp), h.same .relay (by simp)⟩

theorem Entered.after {s t : State} {b : Billing} (h : Entered (s.withBilling b) t)
    (hw : b.w = s.billing.w) : Entered s t where
  same := ((Recorded.of_billing s b).same.mono (by simp)).trans h.same
  causes := ((Recorded.of_billing s b).causes.mono (by simp)).trans h.causes
  reads a ha := h.reads a (by rw [State.withBilling_billing, hw]; exact ha)
  drives := h.drives.imp_right fun hd => hd.from rfl rfl

theorem entered_enterRecord (s : State) (r : Record) : Entered s (s.enterRecord r) := by
  by_cases hbegins : s.billing.fill < 128 ∧ s.billing.hold = false ∧ s.billing.halt ≤ s.billing.fill + 1
  · obtain ⟨hfill, hhold, hlevel⟩ := hbegins
    rw [State.enterRecord_begins r hfill hhold hlevel]
    have hwrite := recorded_journalWrite s r
    have hholds := holding_beginHold (s.journalWrite r)
    have hw : (s.journalWrite r).billing.w = s.billing.w + 1 := by rw [State.journalWrite_billing]
    exact
      { same := (hwrite.same.mono (by simp)).trans hholds.same
        causes := (hwrite.causes.mono (by simp)).trans hholds.causes
        reads := (hwrite.reads.mono fun a ha => by tauto).trans
          (hholds.reads.mono fun a ha => by rw [hw] at ha; tauto)
        drives := .inr (hholds.drives.from (hwrite.same .power (by simp)) (hwrite.same .relay (by simp))) }
  · refine Recorded.entered ?_
    rcases lt_or_ge s.billing.fill 128 with hfill | hfull
    · rw [State.enterRecord_writes r hfill]
      · exact recorded_journalWrite s r
      · by_contra hnot
        simp only [not_or, Bool.not_eq_true, not_lt] at hnot
        exact hbegins ⟨hfill, hnot⟩
    · rw [State.enterRecord_full r hfull]
      exact recorded_placeRecord s r

/-- A close of the open interval, as a frame: without one nothing changes. -/
theorem entered_closeInterval (s : State) (cause : CloseCause) (bandEnd : Nat) (adopted : Bool) :
    Entered s (s.closeInterval cause bandEnd adopted) := by
  unfold State.closeInterval
  by_cases hclosed : s.billing.session = none ∨ s.billing.interval = none
  · rw [State.closeIntervalBy_closed hclosed]
    exact (Recorded.of_billing s s.billing).entered
  obtain ⟨hses, hint⟩ := not_or.mp hclosed
  obtain ⟨ses, hses⟩ := Option.ne_none_iff_exists'.mp hses
  obtain ⟨i, hint⟩ := Option.ne_none_iff_exists'.mp hint
  cases hheld : s.billing.held with
  | some x =>
    rw [State.closeIntervalBy_merges hses hint (by rw [hheld]; rfl)]
    exact (Recorded.of_billing s _).entered
  | none =>
    cases hempty : i.isEmpty && cause.dropsEmpty with
    | true =>
      rw [State.closeIntervalBy_inherits hses hint hheld hempty]
      exact (Recorded.of_billing s _).entered
    | false =>
      rw [State.closeIntervalBy_writes hses hint hheld hempty]
      exact (entered_enterRecord _ _).after rfl

end Sys2Proof.Machine
end

/-! # The relay's opening and a new trip's report -/

section
namespace Sys2Proof.Machine

/-! ## The relay opens (R170, R173, R175) -/

/-- Step 2 of a waiting close passed (R86). -/
def Billing.passed (b : Billing) : Billing := { b with close := b.close.map Closing.pass }

theorem State.passStep2_eq (s : State) : s.passStep2 = s.withBilling s.billing.passed := by
  rw [Billing.passed, ← s.passStep2_billing]
  unfold State.passStep2
  split <;> rfl

/-- The relay where it has come open with INFB showing open: a standing need closes it again (R170). -/
def openedFor (need : Bool) : Relay :=
  if need then ⟨.closing, some 0, false⟩ else ⟨.opened, none, false⟩

theorem openedFor_not_closed (need : Bool) : (openedFor need).state ≠ .closed := by
  unfold openedFor
  split <;> simp

theorem State.enterOpen_eq {s : State} (h : s.pins.infb = false) :
    s.enterOpen = (s.withRelay (openedFor s.power.need)).withBilling s.billing.passed := by
  have hopened : (s.setRelay .opened (if s.pins.infb then some 0 else none) false).passStep2 =
      (s.withRelay ⟨.opened, none, false⟩).withBilling s.billing.passed := by
    rw [State.passStep2_eq, h]
    rfl
  unfold State.enterOpen openedFor
  rw [hopened]
  extract_lets s1
  cases hneed : s.power.need with
  | true =>
    rw [if_pos (show s1.power.need = true from hneed), State.enterClosing,
      if_neg (by simpa [s1] using h)]
    rfl
  | false => rw [if_neg (show ¬s1.power.need = true by simpa [s1] using hneed)]; rfl

theorem State.enterRelease_closed {s : State} (skips : Bool) (h : s.pins.infb = true) :
    s.enterRelease skips = s.setRelay .release (some 0) skips := by
  rw [State.enterRelease, State.endReleaseIfOpen, if_neg]
  simp [h]

theorem State.enterRelease_open {s : State} (skips : Bool) (h : s.pins.infb = false) :
    s.enterRelease skips = (s.withRelay (openedFor s.power.need)).withBilling s.billing.passed := by
  rw [State.enterRelease, State.endReleaseIfOpen, if_pos ⟨rfl, h⟩, State.enterOpen_eq (by simpa using h)]
  rfl

/-! ## An open request (R173) -/

theorem State.openRequest_not_closed (s : State) (skip : Bool) :
    (s.openRequest skip).relay.state ≠ .closed := by
  have hrelease (u : State) (b : Bool) : (u.enterRelease b).relay.state ≠ .closed := by
    cases h : u.pins.infb with
    | true => rw [State.enterRelease_closed b h]; simp [State.setRelay]
    | false => rw [State.enterRelease_open b h]; exact openedFor_not_closed _
  unfold State.openRequest
  split
  next h => rw [State.passStep2_relay, h]; decide
  next => exact hrelease _ _
  next =>
    split
    · exact hrelease _ _
    · simp [State.setRelay]
  next h =>
    split
    · exact hrelease _ _
    · rw [h]; decide
  next h => rw [h]; decide
  next h => rw [h]; decide

/-- What an open request leaves of the power manager: a CLOSED relay takes the demand to 0 first. -/
theorem State.openRequest_power {s : State} (skip : Bool) (h : s.power.iDem = 0) :
    (s.openRequest skip).power = s.power := by
  have hleft : s.leaveClosed.power = s.power := by
    rw [State.leaveClosed, State.setDemand_power, ← h]
  unfold State.openRequest
  split
  next => simp
  next => simp
  next => split <;> simp [State.setRelay, hleft]
  next => split <;> simp
  next => rfl
  next => rfl

/-- A relay that is not driven lets an open request pass (R173). -/
theorem State.openRequest_opened {s : State} (skip : Bool) (h : s.relay.state = .opened) :
    s.openRequest skip = s.passStep2 := by rw [State.openRequest, h]

theorem State.openRequest_releasing {s : State} (skip : Bool)
    (h : s.relay.state = .release ∨ s.relay.state = .stuck) : s.openRequest skip = s := by
  rcases h with h | h <;> rw [State.openRequest, h]

theorem State.openRequest_closing {s : State} (skip : Bool) (h : s.relay.state = .closing) :
    s.openRequest skip = s.enterRelease true := by rw [State.openRequest, h]

/-! ## The set and the drives of a new trip (R178, R179) -/

/-- The state with the trip latched and its drives down. -/
def State.tripLatched (s : State) (k : TripKind) : State := (s.latchTrip k).tripDrives

theorem State.latchTrip_nonempty {s : State} (k : TripKind) (h : s.trips.set.isEmpty = false) :
    s.latchTrip k = s.withTrips { s.trips with set := s.trips.set.add k } := by
  simp [State.latchTrip, h]

theorem State.latchTrip_empty {s : State} (k : TripKind) (h : s.trips.set.isEmpty = true) :
    s.latchTrip k =
      ((s.withTrips ⟨s.trips.set.add k, some ⟨k, s.billing.partTime⟩⟩).raise .trip).failGate := by
  rw [State.latchTrip, if_pos h]
  rfl

/-- A trip latched, with its drives down. -/
structure Latched (s : State) (k : TripKind) (t : State) : Prop where
  same : SameBut [.attn, .power, .insulation, .relay, .trips] s t
  trips : t.trips = ⟨s.trips.set.add k,
    if s.trips.set.isEmpty then some ⟨k, s.billing.partTime⟩ else s.trips.first⟩
  attn : t.attn = if s.trips.set.isEmpty then s.attn.put .trip true else s.attn
  iDem : t.power.iDem = 0
  duty : t.power.duty = 0
  supplyFed : t.power.supplyFed = 0
  packFed : t.power.packFed = 0
  need : t.power.need = (s.power.need && !s.trips.set.isEmpty)
  charge : t.power.charge = s.power.charge.map fun c =>
    if s.trips.set.isEmpty then { c with state := .gated } else c
  relay : t.relay.state = s.relay.state ∧ (s.relay.state ≠ .closed → t.relay = s.relay)

theorem latched_tripLatched (s : State) (k : TripKind) : Latched s k (s.tripLatched k) := by
  unfold State.tripLatched
  cases hempty : s.trips.set.isEmpty with
  | true =>
    rw [State.latchTrip_empty k hempty]
    exact
      { same := by simp [sameBut_iff]
        trips := by simp [hempty]
        attn := by simp [hempty]
        iDem := by simp
        duty := by simp
        supplyFed := by simp
        packFed := by simp
        need := by simp [State.failGate_power, hempty]
        charge := by simp [State.failGate_power, hempty, Power.gateCharge]
        relay := ⟨by simp, fun h => by
          rw [State.tripDrives_relay, State.failGate_relay (by simpa using h)]
          simp⟩ }
  | false =>
    rw [State.latchTrip_nonempty k hempty]
    exact
      { same := by simp [sameBut_iff]
        trips := by simp [hempty]
        attn := by simp [hempty]
        iDem := by simp
        duty := by simp
        supplyFed := by simp
        packFed := by simp
        need := by simp [hempty]
        charge := by simp [hempty]
        relay := by simp }

/-! ## The ends of the standing orders (R127, R146) -/

theorem State.tripCharge_of_some {s : State} {c : Charge} (h : s.power.charge = some c) :
    s.tripCharge =
      s.dropCharge.finish c.slot ⟨.tripped, clampedNote c.clamped, c.fields s.power.iDem⟩ := by
  simp only [State.tripCharge, h]

theorem State.tripCharge_of_none {s : State} (h : s.power.charge = none) : s.tripCharge = s := by
  simp only [State.tripCharge, h]

@[simp] theorem State.tripCharge_power (s : State) :
    s.tripCharge.power = { s.power with charge := none } := by
  cases h : s.power.charge with
  | none => rw [State.tripCharge_of_none h, ← h]
  | some c =>
    rw [State.tripCharge_of_some h, State.finish_power]
    rfl

theorem State.tripPlan_of_some {s : State} {p : Plan} (h : s.heating.plan = some p) :
    s.tripPlan = (s.dropPlan.finish p.slot
      ⟨.tripped, clampedNote p.clamped, p.fields s.heating.tMin⟩).raise .planEvent := by
  simp only [State.tripPlan, h]

theorem State.tripPlan_of_none {s : State} (h : s.heating.plan = none) : s.tripPlan = s := by
  simp only [State.tripPlan, h]

@[simp] theorem State.tripPlan_heating (s : State) :
    s.tripPlan.heating = { s.heating with plan := none } := by
  cases h : s.heating.plan with
  | none => rw [State.tripPlan_of_none h, ← h]
  | some p =>
    rw [State.tripPlan_of_some h, State.raise_heating, State.finish_heating]
    rfl

/-- The trip cause outlasts the ends of the standing orders. -/
theorem State.tripEnds_trip (s : State) : s.tripCharge.tripPlan.attn.trip = s.attn.trip := by
  have hcharge : s.tripCharge.attn.trip = s.attn.trip := by
    cases h : s.power.charge with
    | none => rw [State.tripCharge_of_none h]
    | some c => rw [State.tripCharge_of_some h, State.finish_attn]; rfl
  cases h : s.tripCharge.heating.plan with
  | none => rw [State.tripPlan_of_none h, hcharge]
  | some p => rw [State.tripPlan_of_some h, State.raise_attn, State.finish_attn]; exact hcharge

/-! ## The whole report of a new kind (R178, R179) -/

/-- The state after the open request of a new trip. -/
def State.tripOpened (s : State) (k : TripKind) : State := (s.tripLatched k).openRequest k.skips

/-- What a new trip leaves. -/
structure Tripped (s : State) (k : TripKind) (t : State) : Prop where
  trips : t.trips = ⟨s.trips.set.add k,
    if s.trips.set.isEmpty then some ⟨k, s.billing.partTime⟩ else s.trips.first⟩
  attnTrip : t.attn.trip = (s.trips.set.isEmpty || s.attn.trip)
  iDem : t.power.iDem = 0
  duty : t.power.duty = 0
  supplyFed : t.power.supplyFed = 0
  packFed : t.power.packFed = 0
  need : s.trips.set.isEmpty = true → t.power.need = false
  charge : t.power.charge = none
  plan : t.heating.plan = none
  pins : t.pins = s.pins
  relay : t.relay = (s.tripOpened k).relay
  close : t.billing.close =
    if k = .weld then (s.tripOpened k).billing.close.map Closing.pass else (s.tripOpened k).billing.close

/-- What the last close of a new trip keeps of its drives. -/
theorem Entered.drivesDown {u v : State} (h : Entered u v) (hdem : u.power.iDem = 0)
    (hduty : u.power.duty = 0) (hsupply : u.power.supplyFed = 0) (hpack : u.power.packFed = 0)
    (hcharge : u.power.charge = none) (hrelay : u.relay.state ≠ .closed) :
    v.power.iDem = 0 ∧ v.power.duty = 0 ∧ v.power.supplyFed = 0 ∧ v.power.packFed = 0
      ∧ v.power.charge = none ∧ v.relay = u.relay ∧ (u.power.need = false → v.power.need = false) := by
  rcases h.drives with ⟨hpower, hsame⟩ | hhalted
  · rw [hpower]
    exact ⟨hdem, hduty, hsupply, hpack, hcharge, hsame, id⟩
  · refine ⟨hhalted.demand, Nat.le_zero.mp (hduty ▸ hhalted.duty), hhalted.supplyFed,
      hhalted.packFed.trans hpack, ?_, hhalted.relay hrelay, fun _ => hhalted.need⟩
    have hslot := hhalted.charge
    rw [hcharge] at hslot
    exact Option.map_eq_none_iff.mp hslot

theorem tripped_tripReport {s : State} {k : TripKind} (hnew : s.trips.set.has k = false) :
    Tripped s k (s.tripReport k) := by
  have hlatched := latched_tripLatched s k
  have hpower : (s.tripOpened k).power = (s.tripLatched k).power := State.openRequest_power _ hlatched.iDem
  let u := (s.tripOpened k).tripCharge.tripPlan
  have hclosed := entered_closeInterval u .trip u.billing.band false
  have heq : s.tripReport k =
      (u.closeInterval .trip u.billing.band false).weldPasses k := State.tripReport_of_new hnew
  have hu : u.power = { (s.tripLatched k).power with charge := none } := by simp [u, hpower]
  have htrips : u.trips = (s.tripLatched k).trips := by simp [u, State.tripOpened]
  have hrelay : u.relay = (s.tripOpened k).relay := by simp [u]
  have hclose : (u.closeInterval .trip u.billing.band false).billing.close =
      (s.tripOpened k).billing.close := by
    rw [State.closeInterval, State.closeIntervalBy_close State.enterRecord_close]
    simp [u]
  obtain ⟨hdem, hduty, hsupply, hpack, hcharge, hsame, hneed⟩ := hclosed.drivesDown
    (by rw [hu]; exact hlatched.iDem) (by rw [hu]; exact hlatched.duty)
    (by rw [hu]; exact hlatched.supplyFed) (by rw [hu]; exact hlatched.packFed) (by rw [hu])
    (by rw [hrelay]; exact State.openRequest_not_closed _ _)
  have htrip : (u.closeInterval .trip u.billing.band false).attn.trip = u.attn.trip :=
    hclosed.causes.2 .trip (by simp)
  rw [heq]
  exact
    { trips := by
        rw [State.weldPasses_trips, State.closeInterval_trips, htrips, hlatched.trips]
      attnTrip := by
        rw [State.weldPasses_attn, htrip, State.tripEnds_trip, State.tripOpened, State.openRequest_attn,
          hlatched.attn]
        cases s.trips.set.isEmpty <;> rfl
      iDem := by rw [State.weldPasses_power, hdem]
      duty := by rw [State.weldPasses_power, hduty]
      supplyFed := by rw [State.weldPasses_power, hsupply]
      packFed := by rw [State.weldPasses_power, hpack]
      need := fun hempty => by
        rw [State.weldPasses_power]
        refine hneed ?_
        rw [hu]
        exact hlatched.need.trans (by rw [hempty]; simp)
      charge := by rw [State.weldPasses_power, hcharge]
      plan := by rw [State.weldPasses_heating, State.closeInterval_heating, State.tripPlan_heating]
      pins := by
        rw [State.weldPasses_pins, State.closeInterval_pins]
        simp only [u, State.tripPlan_pins, State.tripCharge_pins, State.tripOpened, State.openRequest_pins]
        exact hlatched.same .pins (by simp)
      relay := by rw [State.weldPasses_relay, hsame, hrelay]
      close := by
        rw [← hclose]
        unfold State.weldPasses
        split
        · rw [State.passStep2_billing]
        · rfl }

end Sys2Proof.Machine
end

/-! # The relay closes and opens (O58, O59) -/

section
namespace Sys2Proof.Machine

/-! ## INFB's level (R50, R152) -/

theorem State.setInfb_closed (s : State) : s.setInfb true =
    ((s.withPins { s.pins with infb := true }).withMetering
      { s.metering with closedSeen := true }).withInsulation { s.insulation with
        half := s.insulation.half.map fun h => { h with infbChanged := true } } := by
  simp only [State.setInfb, Bool.or_true]
  rfl

theorem State.setInfb_open (s : State) : s.setInfb false =
    (s.withPins { s.pins with infb := false }).withInsulation { s.insulation with
        half := s.insulation.half.map fun h => { h with infbChanged := true } } := by
  simp only [State.setInfb, Bool.or_false]
  rfl

/-! ## CONTACT and WELD (R171, R175, R176) -/

/-- CONTACT in an empty set, with the drives down and the relay open. -/
structure ContactLost (s t : State) : Prop where
  trips : t.trips = ⟨{ TripSet.empty with contact := true }, some ⟨.contact, s.billing.partTime⟩⟩
  attn : t.attn.trip = true
  relay : t.relay = ⟨.opened, none, false⟩
  iDem : t.power.iDem = 0
  duty : t.power.duty = 0
  supplyFed : t.power.supplyFed = 0
  packFed : t.power.packFed = 0
  need : t.power.need = false
  charge : t.power.charge = none
  plan : t.heating.plan = none
  pins : t.pins = s.pins

theorem TripSet.eq_empty {t : TripSet} (h : t.isEmpty = true) : t = TripSet.empty := by
  obtain ⟨a, b, c, d, e, f, g⟩ := t
  simp only [TripSet.isEmpty] at h
  simp_all [TripSet.empty]

theorem TripSet.has_of_empty {t : TripSet} (h : t.isEmpty = true) (k : TripKind) : t.has k = false := by
  rw [TripSet.eq_empty h]
  cases k <;> rfl

theorem contactLost_of_tripped {s t : State} (hempty : s.trips.set.isEmpty = true)
    (h : Tripped s .contact t) (hrelay : t.relay = ⟨.opened, none, false⟩) : ContactLost s t where
  trips := by rw [h.trips, if_pos hempty, TripSet.eq_empty hempty]; rfl
  attn := by rw [h.attnTrip, hempty]; rfl
  relay := hrelay
  iDem := h.iDem
  duty := h.duty
  supplyFed := h.supplyFed
  packFed := h.packFed
  need := h.need hempty
  charge := h.charge
  plan := h.plan
  pins := h.pins

/-- WELD latched with the relay STUCK. -/
structure Welded (s t : State) : Prop where
  relay : t.relay = ⟨.stuck, none, false⟩
  set : t.trips.set = { s.trips.set with weld := true }
  down : s.trips.set.weld = false → t.power.iDem = 0 ∧ t.power.duty = 0 ∧ t.power.charge = none
    ∧ t.heating.plan = none
  first : s.trips.set.isEmpty = true →
    t.trips.first = some ⟨.weld, s.billing.partTime⟩ ∧ t.attn.trip = true
  close : ∀ n, s.trips.set.weld = false → s.billing.close = some ⟨n, .awaitRelay⟩ →
    t.billing.close = some ⟨n, .awaitHeld⟩

theorem welded_weld (s : State) : Welded s s.weld := by
  let u := s.setRelay .stuck none false
  cases hweld : s.trips.set.weld with
  | true =>
    have heq : s.weld = u := State.tripReport_again u .weld hweld
    rw [heq]
    exact
      { relay := rfl
        set := by
          show s.trips.set = _
          rw [← hweld]
        down := fun h => absurd (hweld.symm.trans h) (by decide)
        first := fun h => absurd (hweld.symm.trans (TripSet.has_of_empty h .weld)) (by decide)
        close := fun _ h => absurd (hweld.symm.trans h) (by decide) }
  | false =>
    have h : Tripped u .weld s.weld := tripped_tripReport hweld
    have hlatched := latched_tripLatched u .weld
    have hstuck : (u.tripLatched .weld).relay = u.relay := hlatched.relay.2 (by simp [u, State.setRelay])
    have hopened : u.tripOpened .weld = u.tripLatched .weld :=
      State.openRequest_releasing _ (.inr (by rw [hstuck]; rfl))
    exact
      { relay := by rw [h.relay, hopened, hstuck]; rfl
        set := by rw [h.trips]; rfl
        down := fun _ => ⟨h.iDem, h.duty, h.charge, h.plan⟩
        first := fun hempty => by
          have hempty' : u.trips.set.isEmpty = true := hempty
          rw [h.trips, h.attnTrip, hempty']
          exact ⟨rfl, rfl⟩
        close := fun n _ hclose => by
          have hbilling : (u.tripLatched .weld).billing = s.billing := hlatched.same .billing (by simp)
          rw [h.close, if_pos rfl, hopened, hbilling, hclose]
          rfl }

/-! ## The relay closes (O58) -/

theorem State.closeTimedOut_empty {s : State} (hclosing : s.relay.state = .closing)
    (hinfb : s.pins.infb = false) (hempty : s.trips.set.isEmpty = true) :
    ContactLost s s.closeTimedOut := by
  have h : Tripped s .contact (s.tripReport .contact) :=
    tripped_tripReport (TripSet.has_of_empty hempty _)
  have hlatched := latched_tripLatched s .contact
  have hpins : (s.tripLatched .contact).pins = s.pins := hlatched.same .pins (by simp)
  have hneed : (s.tripLatched .contact).power.need = false := by rw [hlatched.need, hempty]; simp
  have hrelay : (s.tripReport .contact).relay = ⟨.opened, none, false⟩ := by
    rw [h.relay, State.tripOpened, State.openRequest_closing _ (hlatched.relay.1.trans hclosing),
      State.enterRelease_open _ (by rw [hpins]; exact hinfb), hneed]
    rfl
  have heq : s.closeTimedOut = s.tripReport .contact := by
    rw [State.closeTimedOut, if_neg]
    rw [hrelay]
    decide
  rw [heq]
  exact contactLost_of_tripped hempty h hrelay

/-- Settles O58, path by path: the confirmed close, the close timer and the uncommanded closure. -/
theorem relayCloses : Obligations.RelayCloses := by
  intro s runsOut
  have hnoClose (hnot : ¬runsOut .closing 2) : exec .closeTimerExpiry s = .next s :=
    congrArg Host.Outcome.next (if_neg fun h => hnot ((Relay.expired_iff _ _ _).mp h))
  have hclose (hout : runsOut .closing 2) : exec .closeTimerExpiry s = .next s.closeTimedOut :=
    congrArg Host.Outcome.next (if_pos ((Relay.expired_iff _ _ _).mpr hout))
  have hnoClosure (hnot : ¬runsOut .opened 3) : exec .uncommandedClosureExpiry s = .next s :=
    congrArg Host.Outcome.next (if_neg fun h => hnot ((Relay.expired_iff _ _ _).mp h))
  have hclosure (hout : runsOut .opened 3) : exec .uncommandedClosureExpiry s = .next s.weld :=
    congrArg Host.Outcome.next (if_pos ((Relay.expired_iff _ _ _).mpr hout))
  refine ⟨fun h => congrArg Host.Outcome.next (if_pos h), fun h => ?_, hnoClose, fun hout hinfb => ?_,
    hnoClosure, fun hout => ?_⟩
  · refine ⟨(s.setInfb true).infbClosed, congrArg Host.Outcome.next (if_neg (by simp [h])), ?_⟩
    rw [State.setInfb_closed]
    cases hstate : s.relay.state <;>
      simp [State.infbClosed, hstate, State.enterClosed, State.setRelay, sameBut_iff] <;> rfl
  · refine ⟨fun hempty => ⟨_, hclose hout, ?_⟩, fun hcontact hneed => ⟨_, hclose hout, ?_⟩⟩
    · have h := State.closeTimedOut_empty hout.1 hinfb hempty
      exact ⟨h.trips, h.attn, h.relay, by rw [State.inrlyPin, h.relay]; rfl, h.iDem, h.duty, h.supplyFed,
        h.packFed, h.need, h.charge, h.plan, h.pins⟩
    · have hsame : s.tripReport .contact = s := State.tripReport_again s .contact hcontact
      have heq : s.closeTimedOut = s.enterOpen := by
        rw [State.closeTimedOut, hsame]
        exact if_pos hout.1
      rw [heq, State.enterOpen_eq hinfb, hneed]
      exact ⟨rfl, rfl⟩
  · have h := welded_weld s
    exact ⟨s.weld, hclosure hout, h.relay, h.set, by rw [State.inrlyPin, h.relay]; rfl, h.down, h.first,
      h.close⟩

/-! ## The relay opens (O59) -/

theorem State.contactLost_of_empty {s : State} (hinfb : s.pins.infb = false)
    (hempty : s.trips.set.isEmpty = true) :
    ContactLost s s.contactLost
      ∧ s.contactLost.billing.close = s.billing.close.map Closing.pass := by
  let u := s.setRelay .release (some 0) false
  have hemptied : u.trips.set.isEmpty = true := hempty
  have h : Tripped u .contact (u.tripReport .contact) :=
    tripped_tripReport (TripSet.has_of_empty hempty _)
  have hlatched := latched_tripLatched u .contact
  have hrelease : (u.tripLatched .contact).relay = u.relay := hlatched.relay.2 (by simp [u, State.setRelay])
  have hopened : u.tripOpened .contact = u.tripLatched .contact :=
    State.openRequest_releasing _ (.inl (by rw [hrelease]; rfl))
  have hpins : (u.tripReport .contact).pins.infb = false := by rw [h.pins]; exact hinfb
  have hneed : (u.tripReport .contact).power.need = false := h.need hempty
  have hbilling : (u.tripLatched .contact).billing = s.billing := hlatched.same .billing (by simp)
  have heq : s.contactLost = ((u.tripReport .contact).withRelay ⟨.opened, none, false⟩).withBilling
      (u.tripReport .contact).billing.passed := by
    rw [State.contactLost, State.endReleaseIfOpen, if_pos ⟨by rw [h.relay, hopened, hrelease]; rfl, hpins⟩,
      State.enterOpen_eq hpins, hneed]
    rfl
  rw [heq]
  refine ⟨?_, ?_⟩
  · exact
      { trips := by
          show (u.tripReport .contact).trips = _
          rw [h.trips, if_pos hemptied, TripSet.eq_empty hemptied]
          rfl
        attn := h.attnTrip.trans (by rw [hemptied]; rfl)
        relay := rfl
        iDem := h.iDem
        duty := h.duty
        supplyFed := h.supplyFed
        packFed := h.packFed
        need := hneed
        charge := h.charge
        plan := h.plan
        pins := h.pins }
  · show (u.tripReport .contact).billing.close.map Closing.pass = _
    rw [h.close, if_neg (by decide), hopened, hbilling]

theorem State.infbOpen_opening {s : State} (h : s.relay.state = .release ∨ s.relay.state = .stuck) :
    s.infbOpen = s.enterOpen := by rcases h with h | h <;> rw [State.infbOpen, h]

theorem State.infbOpen_opened {s : State} (h : s.relay.state = .opened) :
    s.infbOpen = s.setRelay .opened none false := by rw [State.infbOpen, h]

theorem State.infbOpen_closing {s : State} (h : s.relay.state = .closing) : s.infbOpen = s := by
  rw [State.infbOpen, h]

/-- A contact that drops out, from CLOSED with the demand taken to 0 first. -/
theorem State.infbOpen_driven {s : State} (h : s.relay.state = .closed ∨ s.relay.state = .currentWait) :
    s.infbOpen = s.contactLost ∨ s.infbOpen = s.leaveClosed.contactLost := by
  rcases h with h | h <;> rw [State.infbOpen, h]
  · exact .inr rfl
  · exact .inl rfl

theorem Billing.passed_waiting {b : Billing} {n : Option SlotNo} (h : b.close = some ⟨n, .awaitRelay⟩) :
    b.passed = { b with close := some ⟨n, .awaitHeld⟩ } := by
  rw [Billing.passed, h]
  rfl

theorem Billing.passed_other {b : Billing} (h : ∀ n, b.close ≠ some ⟨n, .awaitRelay⟩) : b.passed = b := by
  have hpass : b.close.map Closing.pass = b.close := by
    cases hclose : b.close with
    | none => rfl
    | some c =>
      obtain ⟨n, ph⟩ := c
      cases ph with
      | awaitRelay => exact absurd hclose (h n)
      | awaitHeld => rfl
      | awaitJournal _ => rfl
  rw [Billing.passed, hpass]

/-- Settles O59, path by path: the no-need timer, the current wait, the release phase, and INFB that shows
open. -/
theorem relayOpens : Obligations.RelayOpens := by
  intro s runsOut passed opens
  have hpassed (b : Billing) : passed b = b.passed := by
    simp only [passed]
    split
    next n h => rw [Billing.passed_waiting h]
    next h => rw [Billing.passed_other fun n hn => h n hn]
  have hopens : opens = openedFor := rfl
  have hexpired {st : RelayState} {limit : Nat} : runsOut st limit ↔ s.relay.expired st limit = true :=
    (Relay.expired_iff _ _ _).symm
  have hopenNow {u : State} (h : u.pins.infb = false) :
      u.enterOpen = (u.withRelay (opens u.power.need)).withBilling (passed u.billing) := by
    rw [State.enterOpen_eq h, hopens, hpassed]
  refine ⟨fun hnot => congrArg Host.Outcome.next (if_neg (hexpired.not.mp hnot)), fun hout => ?_,
    fun hnot => congrArg Host.Outcome.next (if_neg (hexpired.not.mp hnot)), fun hout => ⟨fun hinfb => ?_,
      fun hinfb => ?_⟩,
    fun hnot => congrArg Host.Outcome.next (if_neg (hexpired.not.mp hnot)), fun hout hinfb => ?_,
    fun hout hinfb => ?_, fun hinfb => congrArg Host.Outcome.next (if_neg (by simp [hinfb])), fun hinfb => ?_⟩
  · refine ⟨_, congrArg Host.Outcome.next (if_pos (hexpired.mp hout)), ?_, ?_, rfl⟩
    · simp [sameBut_iff, State.leaveClosed, State.setRelay]
    · simp [State.leaveClosed, State.setRelay]
  · refine congrArg Host.Outcome.next ((if_pos (hexpired.mp hout)).trans ?_)
    rw [State.enterRelease_closed _ hinfb]
    rfl
  · refine congrArg Host.Outcome.next ((if_pos (hexpired.mp hout)).trans ?_)
    rw [State.enterRelease_open _ hinfb, hopens, hpassed]
  · have h := welded_weld s
    refine ⟨s.weld, congrArg Host.Outcome.next ((if_pos (hexpired.mp hout)).trans (if_pos hinfb)), h.relay,
      h.set, h.down, h.first, h.close⟩
  · exact congrArg Host.Outcome.next ((if_pos (hexpired.mp hout)).trans ((if_neg (by simp [hinfb])).trans
      (hopenNow hinfb)))
  · intro low
    have hlow : exec .infbShowsOpen s = .next low.infbOpen := by
      refine congrArg Host.Outcome.next ((if_pos hinfb).trans ?_)
      rw [State.setInfb_open]
    refine ⟨fun hstate => hlow.trans ?_, fun hstate => hlow.trans ?_, fun hstate => hlow.trans ?_,
      fun hstate hempty => ?_⟩
    · refine congrArg Host.Outcome.next ((State.infbOpen_opening (s := low) hstate).trans
        (hopenNow (u := low) rfl))
    · exact congrArg Host.Outcome.next (State.infbOpen_opened (s := low) hstate)
    · exact congrArg Host.Outcome.next (State.infbOpen_closing (s := low) hstate)
    · obtain ⟨v, hv, hclose, hlost⟩ : ∃ v, low.infbOpen = v
          ∧ v.billing.close = s.billing.close.map Closing.pass ∧ ContactLost low v := by
        rcases State.infbOpen_driven (s := low) hstate with heq | heq
        · obtain ⟨hlost, hclose⟩ := State.contactLost_of_empty (s := low) rfl hempty
          exact ⟨_, heq, hclose, hlost⟩
        · obtain ⟨hlost, hclose⟩ := State.contactLost_of_empty (s := low.leaveClosed) rfl hempty
          exact ⟨_, heq, hclose, hlost.trips, hlost.attn, hlost.relay, hlost.iDem, hlost.duty,
            hlost.supplyFed, hlost.packFed, hlost.need, hlost.charge, hlost.plan, hlost.pins⟩
      refine ⟨v, by rw [hlow, hv], hlost.trips, hlost.attn, hlost.relay, hlost.pins, hlost.iDem, hlost.duty,
        hlost.need, hlost.charge, hlost.plan, fun n hn => ?_⟩
      rw [hclose, hn]
      rfl

end Sys2Proof.Machine
end

/-! # The power-on reset (O60) -/

section
namespace Sys2Proof.Machine

/-- A part at rest: no session, no close, no standing order, and the relay OPEN. -/
structure State.AtRest (s : State) : Prop where
  relay : s.relay.state = .opened
  close : s.billing.close = none
  session : s.billing.session = none
  charge : s.power.charge = none
  plan : s.heating.plan = none

theorem State.passStep2_none {s : State} (h : s.billing.close = none) : s.passStep2 = s := by
  rw [State.passStep2, h]

/-- At rest a new trip has nothing to open, end or close (R179). -/
theorem State.tripReport_atRest {s : State} {k : TripKind} (hnew : s.trips.set.has k = false)
    (h : s.AtRest) : s.tripReport k = s.tripLatched k := by
  have hlatched := latched_tripLatched s k
  have hbilling : (s.tripLatched k).billing = s.billing := hlatched.same .billing (by simp)
  have hclose : (s.tripLatched k).billing.close = none := by rw [hbilling, h.close]
  have hopened : (s.tripLatched k).openRequest k.skips = s.tripLatched k := by
    rw [State.openRequest_opened _ (hlatched.relay.1.trans h.relay), State.passStep2_none hclose]
  have hcharge : (s.tripLatched k).tripCharge = s.tripLatched k :=
    State.tripCharge_of_none (by rw [hlatched.charge, h.charge]; rfl)
  have hheating : (s.tripLatched k).heating = s.heating := hlatched.same .heating (by simp)
  have hplan : (s.tripLatched k).tripPlan = s.tripLatched k :=
    State.tripPlan_of_none (by rw [hheating, h.plan])
  have hclosed : ∀ n, (s.tripLatched k).closeInterval .trip n false = s.tripLatched k := fun n =>
    State.closeIntervalBy_closed (.inl (by rw [hbilling, h.session]))
  have hrest : s.tripReport k = (s.tripLatched k).tripRest k := State.tripReport_of_new hnew
  rw [hrest, State.tripRest, hopened, hcharge, hplan]
  show ((s.tripLatched k).closeInterval .trip _ false).weldPasses k = _
  rw [hclosed, State.weldPasses]
  split
  · exact State.passStep2_none hclose
  · rfl

/-- What the blocks hold as a power-on reset ends, apart from MODULE. -/
structure Reset (pending : List Instr) (l : Pins) (t : State) : Prop where
  same : SameBut [.pins, .metering, .insulation, .relay, .pending] State.reset t
  pins : t.pins = l
  pending : t.pending = pending
  metering : t.metering = { State.reset.metering with closedSeen := l.infb }
  insulation : { t.insulation with half := none, state := .idle } = State.reset.insulation
  monitor : t.insulation.state = if l.pkon then .warmup else .idle
  half : t.insulation.half.isSome = l.pkon
  relay : t.relay = ⟨.opened, if l.infb then some 0 else none, false⟩

theorem reset_powerOnMonitor (s : State) (l : Pins) :
    Reset s.pending l ((State.reset.withPending s.pending).powerOnPins l).powerOnMonitor := by
  have hpins : ((State.reset.withPending s.pending).powerOnPins l).pins = l := rfl
  unfold State.powerOnMonitor
  rw [hpins]
  cases hpkon : l.pkon with
  | true =>
    exact
      { same := by simp [sameBut_iff, State.powerOnPins]
        pins := by simp [hpins]
        pending := by simp [State.powerOnPins]
        metering := by simp [State.powerOnPins]
        insulation := rfl
        monitor := by rw [hpkon]; rfl
        half := by rw [hpkon]; rfl
        relay := by simp [State.powerOnPins, State.setRelay] }
  | false =>
    exact
      { same := by simp [sameBut_iff, State.powerOnPins]
        pins := hpins
        pending := by simp [State.powerOnPins]
        metering := by simp [State.powerOnPins]
        insulation := rfl
        monitor := by rw [hpkon]; rfl
        half := by rw [hpkon]; rfl
        relay := by simp [State.powerOnPins, State.setRelay] }

theorem Reset.atRest {pending : List Instr} {l : Pins} {t : State} (h : Reset pending l t) : t.AtRest where
  relay := by rw [h.relay]
  close := by rw [show t.billing = _ from h.same .billing (by simp)]; rfl
  session := by rw [show t.billing = _ from h.same .billing (by simp)]; rfl
  charge := by rw [show t.power = _ from h.same .power (by simp)]; rfl
  plan := by rw [show t.heating = _ from h.same .heating (by simp)]; rfl

/-- A trip's drives leave the half-period in progress (R152). -/
theorem State.tripLatched_half (s : State) (k : TripKind) :
    (s.tripLatched k).insulation.half.isSome = s.insulation.half.isSome := by
  cases hempty : s.trips.set.isEmpty with
  | true =>
    rw [State.tripLatched, State.latchTrip_empty k hempty]
    simp [State.tripDrives, State.failGate]
  | false =>
    rw [State.tripLatched, State.latchTrip_nonempty k hempty]
    simp [State.tripDrives]

theorem drivesFall_tripDrives (s : State) : DrivesFall s s.tripDrives := by
  have hdown : DrivesFall s ((s.setDemand 0).setDuty 0) :=
    (drivesFall_setDemand (Nat.zero_le _)).trans (drivesFall_setDuty (Nat.zero_le _))
  exact hdown.trans { demand := fun hd => ⟨hd, id⟩, watch := rfl }

/-- Beyond the header and the START record the memory reads 00h (R2, R94). -/
theorem resetMemory_read {a : Nat} (h : 0x0010 ≤ a) (hrecord : a < 0x2000 ∨ 0x2040 ≤ a) :
    resetMemory.read a = 0 := by
  have hne (b : Nat) (hb : b < 0x0010 ∨ 0x2000 ≤ b ∧ b < 0x2040) : b ≠ a := by omega
  simp [resetMemory, Memory.read, hne]

/-- What MODULE adds to a reset state: the trip set, TRIP, and nothing of the drives, which are down. -/
structure ResetTripped (m t : State) : Prop where
  same : SameBut [.attn, .insulation, .trips] m t
  attn : t.attn = m.attn.put .trip true
  trips : t.trips = ⟨{ TripSet.empty with module := true }, some ⟨.module, 0⟩⟩
  watch : t.insulation = { m.insulation with half := t.insulation.half }
  half : t.insulation.half.isSome = m.insulation.half.isSome

theorem Reset.tripped {pending : List Instr} {l : Pins} {m : State} (h : Reset pending l m) :
    ResetTripped m (m.tripReport .module) := by
  have htrips : m.trips = Trips.reset := h.same .trips (by simp)
  have hpower : m.power = Power.reset := h.same .power (by simp)
  have hbilling : m.billing = Billing.reset := h.same .billing (by simp)
  have hempty : m.trips.set.isEmpty = true := by rw [htrips]; rfl
  rw [State.tripReport_atRest (TripSet.has_of_empty hempty _) h.atRest]
  have hlatched := latched_tripLatched m .module
  have hdrives : (m.tripLatched .module).power = Power.reset := by
    rw [State.tripLatched, State.tripDrives_power, State.latchTrip_empty _ hempty, State.failGate_power]
    simp only [State.raise_power, State.withTrips_power, hpower]
    rfl
  have hsame := sameBut_iff.mp hlatched.same
  exact
    { same := by
        refine fun p hp => ?_
        by_cases hp' : p = .power
        · subst hp'
          exact hdrives.trans hpower.symm
        by_cases hp'' : p = .relay
        · subst hp''
          exact hlatched.relay.2 (by rw [h.relay]; simp)
        exact hlatched.same p (by
          simp only [List.mem_cons, List.not_mem_nil, or_false, not_or] at hp ⊢
          tauto)
      attn := by rw [hlatched.attn, if_pos hempty]
      trips := by rw [hlatched.trips, if_pos hempty, TripSet.eq_empty hempty, hbilling]; rfl
      watch := by
        rw [State.tripLatched, State.latchTrip_empty _ hempty]
        exact ((drivesFall_failGate _).trans (drivesFall_tripDrives _)).watch
      half := m.tripLatched_half .module }

/-- Settles O60: the reset state is written out, and MODULE changes only the trips and TRIP in it. -/
theorem powerOnResetState : Obligations.PowerOnResetState := by
  intro s l
  let m := ((State.reset.withPending s.pending).powerOnPins l).powerOnMonitor
  have hm : Reset s.pending l m := reset_powerOnMonitor s l
  obtain ⟨t, ht, hsame, hattn, htrips, hins, hhalf⟩ : ∃ t, exec (.powerOnReset l) s = .next t
      ∧ SameBut [.attn, .insulation, .trips] m t
      ∧ t.attn = ⟨l.pmflt, false, false, false, false, false, false, false, 0xFF⟩
      ∧ t.trips = (if l.pmflt then ⟨{ TripSet.empty with module := true }, some ⟨.module, 0⟩⟩
        else ⟨TripSet.empty, none⟩)
      ∧ t.insulation = { m.insulation with half := t.insulation.half }
      ∧ t.insulation.half.isSome = l.pkon := by
    have hmattn : m.attn = Attention.reset := hm.same .attn (by simp)
    cases hpmflt : l.pmflt with
    | true =>
      have h := hm.tripped
      refine ⟨m.tripReport .module, congrArg Host.Outcome.next (if_pos hpmflt), h.same, ?_, h.trips,
        h.watch, h.half.trans hm.half⟩
      rw [h.attn, hmattn]
      rfl
    | false =>
      exact ⟨m, congrArg Host.Outcome.next (if_neg (by simp [hpmflt])), fun p _ => by cases p <;> rfl,
        hmattn, hm.same .trips (by simp), rfl, hm.half⟩
  have hmem : t.mem = resetMemory := (hsame .mem (by simp)).trans (hm.same .mem (by simp))
  have hlink : t.link = Link.reset := (hsame .link (by simp)).trans (hm.same .link (by simp))
  have horders : t.orders = Orders.reset := (hsame .orders (by simp)).trans (hm.same .orders (by simp))
  have hbilling : t.billing = Billing.reset := (hsame .billing (by simp)).trans (hm.same .billing (by simp))
  have hpower : t.power = Power.reset := (hsame .power (by simp)).trans (hm.same .power (by simp))
  have hheating : t.heating = Heating.reset := (hsame .heating (by simp)).trans (hm.same .heating (by simp))
  have hmetering := (hsame .metering (by simp)).trans hm.metering
  have hmonitor : t.insulation.state = if l.pkon then .warmup else .idle := by rw [hins]; exact hm.monitor
  refine ⟨t, ht, (hsame .pins (by simp)).trans hm.pins, (hsame .pending (by simp)).trans hm.pending, ?_, ?_,
    ?_, ?_, ?_⟩
  · rw [hmem]; exact resetMemory_wf
  · rw [hmem]; rfl
  · rw [hmem]; rfl
  · intro a h hrecord
    rw [hmem]
    exact resetMemory_read h hrecord
  rw [hlink, hattn, htrips, hbilling, hpower, hheating, hmonitor, hhalf]
  refine ⟨rfl, rfl, rfl, rfl, rfl, rfl, ?_, fun n => ?_, ?_, ?_, fun c => ?_, ?_, ?_, ?_, rfl, rfl, rfl, rfl, rfl,
    rfl, rfl, rfl, rfl, by decide, rfl, rfl, rfl, rfl, rfl, rfl, rfl, rfl, rfl, rfl, rfl, rfl, rfl, rfl, ?_⟩
  · rw [State.attnPin, hattn]
    cases l.pmflt <;> rfl
  · rw [State.slot, horders]
    simp [Orders.reset, Slot.reset]
  · rw [horders]; rfl
  · rw [horders]; rfl
  · rw [hmetering]
    rcases lt_or_ge c 4 with hlt | hge
    · rw [if_pos hlt]
      interval_cases c <;> rfl
    · rw [if_neg (by omega)]
      obtain ⟨d, rfl⟩ := Nat.exists_eq_add_of_le' hge
      rfl
  · rw [hmetering]; rfl
  · rw [hmetering]
  · rw [hmetering]; rfl
  have hreset : { t.insulation with half := none, state := .idle } = State.reset.insulation := by
    rw [hins]; exact hm.insulation
  exact ⟨rfl, congrArg Insulation.condition hreset, congrArg Insulation.fresh hreset,
    congrArg Insulation.settings hreset, congrArg Insulation.history hreset, congrArg Insulation.last hreset,
    rfl, rfl, (hsame .relay (by simp)).trans hm.relay, rfl,
    (hsame .statusSeq (by simp)).trans (hm.same .statusSeq (by simp))⟩

end Sys2Proof.Machine
end

/-! # Orders that write records: CALIBRATE METER (O42) -/

section
namespace Sys2Proof.Machine

/-! ## Orders whose effects reach the journal -/

/-- A state after the effects of an order that left the order engine as its post did, and memory but
for the bytes named. -/
structure Served (q : Nat → Prop) (s : State) (n : SlotNo) (p : Posted) (v : State) : Prop where
  orders : v.orders = (s.copyPost n p).orders
  reads : ReadsSameBut q (s.copyPost n p) v
  wf : v.mem.wf = true

theorem State.finish_reads (v : State) (n : SlotNo) (e : Ending) :
    ReadsSameBut (engineBytes n) v (v.finish n e) := fun _ ha => v.finish_read_other n e ha

namespace Served

variable {q : Nat → Prop} {s v : State} {n : SlotNo} {p : Posted}

theorem ended (h : Served q s n p v) (e : Ending) : Ended (v.finish n e) n p e :=
  ended_finish e (by rw [State.slot_congr h.orders, State.copyPost_slot_same]) h.wf

theorem otherSlots (h : Served q s n p v) (e : Ending) : OtherSlots n s (v.finish n e) := by
  refine ⟨fun k hk => ?_, ?_, ?_⟩
  · rw [State.slot_finish_other _ _ hk, State.slot_congr h.orders, State.copyPost_slot_other _ _ hk]
  · rw [State.finish_queues, h.orders, State.copyPost_queues]
  · show v.orders.notices = _
    rw [h.orders, State.copyPost_notices]

theorem readsOf (h : Served q s n p v) (e : Ending) {q' : Nat → Prop}
    (hq : ∀ a, engineBytes n a ∨ q a → q' a) : ReadsSameBut q' s (v.finish n e) := fun a ha => by
  have hengine : ¬engineBytes n a := fun h' => ha (hq a (.inl h'))
  rw [v.finish_read_other n e hengine, h.reads a fun h' => ha (hq a (.inr h')),
    State.copyPost_read_other s n p hengine]

end Served

theorem RecordAt.finish {v : State} {mark : Half} {r : Record} (h : RecordAt v mark r) (n : SlotNo)
    (e : Ending) : RecordAt (v.finish n e) mark r :=
  h.keep (v.finish_reads n e) fun a ha he => by
    have h1 := recordBytes_bounds ha
    have h2 := engineBytes_bound he
    omega

theorem Holds.finish {v : State} {r : Record} (h : Holds v r) (n : SlotNo) (e : Ending) :
    Holds (v.finish n e) r := by
  refine ⟨by rw [State.finish_billing]; exact h.1, ?_⟩
  rw [v.finish_read_other n e fun he => by have := engineBytes_bound he; omega]
  exact h.2

theorem OtherCauses.finish {cs : List Cause} {s v : State} (h : OtherCauses cs s v) (n : SlotNo)
    (e : Ending) (hc : .orderDone ∈ cs) : OtherCauses cs s (v.finish n e) :=
  h.trans (.of_put (v.finish_attn n e) hc)

/-- The parts of a finished order that its effects alone decide. -/
theorem SameBut.finish {ps : List Part} {s v : State} (h : SameBut ps s v) (n : SlotNo) (e : Ending)
    (hmem : .mem ∈ ps) (horders : .orders ∈ ps) (hattn : .attn ∈ ps) : SameBut ps s (v.finish n e) := by
  have hfinish : SameBut [.mem, .orders, .attn] v (v.finish n e) := by simp [sameBut_iff]
  exact h.trans (hfinish.mono (by simp [hmem, horders, hattn]))

/-! ## One record written with room (R92, R93) -/

theorem State.record_eq (s : State) (r : Record) : s.record r =
    (s.withBilling { s.billing with
      nextSeq := s.billing.nextSeq + 1, journalMeter := r.meterEnd }).enterRecord
      { r with seq := s.billing.nextSeq } := rfl

/-- What a record written in the journal leaves, for a billing unit that stood as named before it. -/
structure Wrote (s : State) (b : Billing) (r : Record) (v : State) : Prop where
  record : RecordAt v b.w r
  attn : v.attn = s.attn.put .journalNew true
  billing : v.billing = { b with
    w := b.w + 1, flaggedMark := if r.flags.flagged then some b.w else b.flaggedMark }
  reads : ReadsSameBut (fun a => journalHeader a ∨ recordBytes b.w a) s v
  same : SameBut [.mem, .attn, .billing] s v
  wf : v.mem.wf = true

theorem wrote_journalWrite {s : State} (b : Billing) (r : Record) (hwf : s.mem.wf = true) :
    Wrote s b r ((s.withBilling b).journalWrite r) where
  record := State.journalWrite_recordAt (s := s.withBilling b) r hwf
  attn := by rw [State.journalWrite_attn]; rfl
  billing := by rw [State.journalWrite_billing]; rfl
  reads := (s.withBilling b).journalWrite_reads r
  same := (Recorded.of_billing s b).same.trans (recorded_journalWrite (s.withBilling b) r).same
  wf := State.journalWrite_wf _ r hwf

/-- With room a record enters the journal, and no hold begins. -/
theorem wrote_enterRecord {s : State} {b : Billing} {k : Nat} (r : Record) (hwf : s.mem.wf = true)
    (hroom : Room (s.withBilling b) (k + 1)) :
    Wrote s b r ((s.withBilling b).enterRecord r) ∧ Room ((s.withBilling b).enterRecord r) k := by
  rw [hroom.enterRecord]
  exact ⟨wrote_journalWrite b r hwf, hroom.next r⟩

theorem Wrote.otherCauses {s v : State} {b : Billing} {r : Record} (h : Wrote s b r v) :
    OtherCauses [.orderDone, .journalNew] s v := .of_put h.attn (by simp)

/-! ## CALIBRATE METER (O42) -/

theorem Metering.channel_isSome {m : Metering} {c : Byte} (h : c.toNat < 4) :
    ∃ old, m.channel c.toNat = some old := by
  have hc : c.toNat = 0 ∨ c.toNat = 1 ∨ c.toNat = 2 ∨ c.toNat = 3 := by omega
  rcases hc with hc | hc | hc | hc <;> rw [hc] <;> exact ⟨_, rfl⟩

theorem Metering.channel_of_ge {m : Metering} {c : Byte} (h : 4 ≤ c.toNat) : m.channel c.toNat = none := by
  obtain ⟨d, hd⟩ := Nat.exists_eq_add_of_le' h
  rw [hd]
  rfl

theorem Metering.setChannel_of_lt {m : Metering} {c : Byte} (h : c.toNat < 4) (new : Channel) :
    m.setChannel c.toNat new = { m with
      inlet := if c = 0 then new else m.inlet
      pack := if c = 1 then new else m.pack
      heater := if c = 2 then new else m.heater
      auxc := if c = 3 then new else m.auxc } := by
  have hc : c = 0 ∨ c = 1 ∨ c = 2 ∨ c = 3 := by bv_omega
  rcases hc with rfl | rfl | rfl | rfl <;> rfl

/-- Settles O42. -/
theorem calibrateMeterSets : Obligations.CalibrateMeterSets := by
  intro s n tag channel gain offset h c posted g q
  have hwf := h.2.2.2
  let u := s.copyPost n posted
  have hexec : exec c s = .next ((u.takeCalibrate channel gain offset).2.finish n
      (u.takeCalibrate channel gain offset).1) :=
    (exec_takesAtOnce h (tag := tag) (o := .calibrateMeter channel gain offset) rfl rfl).trans rfl
  have hmetering : u.metering = s.metering := by simp [u]
  have hbilling : u.billing = s.billing := by simp [u]
  refine ⟨fun hhigh => refuses_of_finish hwf (hexec.trans ?_), fun hlow hnot => refuses_of_finish hwf
    (hexec.trans ?_), ?_⟩
  · rw [State.takeCalibrate, hmetering, Metering.channel_of_ge hhigh]
  · obtain ⟨old, hold⟩ := Metering.channel_isSome (m := s.metering) hlow
    rw [State.takeCalibrate, hmetering, hold]
    simp only
    rw [if_pos (by rw [hbilling]; exact hnot)]
  · intro old hold hlow hses hdet horphan hroom new r
    have hchannel : s.metering.channel channel.toNat = some old := by
      have hc : channel.toNat = 0 ∨ channel.toNat = 1 ∨ channel.toNat = 2 ∨ channel.toNat = 3 := by omega
      rw [hold]
      rcases hc with hc | hc | hc | hc <;> rw [hc] <;> rfl
    have htake : u.takeCalibrate channel gain offset =
        (⟨.ok, clampedNote (decide (g ≠ gain.toNat) || decide (q ≠ offset.toInt)),
          [channel] ++ beBytes 4 old.gain ++ beInt 2 old.offset ++ beBytes 4 g ++ beInt 2 q
            ++ [flagByte old.uncalibrated] ++ beBytes 4 s.metering.reverse
            ++ beBytes 4 s.billing.meter.toNat⟩, u.applyCalibrate channel.toNat old g q) := by
      rw [State.takeCalibrate, hmetering, hchannel]
      simp only
      rw [if_neg (by rw [hbilling]; simp [hses, hdet, horphan, hroom.1]), hbilling]
    rw [htake, clampedNote_eq (asked := g = gain.toNat ∧ q = offset.toInt)
      (by simp only [Bool.or_eq_true, decide_eq_true_eq]; tauto)] at hexec
    let m := s.metering.setChannel channel.toNat new
    let b : Billing := { s.billing with nextSeq := s.billing.nextSeq + 1, journalMeter := s.billing.meter }
    have happly : u.applyCalibrate channel.toNat old g q = ((u.withMetering m).withBilling b).enterRecord r := by
      rw [State.applyCalibrate, State.record_eq, hmetering]
      have hreverse : m.reverse = s.metering.reverse := by
        rw [show m = _ from Metering.setChannel_of_lt hlow new]
      simp only [State.withMetering_billing, State.withMetering_metering, hbilling, calibrationRecord]
      rw [show (s.metering.setChannel channel.toNat ⟨g, q, 0, false⟩).reverse = s.metering.reverse from hreverse]
      rfl
    rw [happly] at hexec
    obtain ⟨hw, -⟩ := wrote_enterRecord (s := u.withMetering m) (b := b) r (State.copyPost_wf s n posted hwf) hroom
    generalize hv : ((u.withMetering m).withBilling b).enterRecord r = v at hw hexec
    have hserved : Served (fun a => journalHeader a ∨ recordBytes s.billing.w a) s n posted v :=
      ⟨hw.same .orders (by simp), hw.reads, hw.wf⟩
    refine ⟨_, hexec, hserved.ended _, ?_, hw.record.finish n _, ?_, ?_, hserved.readsOf _ fun a => id,
      hserved.otherSlots _, (hw.otherCauses.finish n _ (by simp)), ?_⟩
    · rw [State.finish_metering, ← Metering.setChannel_of_lt hlow new]
      exact hw.same .metering (by simp)
    · rw [State.finish_attn, hw.attn]; rfl
    · rw [State.finish_billing, hw.billing]; rfl
    · refine SameBut.finish ?_ n _ (by simp) (by simp) (by simp)
      exact SameBut.trans (t := u.withMetering m) (by simp [sameBut_iff, u]) (hw.same.mono (by simp))

end Sys2Proof.Machine
end

/-! # LOAD TARIFF (O38) -/

section
namespace Sys2Proof.Machine

/-! ## The staged table (R68) -/

/-- The bands in the staging area, one of four bytes after the other. -/
theorem tariffBands_readAll (m : Memory) (a k : Nat) : tariffBands k (m.readAll a (4 * k)) =
    (List.range k).map fun i => ⟨(half (m.read (a + 4 * i)) (m.read (a + 4 * i + 1))).toNat,
      (half (m.read (a + 4 * i + 2)) (m.read (a + 4 * i + 3))).toNat⟩ := by
  induction k generalizing a with
  | zero => rfl
  | succ k ih =>
    have hnext (i : Nat) : a + 4 * (i + 1) = a + 4 + 4 * i := by omega
    rw [List.range_succ_eq_map, List.map_cons, List.map_map]
    refine congrArg₂ List.cons rfl ((ih (a + 4)).trans (List.map_congr_left fun i _ => ?_))
    simp only [Function.comp_apply, Nat.succ_eq_add_one, hnext]

theorem bandsRise_iff (before : Nat) (bs : List Band) : bandsRise before bs = true ↔
    (before :: bs.map (·.start)).Pairwise (· < ·) ∧ ∀ b ∈ bs, b.start < 1440 := by
  induction bs generalizing before with
  | nil => simp [bandsRise]
  | cons b bs ih =>
    rw [bandsRise, Bool.and_eq_true, Bool.and_eq_true, ih, decide_eq_true_eq, decide_eq_true_eq,
      List.map_cons, List.pairwise_cons (a := before)]
    constructor
    · rintro ⟨⟨hlt, hday⟩, hrise, hall⟩
      refine ⟨⟨fun x hx => ?_, hrise⟩, fun x hx => ?_⟩
      · rcases List.mem_cons.mp hx with rfl | hx
        · exact hlt
        · exact hlt.trans (List.rel_of_pairwise_cons hrise hx)
      · rcases List.mem_cons.mp hx with rfl | hx
        · exact hday
        · exact hall x hx
    · rintro ⟨⟨hbefore, hrise⟩, hall⟩
      exact ⟨⟨hbefore _ (by simp), hall _ (by simp)⟩, hrise, fun x hx => hall x (by simp [hx])⟩

theorem Tariff.valid_iff (t : Tariff) : t.valid = true ↔
    t.length ∈ [5, 10, 15, 20, 30, 60] ∧ (t.bands.map (·.start)).head? = some 0
      ∧ (t.bands.map (·.start)).Pairwise (· < ·) ∧ ∀ b ∈ t.bands, b.start < 1440 := by
  obtain ⟨len, bands⟩ := t
  rw [Tariff.valid, Bool.and_eq_true, List.contains_iff_mem]
  refine and_congr_right fun _ => ?_
  cases bands with
  | nil => simp
  | cons b bs =>
    simp only [Bool.and_eq_true, beq_iff_eq, bandsRise_iff, List.map_cons, List.head?_cons,
      Option.some.injEq]
    refine and_congr_right fun hzero => ?_
    rw [hzero]
    refine and_congr_right fun _ => ⟨fun hall x hx => ?_, fun hall x hx => hall x (by simp [hx])⟩
    rcases List.mem_cons.mp hx with rfl | hx
    · omega
    · exact hall x hx

theorem tariffParamsOk_eq (offset count : Nat) : tariffParamsOk offset count =
    decide (1 ≤ count ∧ count ≤ 12 ∧ 0x0640 ≤ offset ∧ offset + 4 * count ≤ 0x1FFF) := by
  rw [Bool.eq_iff_iff]
  simp only [tariffParamsOk, Bool.and_eq_true, decide_eq_true_eq]
  simp only [Config.stagingFirst, Config.stagingLast]
  omega

/-! ## The minute of the adoption (R63, R64, R69) -/

/-- Minutes ahead to the next multiple of `l` in the day, or to the day's end. -/
def toBoundary (m l : Nat) : Nat := if l = 0 then 1440 - m else min ((m / l + 1) * l) 1440 - m

theorem toBoundary_bounds {m : Nat} (l : Nat) (hm : m < 1440) :
    0 < toBoundary m l ∧ m + toBoundary m l ≤ 1440 := by
  unfold toBoundary
  split
  · omega
  · have hlt := Nat.lt_mul_div_succ m (show 0 < l by omega)
    rw [mul_comm] at hlt
    omega

theorem toBoundary_minimal {m l j : Nat} (hj : 0 < j) (hlt : j < toBoundary m l) : (m + j) % l ≠ 0 := by
  unfold toBoundary at hlt
  split at hlt
  next hzero =>
    rw [hzero, Nat.mod_zero]
    omega
  next hpos =>
    intro hdvd
    obtain ⟨c, hc⟩ := Nat.dvd_of_mod_eq_zero hdvd
    have hlow := Nat.div_mul_le_self m l
    have hc1 : m / l < c := by
      by_contra hle
      have := Nat.mul_le_mul_left l (Nat.le_of_not_lt hle)
      rw [mul_comm l (m / l)] at this
      omega
    have := Nat.mul_le_mul_left l hc1
    rw [Nat.succ_eq_add_one, mul_comm l (m / l + 1)] at this
    omega

theorem toBoundary_reached {m : Nat} (l : Nat) (hm : m < 1440) : (m + toBoundary m l) % 1440 % l = 0 := by
  unfold toBoundary
  split
  next hzero =>
    rw [hzero, Nat.mod_zero]
    omega
  next hpos =>
    have hlt := Nat.lt_mul_div_succ m (show 0 < l by omega)
    rw [mul_comm] at hlt
    rw [show m + (min ((m / l + 1) * l) 1440 - m) = min ((m / l + 1) * l) 1440 by omega]
    rcases lt_or_ge ((m / l + 1) * l) 1440 with hday | hday
    · rw [min_eq_left hday.le, Nat.mod_eq_of_lt hday, Nat.mul_mod_left]
    · rw [min_eq_right hday, Nat.mod_self, Nat.zero_mod]

/-- The minute of day some minutes ahead, with the wrap of part time (R63, R64). -/
def minuteAhead (minutes k : Nat) : Nat :=
  if minutes + k ≤ 71582788 then (minutes + k) % 1440 else (minutes + k - 71582789) % 1440

theorem Billing.nextBoundary_eq (b : Billing) : b.nextBoundary =
    if b.partTime.toNat / 60 + toBoundary (b.partTime.toNat / 60 % 1440) b.table.length ≤ 71582788 then
      (b.partTime.toNat / 60 % 1440 + toBoundary (b.partTime.toNat / 60 % 1440) b.table.length) % 1440
    else 0 := by
  unfold Billing.nextBoundary
  extract_lets m next
  have hm : m = b.partTime.toNat / 60 % 1440 := rfl
  rcases Nat.eq_zero_or_pos b.table.length with hzero | hpos
  · have hnext : next = 0 := by simp [next, hzero]
    have := b.partTime.isLt
    rw [if_pos (by omega), hnext, toBoundary, if_pos hzero]
    split <;> omega
  · have hlt := Nat.lt_mul_div_succ m hpos
    rw [mul_comm] at hlt
    have hgo : toBoundary m b.table.length = next - m := if_neg (by omega)
    have hle : m ≤ next := by
      have : m < 1440 := Nat.mod_lt _ (by decide)
      simp only [next]
      omega
    rw [← hm, hgo, show m + (next - m) = next by omega]
    split <;> split <;> omega

/-- The reported minute is the first one ahead that is a multiple of L. -/
theorem Billing.nextBoundary_first (b : Billing) : ∃ k, 0 < k
    ∧ minuteAhead (b.partTime.toNat / 60) k % b.table.length = 0
    ∧ (∀ j, 0 < j → j < k → minuteAhead (b.partTime.toNat / 60) j % b.table.length ≠ 0)
    ∧ b.nextBoundary = minuteAhead (b.partTime.toNat / 60) k := by
  let minutes := b.partTime.toNat / 60
  let m := minutes % 1440
  have hm : m < 1440 := Nat.mod_lt _ (by decide)
  have hmax : minutes ≤ 71582788 := by have := b.partTime.isLt; omega
  obtain ⟨hpos, hday⟩ := toBoundary_bounds b.table.length hm
  let k := min (toBoundary m b.table.length) (71582789 - minutes)
  have hahead (j : Nat) (hj : j < k) : minuteAhead minutes j = m + j := by
    rw [minuteAhead, if_pos (by omega)]
    omega
  refine ⟨k, by omega, ?_, fun j hj hlt => ?_, ?_⟩
  · rcases le_or_gt (minutes + toBoundary m b.table.length) 71582788 with hin | hwrap
    · rw [show k = toBoundary m b.table.length by omega]
      have hmod : (minutes + toBoundary m b.table.length) % 1440
          = (m + toBoundary m b.table.length) % 1440 := by omega
      rw [minuteAhead, if_pos hin, hmod]
      exact toBoundary_reached _ hm
    · rw [show k = 71582789 - minutes by omega, minuteAhead, if_neg (by omega),
        show minutes + (71582789 - minutes) - 71582789 = 0 by omega, Nat.zero_mod]
  · rw [hahead j hlt]
    exact toBoundary_minimal hj (by omega)
  · rw [b.nextBoundary_eq]
    change (if minutes + toBoundary m b.table.length ≤ 71582788 then
      (m + toBoundary m b.table.length) % 1440 else 0) = minuteAhead minutes k
    rcases le_or_gt (minutes + toBoundary m b.table.length) 71582788 with hin | hwrap
    · rw [if_pos hin, show k = toBoundary m b.table.length by omega, minuteAhead, if_pos hin]
      omega
    · rw [if_neg (by omega), show k = 71582789 - minutes by omega, minuteAhead, if_neg (by omega),
        show minutes + (71582789 - minutes) - 71582789 = 0 by omega]

/-! ## LOAD TARIFF -/

/-- Settles O38: the table that is staged is the one that stands in memory, and the minute is the first one
ahead. -/
theorem loadTariffLoads : Obligations.LoadTariffLoads := by
  intro s n tag offset count h c posted inRange bands table good minutes ahead
  have hwf := h.2.2.2
  let u := s.copyPost n posted
  have hexec : exec c s = .next (State.answer n (u.takeLoadTariff offset count)) :=
    (exec_takesAtOnce h (o := .loadTariff offset count) rfl rfl).trans rfl
  have hparams : tariffParamsOk offset.toNat count.toNat = inRange := tariffParamsOk_eq _ _
  have htable : inRange = true →
      stagedTariff count.toNat (u.mem.readAll offset.toNat (1 + 4 * count.toNat)) = table := fun hin => by
    have hplace : ∀ a, offset.toNat ≤ a → u.mem.read a = s.mem.read a := fun a ha => by
      have hb := slotAddr_bounds n
      simp only [inRange, decide_eq_true_eq] at hin
      refine State.copyPost_read_other s n posted fun he => ?_
      simp only [engineBytes] at he
      omega
    rw [Nat.add_comm 1, Memory.readAll, stagedTariff, tariffBands_readAll, hplace _ le_rfl]
    refine congrArg (Tariff.mk _) (List.map_congr_left fun i _ => ?_)
    rw [hplace _ (by omega), hplace _ (by omega), hplace _ (by omega), hplace _ (by omega)]
    simp only [Nat.add_right_comm _ _ (4 * i), Nat.add_assoc]
  have hvalid : table.valid = true ↔ good := Tariff.valid_iff table
  have hbands : beBytes 1 table.bands.length = [count] := by
    simp [beBytes_one, table, bands]
  refine ⟨fun hout => ?_, fun hin hbad => ?_, fun hin hgood hses => ?_, fun hin hgood hses => ?_⟩
  · have hrefuse : u.takeLoadTariff offset count = (refusal .badParameter, u) := by
      simp [State.takeLoadTariff, hparams, hout]
    exact refuses_of_finish hwf (hexec.trans (by rw [hrefuse]; rfl))
  · have hrefuse : u.takeLoadTariff offset count = (refusal .badTable, u) := by
      have hinvalid : table.valid = false := by rwa [← Bool.not_eq_true, hvalid]
      simp [State.takeLoadTariff, hparams, hin, htable hin, hinvalid]
    exact refuses_of_finish hwf (hexec.trans (by rw [hrefuse]; rfl))
  · intro b
    let e : Ending := ⟨.ok, 0x00, [0x00] ++ beBytes 1 table.length ++ [count] ++ beBytes 1 b.band
      ++ [0xFF, 0xFF]⟩
    have hloads : u.takeLoadTariff offset count = (e, u.withBilling b.orphanSpans) := by
      have hdispose : u.disposeTariff table = (e, u.withBilling b.orphanSpans) := by
        rw [State.disposeTariff, show u.billing.session = none from hses]
        refine Prod.ext ?_ rfl
        show Ending.mk .ok noteNone ([flagByte false] ++ beBytes 1 table.length
          ++ beBytes 1 table.bands.length ++ beBytes 1 b.band ++ beBytes 2 0xFFFF) = e
        rw [hbands]
        rfl
      simp only [State.takeLoadTariff, hparams, hin, htable hin, hvalid.mpr hgood, Bool.not_true,
        Bool.false_eq_true, if_false]
      exact hdispose
    have hcopy : AfterCopy s n posted (u.withBilling b.orphanSpans) := { mem := rfl, orders := rfl }
    exact ⟨_, hexec.trans (by rw [hloads]; rfl), hcopy.ended hwf e,
      hcopy.frame e rfl (by simp [sameBut_iff, u]), by rw [State.finish_billing]; rfl⟩
  · obtain ⟨k, hpos, hreached, hfirst, hnext⟩ := s.billing.nextBoundary_first
    refine ⟨k, hpos, hreached, hfirst, ?_⟩
    let e : Ending := ⟨.ok, if s.billing.pendingTable.isSome then 0x02 else 0x00,
      [0x01] ++ beBytes 1 table.length ++ [count] ++ beBytes 1 s.billing.band ++ beBytes 2 (ahead k)⟩
    have hloads : u.takeLoadTariff offset count =
        (e, u.withBilling { s.billing with pendingTable := some table }) := by
      have hdispose : u.disposeTariff table =
          (e, u.withBilling { s.billing with pendingTable := some table }) := by
        obtain ⟨ses, hses⟩ := Option.ne_none_iff_exists'.mp hses
        rw [State.disposeTariff, show u.billing.session = some ses from hses]
        refine Prod.ext ?_ rfl
        show Ending.mk .ok (if s.billing.pendingTable.isSome then noteReplacedPending else noteNone)
          ([flagByte true] ++ beBytes 1 table.length ++ beBytes 1 table.bands.length
            ++ beBytes 1 s.billing.band ++ beBytes 2 s.billing.nextBoundary) = e
        rw [hbands, hnext]
        rfl
      simp only [State.takeLoadTariff, hparams, hin, htable hin, hvalid.mpr hgood, Bool.not_true,
        Bool.false_eq_true, if_false]
      exact hdispose
    have hcopy : AfterCopy s n posted (u.withBilling { s.billing with pendingTable := some table }) :=
      { mem := rfl, orders := rfl }
    exact ⟨_, hexec.trans (by rw [hloads]; rfl), hcopy.ended hwf e,
      hcopy.frame e rfl (by simp [sameBut_iff, u]), by rw [State.finish_billing]; rfl⟩

end Sys2Proof.Machine
end

/-! # OPEN SESSION and SET CLOCK (O37, O39) -/

section
namespace Sys2Proof.Machine

/-! ## The orphan interval's close (R85, R103) -/

/-- The record of a written close. -/
def Billing.orphanCut (b : Billing) (o : Orphan) (cause : CloseCause) (bandEnd : Nat) : Record :=
  { orphanRecord b o cause bandEnd with seq := b.nextSeq }

/-- The billing unit after a written close, its record still to be placed. -/
def Billing.orphanNext (b : Billing) : Billing :=
  { b with nextSeq := b.nextSeq + 1, journalMeter := b.meter, orphan := none }

section
variable {s : State} {o : Orphan} {cause : CloseCause} {bandEnd : Nat}

theorem State.closeOrphan_none (h : s.billing.orphan = none) : s.closeOrphan cause bandEnd = s := by
  rw [State.closeOrphan, h]

theorem State.closeOrphan_merges (h : s.billing.orphan = some o) (hheld : s.billing.held.isSome = true) :
    s.closeOrphan cause bandEnd = s.withBilling { s.billing with
      orphan := some { o with interval := o.interval.merge s.billing.band false } } := by
  rw [State.closeOrphan, h]
  exact if_pos hheld

theorem State.closeOrphan_drops (h : s.billing.orphan = some o) (hheld : s.billing.held = none)
    (hempty : (o.interval.isEmpty && cause.dropsEmpty) = true) :
    s.closeOrphan cause bandEnd = s.withBilling { s.billing with orphan := none } := by
  rw [State.closeOrphan, h]
  refine (if_neg ?_).trans (if_pos hempty)
  simp [hheld]

theorem State.closeOrphan_writes (h : s.billing.orphan = some o) (hheld : s.billing.held = none)
    (hempty : (o.interval.isEmpty && cause.dropsEmpty) = false) :
    s.closeOrphan cause bandEnd =
      (s.withBilling s.billing.orphanNext).enterRecord (s.billing.orphanCut o cause bandEnd) := by
  rw [State.closeOrphan, h]
  refine (if_neg ?_).trans ((if_neg ?_).trans rfl)
  · simp [hheld]
  · simp [hempty]

end

/-! ## Two records, one after the other -/

theorem Wrote.keeps {s v v' : State} {b b' : Billing} {r r' : Record} (h : Wrote s b r v)
    (h' : Wrote v b' r' v') (hw : b'.w = b.w + 1) : RecordAt v' b.w r :=
  h.record.keep h'.reads fun a ha hstored => by
    rw [hw] at hstored
    rcases hstored with hheader | hnext
    · have h1 := recordBytes_bounds ha
      have h2 := journalHeader_bound hheader
      omega
    · exact not_recordBytes_next ha hnext

theorem Wrote.readsTwo {s v v' : State} {b b' : Billing} {r r' : Record} (h : Wrote s b r v)
    (h' : Wrote v b' r' v') (hw : b'.w = b.w + 1) :
    ReadsSameBut (fun a => journalHeader a ∨ recordBytes b.w a ∨ recordBytes (b.w + 1) a) s v' := by
  refine (h.reads.mono fun a ha => by tauto).trans (h'.reads.mono fun a ha => ?_)
  rw [hw] at ha
  tauto

/-! ## OPEN SESSION (O39) -/

/-- The session interval begins and the keepalive starts (R81, R108). -/
def State.beginSession (s : State) : State := (s.beginInterval s.billing.journalMeter).startKeepalive

theorem State.beginSession_billing (s : State) : s.beginSession.billing = { s.billing with
    interval := some (s.billing.newInterval s.billing.partTime s.billing.journalMeter) } := by
  simp [State.beginSession, State.beginInterval]

theorem State.beginSession_keepalive (s : State) : s.beginSession.power.keepalive = .alive 0 false := by
  rw [State.beginSession, State.startKeepalive, State.setKeepalive_eq]
  exact (State.regrant_power _ _).2.2.2.1

/-- Out of STOPPED the effective grant stays, and no gate fails. -/
theorem State.beginSession_stopped {s : State} (h : s.power.keepalive = .stopped) :
    s.beginSession = (s.beginInterval s.billing.journalMeter).withPower
      { s.power with keepalive := .alive 0 false } := by
  rw [State.beginSession, State.startKeepalive, State.setKeepalive_eq]
  refine State.regrant_of_kept ?_
  have heff : ({ s.power with keepalive := .alive 0 false } : Power).effGrant = s.power.effGrant := by
    simp only [Power.effGrant, h]
  have hsame : (s.beginInterval s.billing.journalMeter).power = s.power := rfl
  rw [hsame, heff]
  omega

theorem State.beginSession_reads (s : State) (q : Nat → Prop) : ReadsSameBut q s s.beginSession :=
  fun _ _ => by simp [State.beginSession, State.beginInterval]

/-- The billing unit with a session set up and its SESSION_OPEN composed (R81). -/
def Billing.opensWith (b : Billing) (ses : Session) : Billing :=
  { b with
    sessionCounter := ses.number
    session := some ses
    nextSeq := b.nextSeq + 1
    journalMeter := b.meter }

theorem State.applyOpenSession_eq {s v : State} {id battery heating aux : Word}
    (h : s.closeOrphan .relay s.billing.band = v) :
    s.applyOpenSession id battery heating aux =
      ((v.withBilling (v.billing.opensWith (v.billing.newSession id battery heating aux))).enterRecord
        { sessionOpenRecord v.billing (v.billing.newSession id battery heating aux) with
          seq := v.billing.nextSeq }).beginSession := by
  rw [State.applyOpenSession, h]
  rfl

theorem nextCount_eq (n : Nat) : nextCount n = if n < 65535 then n + 1 else 1 := by
  unfold nextCount
  split <;> split <;> omega

/-- Without a record of the orphan interval the session is set up on the part as it stands. -/
theorem State.closeOrphan_unwritten {s : State} {bandEnd : Nat} (hheld : s.billing.held = none)
    (h : s.billing.orphan.all (·.interval.isEmpty) = true) :
    s.closeOrphan .relay bandEnd = s.withBilling { s.billing with orphan := none } := by
  cases ho : s.billing.orphan with
  | none =>
    rw [State.closeOrphan_none ho, ← ho]
    rfl
  | some o =>
    rw [ho] at h
    exact State.closeOrphan_drops ho hheld (by simpa [CloseCause.dropsEmpty] using h)

/-- An accepted OPEN SESSION, with the record of its opening placed. -/
theorem State.takeOpenSession_opens {s v v' : State} {id battery heating aux : Word} {ses : Session}
    (hgood : ¬(id = 0 ∨ battery = 0))
    (hfree : ¬(s.billing.session.isSome = true ∨ s.billing.detachedClose = true
      ∨ s.billing.held.isSome = true ∨ s.billing.fill = 128))
    (hclose : s.closeOrphan .relay s.billing.band = v)
    (hses : v.billing.newSession id battery heating aux = ses)
    (hplaced : (v.withBilling (v.billing.opensWith ses)).enterRecord
      { sessionOpenRecord v.billing ses with seq := v.billing.nextSeq } = v')
    (hnumber : v'.billing.session = some ses) (hseq : v'.billing.nextSeq = v.billing.nextSeq + 1) :
    s.takeOpenSession id battery heating aux = (⟨.ok, noteNone, beBytes 2 ses.number
      ++ beBytes 4 s.billing.partTime.toNat ++ [flagByte s.billing.clockSet] ++ beBytes 1 s.billing.band
      ++ beBytes 4 s.billing.meter.toNat ++ beBytes 4 v.billing.nextSeq.toNat⟩, v'.beginSession) := by
  have happly : s.applyOpenSession id battery heating aux = v'.beginSession := by
    rw [State.applyOpenSession_eq hclose, hses, hplaced]
  have hno : v'.beginSession.billing.sessionNo = ses.number := by
    rw [State.beginSession_billing, Billing.sessionNo]
    simp only [hnumber]
  have hlast : v'.beginSession.billing.nextSeq - 1 = v.billing.nextSeq := by
    rw [State.beginSession_billing]
    simp only [hseq]
    bv_omega
  refine (if_neg hgood).trans ((if_neg hfree).trans ?_)
  simp only [happly, hno, hlast]

@[simp] theorem State.beginSession_attn (s : State) : s.beginSession.attn = s.attn := by
  simp [State.beginSession, State.beginInterval]

@[simp] theorem State.beginSession_mem (s : State) : s.beginSession.mem = s.mem := by
  simp [State.beginSession, State.beginInterval]

@[simp] theorem State.beginSession_orders (s : State) : s.beginSession.orders = s.orders := by
  simp [State.beginSession, State.beginInterval]

/-- A record written after the post, and the session begun: what the order touched. -/
theorem Wrote.beginSession {s v : State} {n : SlotNo} {p : Posted} {b : Billing} {r : Record}
    (h : Wrote (s.copyPost n p) b r v) :
    Served (fun a => journalHeader a ∨ recordBytes b.w a) s n p v.beginSession where
  orders := by rw [State.beginSession_orders]; exact h.same .orders (by simp)
  reads := h.reads.trans (v.beginSession_reads _)
  wf := by rw [State.beginSession_mem]; exact h.wf

/-- Settles O39. -/
theorem openSessionOpens : Obligations.OpenSessionOpens := by
  intro s n tag id battery heating aux h c posted number flags ses r first result
  have hwf := h.2.2.2
  let u := s.copyPost n posted
  have hwfu : u.mem.wf = true := State.copyPost_wf s n posted hwf
  have hexec : exec c s = .next (State.answer n (u.takeOpenSession id battery heating aux)) :=
    (exec_takesAtOnce h (o := .openSession id battery heating aux) rfl rfl).trans rfl
  refine ⟨fun hbad => ?_, fun hid hbattery hnot => ?_, fun hid hbattery hses hdet =>
    ⟨fun hempty hroom => ?_, ?_⟩⟩
  · have hrefuse : u.takeOpenSession id battery heating aux = (refusal .badParameter, u) := if_pos hbad
    exact refuses_of_finish hwf (hexec.trans (by rw [hrefuse]; rfl))
  · have hrefuse : u.takeOpenSession id battery heating aux = (refusal .notNow, u) :=
      (if_neg fun hbad => hbad.elim hid hbattery).trans (if_pos hnot)
    exact refuses_of_finish hwf (hexec.trans (by rw [hrefuse]; rfl))
  · let b0 : Billing := { s.billing with orphan := none }
    let b : Billing := { b0 with
      sessionCounter := number, session := some ses, nextSeq := s.billing.nextSeq + 1
      journalMeter := s.billing.meter }
    have hnew : b0.newSession id battery heating aux = ses := by
      simp only [Billing.newSession, nextCount_eq]
      rfl
    obtain ⟨hw, -⟩ := wrote_enterRecord (s := u) (b := b) r hwfu hroom
    generalize hv : (u.withBilling b).enterRecord r = v at hw
    have hopens := State.takeOpenSession_opens (s := u) (v := u.withBilling b0) (v' := v) (ses := ses)
      (fun hbad => hbad.elim hid hbattery)
      (by
        show ¬(s.billing.session.isSome = true ∨ s.billing.detachedClose = true
          ∨ s.billing.held.isSome = true ∨ s.billing.fill = 128)
        have := hroom.2.1
        simp [hses, hdet, hroom.1]
        omega)
      (State.closeOrphan_unwritten hroom.1 hempty) hnew hv (congrArg Billing.session hw.billing)
      (congrArg Billing.nextSeq hw.billing)
    replace hexec : exec c s = .next (v.beginSession.finish n (result s.billing.nextSeq)) :=
      hexec.trans (by rw [hopens]; rfl)
    have hserved : Served (fun a => journalHeader a ∨ recordBytes s.billing.w a) s n posted v.beginSession :=
      hw.beginSession
    have hpower : v.power = s.power := hw.same .power (by simp)
    have hsame : SameBut [.mem, .orders, .attn, .billing] s v :=
      SameBut.trans (t := u) (by simp [sameBut_iff, u]) (hw.same.mono (by simp))
    refine ⟨_, hexec, hserved.ended _, hserved.readsOf _ fun _ ha => ha, hserved.otherSlots _,
      OtherCauses.finish ?_ n _ (by simp), RecordAt.finish ?_ n _, ?_, ?_, ?_, fun hstopped => ⟨?_, ?_⟩⟩
    · exact hw.otherCauses.trans (.refl _ v.beginSession_attn)
    · exact hw.record.keep (v.beginSession_reads fun _ => False) fun _ _ hnot => hnot
    · rw [State.finish_attn, State.beginSession_attn, hw.attn]; rfl
    · have hflag : r.flags.flagged = !s.billing.clockSet := by
        simp [r, flags, RecFlags.flagged, RecFlags.clear]
      have hmark : (if (!s.billing.clockSet) = true then some b.w else b.flaggedMark) =
          if s.billing.clockSet then s.billing.flaggedMark else some s.billing.w := by
        cases s.billing.clockSet <;> rfl
      rw [State.finish_billing, State.beginSession_billing, hw.billing, hflag, hmark]
      rfl
    · rw [State.finish_power, State.beginSession_keepalive]
    · rw [State.finish_power, State.beginSession_stopped (by rw [hpower]; exact hstopped), State.withPower_power,
        hpower]
    · rw [State.beginSession_stopped (by rw [hpower]; exact hstopped)]
      refine SameBut.finish ?_ n _ (by simp) (by simp) (by simp)
      exact (hsame.mono (by simp)).trans (by simp [sameBut_iff, State.beginInterval])
  · intro o ho hne hroom ro
    let b0 : Billing := s.billing.orphanNext
    have hnew : b0.newSession id battery heating aux = ses := by
      simp only [Billing.newSession, nextCount_eq]
      rfl
    obtain ⟨hw0, hroom1⟩ := wrote_enterRecord (s := u) (b := b0) ro hwfu hroom
    generalize hv0 : (u.withBilling b0).enterRecord ro = v0 at hw0 hroom1
    let b1 : Billing := v0.billing.opensWith ses
    have hnew0 : v0.billing.newSession id battery heating aux = ses := by rw [hw0.billing]; exact hnew
    have hrecord : { sessionOpenRecord v0.billing ses with seq := v0.billing.nextSeq } =
        { r with seq := s.billing.nextSeq + 1, meterStart := s.billing.meter } := by
      rw [hw0.billing]
      rfl
    have hnext : b1.w = b0.w + 1 := congrArg Billing.w hw0.billing
    obtain ⟨hw1, -⟩ := wrote_enterRecord (s := v0) (b := b1) (k := 0)
      { sessionOpenRecord v0.billing ses with seq := v0.billing.nextSeq } hw0.wf hroom1
    generalize hv1 : (v0.withBilling b1).enterRecord
      { sessionOpenRecord v0.billing ses with seq := v0.billing.nextSeq } = v1 at hw1
    have hclose : u.closeOrphan .relay u.billing.band = v0 := by
      have hcut : u.billing.orphanCut o .relay u.billing.band = ro := rfl
      rw [State.closeOrphan_writes (s := u) ho hroom.1 (by rw [hne]; rfl), hcut]
      exact hv0
    have hopens := State.takeOpenSession_opens (s := u) (v := v0) (v' := v1) (ses := ses)
      (fun hbad => hbad.elim hid hbattery)
      (by
        show ¬(s.billing.session.isSome = true ∨ s.billing.detachedClose = true
          ∨ s.billing.held.isSome = true ∨ s.billing.fill = 128)
        have := hroom.2.1
        simp [hses, hdet, hroom.1]
        omega)
      hclose hnew0 hv1
      (congrArg Billing.session hw1.billing) (congrArg Billing.nextSeq hw1.billing)
    have hseq : v0.billing.nextSeq = s.billing.nextSeq + 1 := congrArg Billing.nextSeq hw0.billing
    have hexec' : exec c s = .next (v1.beginSession.finish n (result (s.billing.nextSeq + 1))) :=
      hexec.trans (by rw [hopens, hseq]; rfl)
    have hserved : Served (fun a => journalHeader a ∨ recordBytes b0.w a ∨ recordBytes (b0.w + 1) a) s n posted
        v1.beginSession :=
      { orders := by
          rw [State.beginSession_orders]
          exact (hw1.same .orders (by simp)).trans (hw0.same .orders (by simp))
        reads := (hw0.readsTwo hw1 hnext).trans (v1.beginSession_reads _)
        wf := by rw [State.beginSession_mem]; exact hw1.wf }
    refine ⟨_, hexec', hserved.ended _, RecordAt.finish ?_ n _, RecordAt.finish ?_ n _, ?_, ?_, ?_, ?_, ?_⟩
    · exact (hw0.keeps hw1 hnext).keep (v1.beginSession_reads fun _ => False) fun _ _ hnot => hnot
    · have hat := hw1.record
      rw [hnext, hrecord] at hat
      exact hat.keep (v1.beginSession_reads fun _ => False) fun _ _ hnot => hnot
    · rw [State.finish_billing, State.beginSession_billing]
      exact (congrArg Billing.orphan hw1.billing).trans (congrArg Billing.orphan hw0.billing)
    · rw [State.finish_billing, State.beginSession_billing]
      exact congrArg Billing.session hw1.billing
    · rw [State.finish_billing, State.beginSession_billing, hw1.billing]
      simp only [b1, Billing.opensWith, hw0.billing]
      rfl
    · rw [State.finish_billing, State.beginSession_billing]
      refine (congrArg Billing.w hw1.billing).trans ?_
      show b1.w + 1 = _
      rw [hnext, BitVec.add_assoc]
      rfl
    · rw [State.finish_power, State.beginSession_keepalive]

end Sys2Proof.Machine
end

/-! # SET CLOCK (O37) -/

section
namespace Sys2Proof.Machine

/-! ## Records held and waiting with the journal full (R101, R102) -/

/-- What a record held with the journal full leaves, for a billing unit that stood as named before it. -/
structure Kept128 (s : State) (b : Billing) (r : Record) (v : State) : Prop where
  holds : Holds v r
  billing : v.billing = { b with held := some r }
  reads : ReadsSameBut (fun a => a = 0x000B) s v
  same : SameBut [.mem, .billing] s v
  wf : v.mem.wf = true

theorem kept128_holdRecord {s : State} {b : Billing} (r : Record) (hwf : s.mem.wf = true) :
    Kept128 s b r ((s.withBilling b).holdRecord r) where
  holds := State.holdRecord_holds r hwf
  billing := rfl
  reads := (s.withBilling b).holdRecord_reads r
  same := by simp [sameBut_iff, State.holdRecord]
  wf := Memory.write_wf 0x000B 1 hwf

theorem kept128_enterRecord {s : State} {b : Billing} (r : Record) (hwf : s.mem.wf = true)
    (hfull : b.fill = 128) (hheld : b.held = none) : Kept128 s b r ((s.withBilling b).enterRecord r) := by
  rw [State.enterRecord_holds r (by rw [State.withBilling_billing, hfull]) hheld]
  exact kept128_holdRecord r hwf

/-! ## The steps of SET CLOCK (R65, R66) -/

/-- The billing unit at its new part time, with the CLOCK record composed. -/
def Billing.clocked (b : Billing) (t : Word) : Billing :=
  { b with
    partTime := t
    clockSet := true
    secondPhase := 0
    nextSeq := b.nextSeq + 1
    journalMeter := b.meter }

/-- The CLOCK record of a part time set, with the billing unit as it stood before the order and after the
close that the order makes. -/
def Billing.clockWritten (b0 b : Billing) (t : Word) : Record :=
  { clockRecord b0 { b with partTime := t, clockSet := true, secondPhase := 0 } with seq := b.nextSeq }

/-- The next session interval, where a session is open (R66). -/
def Billing.reopened (b : Billing) : Billing :=
  { b with interval :=
      if b.session.isSome then some (b.newInterval b.partTime b.meter) else b.interval }

theorem Billing.reopened_none {b : Billing} (h : b.session = none) : b.reopened = b := by
  rw [Billing.reopened, if_neg (by rw [h]; decide)]

theorem Billing.reopened_some {b : Billing} (h : b.session.isSome = true) :
    b.reopened = { b with interval := some (b.newInterval b.partTime b.meter) } := by
  rw [Billing.reopened, if_pos h]

theorem State.clockReopen_eq (s : State) : s.clockReopen = s.withBilling s.billing.reopened := by
  unfold State.clockReopen
  cases h : s.billing.session with
  | none => rw [Billing.reopened_none h]; rfl
  | some ses => rw [Billing.reopened_some (by rw [h]; rfl)]; rfl

theorem State.applySetClock_eq {s v v' : State} {t : Word} (hclose : s.clockClose = v)
    (hplaced : (v.withBilling (v.billing.clocked t)).enterRecord (s.billing.clockWritten v.billing t) = v') :
    s.applySetClock t = v'.withBilling v'.billing.reopened := by
  rw [State.applySetClock, hclose, ← State.clockReopen_eq, ← hplaced]
  rfl

section
variable {s v : State} {n : SlotNo} {p : Posted} {b b0 : Billing} {r r1 : Record}

/-- A change of the billing unit alone after the order's records. -/
theorem Served.withBilling {q : Nat → Prop} (h : Served q s n p v) (b : Billing) :
    Served q s n p (v.withBilling b) := ⟨h.orders, h.reads, h.wf⟩

theorem Wrote.served (h : Wrote (s.copyPost n p) b r v) :
    Served (fun a => journalHeader a ∨ recordBytes b.w a) s n p v :=
  ⟨h.same .orders (by simp), h.reads, h.wf⟩

theorem Kept128.served (h : Kept128 (s.copyPost n p) b r v) :
    Served (fun a => a = 0x000B) s n p v := ⟨h.same .orders (by simp), h.reads, h.wf⟩

end

/-- What SET CLOCK leaves after one close and its CLOCK record, with room for both. -/
structure ClockedTwo (s : State) (n : SlotNo) (p : Posted) (b0 : Billing) (r1 : Record) (t : Word)
    (x : State) : Prop where
  served : Served (fun a => journalHeader a ∨ recordBytes b0.w a ∨ recordBytes (b0.w + 1) a) s n p x
  first : RecordAt x b0.w r1
  second : RecordAt x (b0.w + 1) (s.billing.clockWritten b0 t)
  attn : x.attn.journalNew = true
  causes : OtherCauses [.orderDone, .journalNew] s x
  same : SameBut [.mem, .orders, .attn, .billing] s x
  billing : x.billing = { (b0.clocked t).reopened with
    w := b0.w + 2
    flaggedMark := if r1.flags.flagged then some b0.w else b0.flaggedMark }

theorem clockedTwo {s : State} {n : SlotNo} {p : Posted} {b0 : Billing} (r1 : Record) (t : Word)
    (hwf : s.mem.wf = true) (hroom : Room (s.withBilling b0) 2)
    (hclose : (s.copyPost n p).clockClose = ((s.copyPost n p).withBilling b0).enterRecord r1) :
    ∃ x, (s.copyPost n p).applySetClock t = x ∧ ClockedTwo s n p b0 r1 t x := by
  let u := s.copyPost n p
  obtain ⟨hw0, hroom1⟩ := wrote_enterRecord (s := u) (b := b0) r1 (State.copyPost_wf s n p hwf) hroom
  rw [show (u.withBilling b0).enterRecord r1 = _ from hclose.symm] at hw0 hroom1
  generalize hv0 : (s.copyPost n p).clockClose = v0 at hw0 hroom1 hclose
  let b1 := v0.billing.clocked t
  let r2 := u.billing.clockWritten v0.billing t
  obtain ⟨hw1, -⟩ := wrote_enterRecord (s := v0) (b := b1) (k := 0) r2 hw0.wf hroom1
  generalize hv1 : (v0.withBilling b1).enterRecord r2 = v1 at hw1
  have hnext : b1.w = b0.w + 1 := congrArg Billing.w hw0.billing
  have hr2 : r2 = s.billing.clockWritten b0 t := by
    simp only [r2, hw0.billing]
    rfl
  have hflag : r2.flags.flagged = false := rfl
  have hmark : v1.billing = { b1 with w := b1.w + 1 } := by
    rw [hw1.billing, hflag]
    rfl
  refine ⟨_, State.applySetClock_eq hv0 hv1, ?_⟩
  exact
    { served := Served.withBilling
        ⟨(hw1.same .orders (by simp)).trans (hw0.same .orders (by simp)), hw0.readsTwo hw1 hnext, hw1.wf⟩ _
      first := by
        have hat := hw0.keeps hw1 hnext
        exact hat
      second := by
        have hat := hw1.record
        rwa [hnext, hr2] at hat
      attn := by
        show v1.attn.journalNew = true
        rw [hw1.attn]
        rfl
      causes := hw0.otherCauses.trans hw1.otherCauses
      same := by
        have hsame : SameBut [.mem, .orders, .attn, .billing] s u := by simp [sameBut_iff, u]
        exact (hsame.trans (hw0.same.mono (by simp))).trans
          ((hw1.same.mono (by simp)).trans (by simp [sameBut_iff]))
      billing := by
        rw [State.withBilling_billing, hmark]
        simp only [b1, hw0.billing, Billing.reopened, Billing.clocked, BitVec.add_assoc]
        rfl }

/-- What SET CLOCK leaves after one close and its CLOCK record, with the journal full. -/
structure ClockedFull (s : State) (n : SlotNo) (p : Posted) (b0 : Billing) (r1 : Record) (t : Word)
    (x : State) : Prop where
  served : Served (fun a => a = 0x000B) s n p x
  holds : Holds x r1
  same : SameBut [.mem, .orders, .attn, .billing] s x
  causes : OtherCauses [.orderDone] s x
  billing : x.billing = { (b0.clocked t).reopened with
    held := some r1, waiting := some (s.billing.clockWritten b0 t) }

theorem clockedFull {s : State} {n : SlotNo} {p : Posted} {b0 : Billing} (r1 : Record) (t : Word)
    (hwf : s.mem.wf = true) (hfull : b0.fill = 128) (hheld : b0.held = none)
    (hclose : (s.copyPost n p).clockClose = ((s.copyPost n p).withBilling b0).enterRecord r1) :
    ∃ x, (s.copyPost n p).applySetClock t = x ∧ ClockedFull s n p b0 r1 t x := by
  let u := s.copyPost n p
  have hw0 := kept128_enterRecord (s := u) (b := b0) r1 (State.copyPost_wf s n p hwf) hfull hheld
  rw [show (u.withBilling b0).enterRecord r1 = _ from hclose.symm] at hw0
  generalize hv0 : (s.copyPost n p).clockClose = v0 at hw0 hclose
  let b1 := v0.billing.clocked t
  let r2 := u.billing.clockWritten v0.billing t
  have hfull1 : 128 ≤ b1.fill := by
    have hfill : b1.fill = b0.fill := by simp only [b1, hw0.billing]; rfl
    omega
  have hheld1 : b1.held.isSome = true := by simp only [b1, hw0.billing]; rfl
  have hv1 : (v0.withBilling b1).enterRecord r2 = v0.withBilling { b1 with waiting := some r2 } :=
    (State.enterRecord_waits (s := v0.withBilling b1) r2 hfull1 hheld1).trans rfl
  have hr2 : r2 = s.billing.clockWritten b0 t := by
    simp only [r2, hw0.billing]
    rfl
  refine ⟨_, State.applySetClock_eq hv0 hv1, ?_⟩
  have hsame : SameBut [.mem, .orders, .attn, .billing] s v0 :=
    SameBut.trans (t := u) (by simp [sameBut_iff, u]) (hw0.same.mono (by simp))
  exact
    { served := (hw0.served.withBilling _).withBilling _
      holds := by
        refine ⟨?_, hw0.holds.2⟩
        simp only [State.withBilling_billing, b1, Billing.reopened, Billing.clocked, hw0.billing]
      same := hsame.trans (by simp [sameBut_iff])
      causes := .refl _ (hw0.same .attn (by simp))
      billing := by
        rw [State.withBilling_billing, State.withBilling_billing, hr2]
        simp only [b1, hw0.billing, Billing.reopened, Billing.clocked]
        rfl }

/-! ## The close that SET CLOCK makes (R65) -/

/-- The billing unit after the CLOCK close of the session interval: no interval is open until the order
begins the next one. -/
def Billing.clockCut (b : Billing) (ses : Session) (i : Interval) : Billing :=
  { b.cutNext ses i with interval := none }

theorem State.clockClose_session {s : State} {ses : Session} {i : Interval}
    (hses : s.billing.session = some ses) (hint : s.billing.interval = some i) :
    s.clockClose = (s.withBilling (s.billing.clockCut ses i)).enterRecord
      (s.billing.cutRecord ses i .clock s.billing.band) := by
  rw [State.clockClose, hses, hint]
  rfl

theorem State.clockClose_orphan {s : State} (hses : s.billing.session = none) :
    s.clockClose = s.closeOrphan .clock s.billing.band := by
  rw [State.clockClose, hses]

/-- The CLOCK record bears the number of the session that is open. -/
theorem Billing.clockWritten_number {b0 b : Billing} {t : Word} {r : Record} {k : Nat}
    (hno : b.sessionNo = k) (h : { b0.clockWritten b t with sessionNo := k } = r) :
    b0.clockWritten b t = r := by
  rw [← h, ← hno]
  rfl

theorem ClockedTwo.settles {s x : State} {n : SlotNo} {p : Posted} {b0 b : Billing} {r1 r2 : Record}
    {t : Word} (h : ClockedTwo s n p b0 r1 t x) (hw : b0.w = s.billing.w)
    (hr2 : s.billing.clockWritten b0 t = r2) (hb : { (b0.clocked t).reopened with
      w := b0.w + 2
      flaggedMark := if r1.flags.flagged then some b0.w else b0.flaggedMark } = b) (e : Ending) :
    Ended (x.finish n e) n p e
      ∧ ReadsSameBut (fun a => engineBytes n a ∨ journalHeader a ∨ recordBytes s.billing.w a
          ∨ recordBytes (s.billing.w + 1) a) s (x.finish n e)
      ∧ OtherSlots n s (x.finish n e) ∧ OtherCauses [.orderDone, .journalNew] s (x.finish n e)
      ∧ SameBut [.mem, .orders, .attn, .billing] s (x.finish n e)
      ∧ (x.finish n e).attn.journalNew = true
      ∧ RecordAt (x.finish n e) s.billing.w r1 ∧ RecordAt (x.finish n e) (s.billing.w + 1) r2
      ∧ (x.finish n e).billing = b := by
  have hreads := h.served.readsOf e (q' := fun a => engineBytes n a ∨ journalHeader a ∨ recordBytes b0.w a
    ∨ recordBytes (b0.w + 1) a) fun _ ha => ha
  refine ⟨h.served.ended e, hw ▸ hreads, h.served.otherSlots e, h.causes.finish n e (by simp),
    h.same.finish n e (by simp) (by simp) (by simp), ?_, hw ▸ h.first.finish n e, ?_, ?_⟩
  · rw [State.finish_attn]
    exact h.attn
  · rw [← hw, ← hr2]
    exact h.second.finish n e
  · rw [State.finish_billing, h.billing, hb]

theorem ClockedFull.settles {s x : State} {n : SlotNo} {p : Posted} {b0 b : Billing} {r1 : Record}
    {t : Word} (h : ClockedFull s n p b0 r1 t x) (hb : { (b0.clocked t).reopened with
      held := some r1, waiting := some (s.billing.clockWritten b0 t) } = b) (e : Ending) :
    Ended (x.finish n e) n p e ∧ Holds (x.finish n e) r1
      ∧ ReadsSameBut (fun a => engineBytes n a ∨ a = 0x000B) s (x.finish n e)
      ∧ OtherSlots n s (x.finish n e) ∧ OtherCauses [.orderDone] s (x.finish n e)
      ∧ SameBut [.mem, .orders, .attn, .billing] s (x.finish n e)
      ∧ (x.finish n e).billing = b := by
  refine ⟨h.served.ended e, h.holds.finish n e, h.served.readsOf e fun _ ha => ha, h.served.otherSlots e,
    h.causes.finish n e (by simp), h.same.finish n e (by simp) (by simp) (by simp), ?_⟩
  rw [State.finish_billing, h.billing, hb]

/-- Settles O37: without an interval one record, and with one the CLOCK close before it. -/
theorem setClockSets : Obligations.SetClockSets := by
  intro s n tag newTime h c posted set r ended
  have hwf := h.2.2.2
  let u := s.copyPost n posted
  have hwfu : u.mem.wf = true := State.copyPost_wf s n posted hwf
  have hexec : exec c s = .next (State.answer n (u.takeSetClock newTime)) :=
    (exec_takesAtOnce h (o := .setClock newTime) rfl rfl).trans rfl
  have haccept (ht : newTime ≠ 0) (hheld : s.billing.held = none) (hdet : s.billing.detachedClose = false)
      {x : State} (hx : u.applySetClock newTime = x) : exec c s = .next (x.finish n ended) := by
    have htake : u.takeSetClock newTime = (ended, x) := by
      rw [← hx]
      refine (if_neg ht).trans ((if_neg ?_).trans rfl)
      show ¬(s.billing.held.isSome || s.billing.detachedClose) = true
      simp [hheld, hdet]
    exact hexec.trans (by rw [htake]; rfl)
  have hseq : s.billing.nextSeq + 1 + 1 = s.billing.nextSeq + 2 := by
    rw [BitVec.add_assoc]
    rfl
  refine ⟨fun hzero => ?_, fun hne hnot => ?_, fun hne hdet =>
    ⟨fun hses horphan => ⟨fun hroom => ?_, fun hheld hfull => ?_⟩, ?_, ?_⟩⟩
  · have hrefuse : u.takeSetClock newTime = (refusal .badParameter, u) := if_pos hzero
    exact refuses_of_finish hwf (hexec.trans (by rw [hrefuse]; rfl))
  · have hrefuse : u.takeSetClock newTime = (refusal .notNow, u) := by
      refine (if_neg hne).trans (if_pos ?_)
      show (s.billing.held.isSome || s.billing.detachedClose) = true
      simpa using hnot
    exact refuses_of_finish hwf (hexec.trans (by rw [hrefuse]; rfl))
  · have hclose : u.clockClose = u :=
      (State.clockClose_orphan (s := u) hses).trans (State.closeOrphan_none horphan)
    have hno : s.billing.sessionNo = 0 := by rw [Billing.sessionNo, hses]
    have hr : s.billing.clockWritten s.billing newTime = r := Billing.clockWritten_number hno rfl
    let b := s.billing.clocked newTime
    obtain ⟨hw, -⟩ := wrote_enterRecord (s := u) (b := b) r hwfu hroom
    have hplaced : (u.withBilling (u.billing.clocked newTime)).enterRecord
        (u.billing.clockWritten u.billing newTime) = (u.withBilling b).enterRecord r :=
      congrArg (u.withBilling b).enterRecord hr
    have hx := State.applySetClock_eq hclose hplaced
    generalize (u.withBilling b).enterRecord r = v at hw hx
    let x := v.withBilling v.billing.reopened
    have hserved := hw.served.withBilling v.billing.reopened
    refine ⟨_, haccept hne hroom.1 hdet hx, hserved.ended _, hserved.readsOf _ fun _ ha => ha,
      hserved.otherSlots _, OtherCauses.finish (v := x) hw.otherCauses n _ (by simp), ?_, RecordAt.finish (v := x) hw.record n _,
      ?_, ?_⟩
    · exact SameBut.finish (SameBut.trans (t := u) (by simp [sameBut_iff, u])
        (SameBut.trans (t := v) (hw.same.mono (by simp)) (by simp [sameBut_iff]))) n _ (by simp) (by simp)
        (by simp)
    · rw [State.finish_attn]
      show (v.attn.put .orderDone true).journalNew = true
      rw [hw.attn]
      rfl
    · rw [State.finish_billing, State.withBilling_billing, Billing.reopened_none (by rw [hw.billing]; exact hses),
        hw.billing]
      rfl
  · have hclose : u.clockClose = u :=
      (State.clockClose_orphan (s := u) hses).trans (State.closeOrphan_none horphan)
    have hno : s.billing.sessionNo = 0 := by rw [Billing.sessionNo, hses]
    have hr : s.billing.clockWritten s.billing newTime = r := Billing.clockWritten_number hno rfl
    let b := s.billing.clocked newTime
    have hk := kept128_enterRecord (s := u) (b := b) r hwfu hfull hheld
    have hplaced : (u.withBilling (u.billing.clocked newTime)).enterRecord
        (u.billing.clockWritten u.billing newTime) = (u.withBilling b).enterRecord r :=
      congrArg (u.withBilling b).enterRecord hr
    have hx := State.applySetClock_eq hclose hplaced
    generalize (u.withBilling b).enterRecord r = v at hk hx
    have hopen : v.billing.reopened = v.billing := Billing.reopened_none (by rw [hk.billing]; exact hses)
    let x := v.withBilling v.billing.reopened
    have hserved := hk.served.withBilling v.billing.reopened
    refine ⟨_, haccept hne hheld hdet hx, hserved.ended _, ?_, hserved.readsOf _ fun _ ha => ha,
      hserved.otherSlots _, OtherCauses.finish (v := x) (.refl _ (hk.same .attn (by simp))) n _ (by simp), ?_, ?_⟩
    · refine Holds.finish ?_ n _
      rw [hopen]
      exact hk.holds
    · exact SameBut.finish (SameBut.trans (t := u) (by simp [sameBut_iff, u])
        (SameBut.trans (t := v) (hk.same.mono (by simp)) (by simp [sameBut_iff]))) n _ (by simp) (by simp)
        (by simp)
    · rw [State.finish_billing, State.withBilling_billing, hopen, hk.billing]
      rfl
  · intro o hses horphan r1 r2 next
    let b0 : Billing := s.billing.orphanNext
    have hno : b0.sessionNo = 0 := by
      rw [Billing.sessionNo, show b0.session = none from hses]
    have hr2 : s.billing.clockWritten b0 newTime = r2 := Billing.clockWritten_number hno rfl
    have hopen : (b0.clocked newTime).reopened = next :=
      (Billing.reopened_none (b := b0.clocked newTime) hses).trans (congrArg (fun q => { next with nextSeq := q }) hseq)
    have hclose (hheld : s.billing.held = none) :
        u.clockClose = (u.withBilling b0).enterRecord r1 := by
      rw [State.clockClose_orphan (s := u) hses, State.closeOrphan_writes (s := u) horphan hheld (by simp [CloseCause.dropsEmpty])]
      rfl
    refine ⟨fun hroom => ?_, fun hheld hfull => ?_⟩
    · obtain ⟨x, hx, h2⟩ := clockedTwo (b0 := b0) r1 newTime hwf hroom (hclose hroom.1)
      exact ⟨_, haccept hne hroom.1 hdet hx, h2.settles rfl hr2 (by rw [hopen]; rfl) _⟩
    · obtain ⟨x, hx, hf⟩ := clockedFull (b0 := b0) r1 newTime hwf hfull hheld (hclose hheld)
      exact ⟨_, haccept hne hheld hdet hx, hf.settles (by rw [hopen, hr2]) _⟩
  · intro ses i hses hint r1 r2 next
    let b0 : Billing := s.billing.clockCut ses i
    have hr2 : s.billing.clockWritten b0 newTime = r2 := rfl
    have hopen : (b0.clocked newTime).reopened = next :=
      congrArg (fun q => { next with nextSeq := q }) hseq
    have hclose : u.clockClose = (u.withBilling b0).enterRecord r1 :=
      (State.clockClose_session (s := u) hses hint).trans rfl
    refine ⟨fun hroom => ?_, fun hheld hfull => ?_⟩
    · obtain ⟨x, hx, h2⟩ := clockedTwo (b0 := b0) r1 newTime hwf hroom hclose
      exact ⟨_, haccept hne hroom.1 hdet hx, h2.settles rfl hr2 (by rw [hopen]; rfl) _⟩
    · obtain ⟨x, hx, hf⟩ := clockedFull (b0 := b0) r1 newTime hwf hfull hheld hclose
      exact ⟨_, haccept hne hheld hdet hx, hf.settles (by rw [hopen, hr2]) _⟩

end Sys2Proof.Machine
end

/-! # SET JOURNAL LEVELS (O43) -/

section
namespace Sys2Proof.Machine

/-! ## The levels in force (R100) -/

/-- Both levels in force and in the header, before the hold is tested. -/
def State.withLevels (s : State) (halt resume : Nat) : State :=
  ((s.withBilling { s.billing with halt := halt, resume := resume }).poke 0x0008
    (BitVec.ofNat 8 halt)).poke 0x0009 (BitVec.ofNat 8 resume)

theorem State.applyLevels_eq (s : State) (halt resume : Nat) :
    s.applyLevels halt resume = (s.withLevels halt resume).retestHold := rfl

@[simp] theorem State.withLevels_billing (s : State) (halt resume : Nat) :
    (s.withLevels halt resume).billing = { s.billing with halt := halt, resume := resume } := rfl

@[simp] theorem State.withLevels_attn (s : State) (halt resume : Nat) :
    (s.withLevels halt resume).attn = s.attn := rfl

@[simp] theorem State.withLevels_orders (s : State) (halt resume : Nat) :
    (s.withLevels halt resume).orders = s.orders := rfl

theorem State.withLevels_same (s : State) (halt resume : Nat) :
    SameBut [.mem, .billing] s (s.withLevels halt resume) := by
  simp [sameBut_iff, State.withLevels]

theorem State.withLevels_mem (s : State) (halt resume : Nat) : (s.withLevels halt resume).mem =
    (s.mem.write 0x0008 (BitVec.ofNat 8 halt)).write 0x0009 (BitVec.ofNat 8 resume) := rfl

theorem State.withLevels_wf {s : State} (halt resume : Nat) (h : s.mem.wf = true) :
    (s.withLevels halt resume).mem.wf = true := by
  rw [State.withLevels_mem]
  exact Memory.write_wf _ _ (Memory.write_wf _ _ h)

theorem State.withLevels_reads (s : State) (halt resume : Nat) :
    ReadsSameBut (fun a => a = 0x0008 ∨ a = 0x0009) s (s.withLevels halt resume) := fun a ha => by
  obtain ⟨h8, h9⟩ := not_or.mp ha
  rw [State.withLevels_mem, Memory.read_write_other _ _ h9, Memory.read_write_other _ _ h8]

theorem State.withLevels_shows {s : State} (halt resume : Nat) (h : s.mem.wf = true) :
    (s.withLevels halt resume).mem.read 0x0008 = BitVec.ofNat 8 halt
      ∧ (s.withLevels halt resume).mem.read 0x0009 = BitVec.ofNat 8 resume := by
  rw [State.withLevels_mem]
  refine ⟨?_, Memory.read_write_same _ (Memory.write_wf _ _ h) (by decide)⟩
  rw [Memory.read_write_other _ _ (by decide)]
  exact Memory.read_write_same _ h (by decide)

/-! ## The hold tested again (R98, R99) -/

/-- The hold ends at or below the resume level, and no hold begins. -/
theorem State.retestHold_ends {s : State} (hnot : ¬(s.billing.hold = false ∧ s.billing.halt ≤ s.billing.fill)) :
    s.retestHold = if s.billing.hold = true ∧ s.billing.fill ≤ s.billing.resume then s.endHold else s :=
  if_neg hnot

theorem State.retestHold_begins {s : State} (h : s.billing.hold = false ∧ s.billing.halt ≤ s.billing.fill) :
    s.retestHold = s.beginHold := if_pos h

/-- What the end of a hold, or its going on, leaves. -/
theorem State.retestHold_kept {s : State} (hnot : ¬(s.billing.hold = false ∧ s.billing.halt ≤ s.billing.fill))
    (ends : Prop) [Decidable ends] (hends : ends ↔ s.billing.hold = true ∧ s.billing.fill ≤ s.billing.resume) :
    s.retestHold.billing = { s.billing with hold := s.billing.hold && !decide ends }
      ∧ s.retestHold.attn = (if ends then s.attn.put .journalHalt false else s.attn)
      ∧ SameBut [.attn, .billing] s s.retestHold := by
  rw [State.retestHold_ends hnot]
  by_cases h : ends
  · rw [if_pos (hends.mp h), if_pos h]
    refine ⟨?_, by simp [State.endHold], by simp [sameBut_iff, State.endHold]⟩
    simp [State.endHold, h]
  · rw [if_neg (hends.not.mp h), if_neg h]
    refine ⟨?_, rfl, fun p _ => by cases p <;> rfl⟩
    rw [decide_eq_false h, Bool.not_false, Bool.and_true]

/-! ## The hold's own record (R98, R101, R103) -/

theorem Interval.merge_eq (i : Interval) (band : Nat) (adopted : Bool) : i.merge band adopted = { i with
    flags := { i.flags with
      merged := true
      spansBands := i.flags.spansBands || adopted || decide (band ≠ i.bandStart) }
    merges := min 65535 (i.merges + 1) } := by
  have hbne : (band != i.bandStart) = decide (band ≠ i.bandStart) := by
    rw [Bool.eq_iff_iff]
    simp
  rw [Interval.merge, hbne]
  rfl

theorem Interval.merge_plain (i : Interval) (band : Nat) : i.merge band false = { i with
    flags := { i.flags with
      merged := true, spansBands := i.flags.spansBands || decide (band ≠ i.bandStart) }
    merges := min 65535 (i.merges + 1) } := by
  rw [Interval.merge_eq, Bool.or_false]

section
variable {s : State} {ses : Session} {i : Interval}

theorem State.beginHold_wrote (hses : s.billing.session = some ses) (hint : s.billing.interval = some i)
    (hheld : s.billing.held = none) (hfill : s.billing.fill < 128) (hwf : s.mem.wf = true) :
    Wrote s.haltSupply (s.billing.holdCut ses i) (s.billing.cutRecord ses i .hold s.billing.band)
      s.beginHold := by
  rw [State.beginHold_writes hses hint hheld]
  rw [State.placeRecord_writes (s := s.haltSupply.withBilling (s.billing.holdCut ses i)) _ hfill]
  exact wrote_journalWrite _ _ (by rw [State.haltSupply_mem]; exact hwf)

theorem State.beginHold_holds (hses : s.billing.session = some ses) (hint : s.billing.interval = some i)
    (hheld : s.billing.held = none) (hfull : s.billing.fill = 128) (hwf : s.mem.wf = true) :
    Kept128 s.haltSupply (s.billing.holdCut ses i) (s.billing.cutRecord ses i .hold s.billing.band)
      s.beginHold := by
  rw [State.beginHold_writes hses hint hheld]
  rw [State.placeRecord_holds (s := s.haltSupply.withBilling (s.billing.holdCut ses i)) _
    (show 128 ≤ s.billing.fill by omega) hheld]
  exact kept128_holdRecord _ (by rw [State.haltSupply_mem]; exact hwf)

end

/-! ## SET JOURNAL LEVELS -/

theorem State.takeJournalLevels_refuses {s : State} {halt resume : Byte}
    (h : clampNat 8 124 halt.toNat < resume.toNat + 8) :
    s.takeJournalLevels halt resume = (refusal .badParameter, s) := by
  have hlow : 8 ≤ clampNat 8 124 halt.toNat := by unfold clampNat; split <;> [skip; split] <;> omega
  exact if_pos (by omega)

theorem State.takeJournalLevels_taken {s x : State} {halt resume : Byte} {h : Nat}
    (hh : clampNat 8 124 halt.toNat = h) (hgood : resume.toNat + 8 ≤ h)
    (hx : (s.withLevels h resume.toNat).retestHold = x) :
    s.takeJournalLevels halt resume = (⟨.ok, clampedNote (decide (h ≠ halt.toNat)),
      beBytes 1 h ++ [resume] ++ beBytes 1 x.billing.fill ++ [flagByte x.billing.hold]⟩, x) := by
  subst hh hx
  exact if_neg (by omega)

/-- Settles O43. -/
theorem setJournalLevelsSets : Obligations.SetJournalLevelsSets := by
  intro s n tag halt resume hat c posted h note begins ends
  have hwf := hat.2.2.2
  let u := s.copyPost n posted
  have hwfu : u.mem.wf = true := State.copyPost_wf s n posted hwf
  let w := u.withLevels h resume.toNat
  have hwfw : w.mem.wf = true := State.withLevels_wf _ _ hwfu
  have hexec : exec c s = .next (State.answer n (u.takeJournalLevels halt resume)) :=
    (exec_takesAtOnce hat (o := .setJournalLevels halt resume) rfl rfl).trans rfl
  have hnote : clampedNote (decide (h ≠ halt.toNat)) = note := clampedNote_eq (by simp)
  have htaken (hgood : resume.toNat + 8 ≤ h) {x : State} (hx : w.retestHold = x) :
      exec c s = .next (x.finish n ⟨.ok, note, beBytes 1 h ++ [resume] ++ beBytes 1 x.billing.fill
        ++ [flagByte x.billing.hold]⟩) := by
    rw [hexec, State.takeJournalLevels_taken (s := u) rfl hgood hx, hnote]
    rfl
  have hservedw : Served (fun a => a = 0x0008 ∨ a = 0x0009) s n posted w :=
    ⟨by simp [w, u], State.withLevels_reads _ _ _, hwfw⟩
  have hanswers (e : Ending) : Ended (w.beginHold.finish n e) n posted e
      ∧ (w.beginHold.finish n e).attn.journalHalt = true ∧ (w.beginHold.finish n e).power.iDem = 0
      ∧ (w.beginHold.finish n e).power.need = false
      ∧ SameBut [.mem, .orders, .attn, .billing, .power, .relay, .insulation] s (w.beginHold.finish n e) := by
    have hh := holding_beginHold w
    have horders : w.beginHold.orders = u.orders := (hh.same .orders (by simp)).trans hservedw.orders
    refine ⟨ended_finish e ?_ (State.beginHold_wf w hwfw), ?_, ?_, ?_, ?_⟩
    · rw [State.slot_congr horders, State.copyPost_slot_same]
    · rw [State.finish_attn]
      exact w.beginHold_halts
    · rw [State.finish_power]
      exact hh.drives.demand
    · rw [State.finish_power]
      exact hh.drives.need
    · refine SameBut.finish ?_ n e (by simp) (by simp) (by simp)
      exact SameBut.trans (t := w) (by simp [sameBut_iff, w, u, State.withLevels]) (hh.same.mono (by simp))
  refine ⟨fun hbad => ?_, fun hgood hnot => ?_, fun hgood hbegins => ⟨fun hnone => ?_, ?_⟩⟩
  · exact refuses_of_finish hwf (hexec.trans (by rw [State.takeJournalLevels_refuses hbad]; rfl))
  · intro hold
    obtain ⟨hbilling, hattn, hsame⟩ := State.retestHold_kept (s := w) hnot ends Iff.rfl
    have hx := htaken hgood (x := w.retestHold) rfl
    generalize w.retestHold = x at hbilling hattn hsame hx
    have hmem : x.mem = w.mem := hsame .mem (by simp)
    have hserved : Served (fun a => a = 0x0008 ∨ a = 0x0009) s n posted x :=
      ⟨(hsame .orders (by simp)).trans hservedw.orders,
        fun a ha => by rw [hmem]; exact hservedw.reads a ha, by rw [hmem]; exact hwfw⟩
    have hshows := State.withLevels_shows (s := u) h resume.toNat hwfu
    have hresult : (⟨.ok, note, beBytes 1 h ++ [resume] ++ beBytes 1 x.billing.fill
        ++ [flagByte x.billing.hold]⟩ : Ending) = ⟨.ok, note, beBytes 1 h ++ [resume]
          ++ beBytes 1 s.billing.fill ++ [if hold then 0x01 else 0x00]⟩ := by
      rw [hbilling]
      rfl
    rw [hresult] at hx
    have hheader {a : Nat} (ha : a < 0x40) (e : Ending) : (x.finish n e).mem.read a = w.mem.read a := by
      rw [x.finish_read_other n e fun he => by have := engineBytes_bound he; omega, hmem]
    refine ⟨_, hx, hserved.ended _, ?_, ?_, ?_, hserved.readsOf _ fun _ ha => ha, hserved.otherSlots _, ?_,
      OtherCauses.finish ?_ n _ (by simp), ?_⟩
    · rw [State.finish_billing, hbilling]
      rfl
    · rw [hheader (by decide)]
      exact hshows.1
    · rw [hheader (by decide)]
      exact hshows.2.trans (by simp)
    · rw [State.finish_attn, hattn]
      by_cases hends : ends
      · rw [if_pos hends, decide_eq_true hends, Bool.not_true, Bool.and_false]
        rfl
      · rw [if_neg hends, decide_eq_false hends, Bool.not_false, Bool.and_true]
        rfl
    · by_cases hends : ends
      · rw [if_pos hends] at hattn
        exact .of_put hattn (by simp)
      · rw [if_neg hends] at hattn
        exact .refl _ hattn
    · refine SameBut.finish ?_ n _ (by simp) (by simp) (by simp)
      exact SameBut.trans (t := w) (by simp [sameBut_iff, w, u, State.withLevels]) (hsame.mono (by simp))
  · have hx := htaken hgood (State.retestHold_begins (s := w) hbegins)
    have hbilling : w.beginHold.billing = { w.billing with hold := true } := by
      rw [State.beginHold_closed (s := w) (.inr hnone), State.haltSupply_billing]
    rw [hbilling] at hx
    obtain ⟨hserved, hhalt, hdemand, hneed, hsame⟩ := hanswers ⟨.ok, note, beBytes 1 h ++ [resume]
      ++ beBytes 1 s.billing.fill ++ [0x01]⟩
    exact ⟨_, hx, hserved, by rw [State.finish_billing, hbilling]; rfl, hhalt, hdemand, hneed, hsame⟩
  · intro ses i hses hint ended r held cut
    have hx := htaken hgood (State.retestHold_begins (s := w) hbegins)
    obtain ⟨hend, hhalt, hdemand, hneed, hsame⟩ := hanswers ⟨.ok, note, beBytes 1 h ++ [resume]
      ++ beBytes 1 w.beginHold.billing.fill ++ [flagByte w.beginHold.billing.hold]⟩
    have hfields {f : Nat} (hfill : w.beginHold.billing.fill = f) (hheld : w.beginHold.billing.hold = true) :
        (⟨.ok, note, beBytes 1 h ++ [resume] ++ beBytes 1 w.beginHold.billing.fill
          ++ [flagByte w.beginHold.billing.hold]⟩ : Ending) = ended f := by
      rw [hfill, hheld]
      rfl
    have hcause : (w.beginHold.attn = w.haltSupply.attn) →
        ∀ e, (w.beginHold.finish n e).attn.journalNew = s.attn.journalNew := fun hattn e => by
      rw [State.finish_attn, hattn, State.haltSupply_attn]
      rfl
    refine ⟨_, hx, hhalt, hdemand, hneed, hsame, fun hnone hlt => ?_, fun hnone hfull => ?_, fun hsome => ?_⟩
    · have hw : Wrote w.haltSupply cut r w.beginHold :=
        State.beginHold_wrote (s := w) hses hint hnone hlt hwfw
      have hfill : w.beginHold.billing.fill = s.billing.fill + 1 :=
        Billing.fill_of_next (by rw [hw.billing]) (by rw [hw.billing]) (by omega)
      rw [hfields hfill (congrArg Billing.hold hw.billing)] at hend ⊢
      refine ⟨hend, hw.record.finish n _, ?_, ?_⟩
      · rw [State.finish_attn, hw.attn]
        rfl
      · rw [State.finish_billing, hw.billing]
    · have hk : Kept128 w.haltSupply cut r w.beginHold :=
        State.beginHold_holds (s := w) hses hint hnone hfull hwfw
      have hfill : w.beginHold.billing.fill = 128 := by rw [hk.billing]; exact hfull
      rw [hfields hfill (congrArg Billing.hold hk.billing)] at hend ⊢
      exact ⟨hend, hk.holds.finish n _, hcause (hk.same .attn (by simp)) _,
        by rw [State.finish_billing, hk.billing]⟩
    · have heq := State.beginHold_merges (s := w) hses hint hsome
      have hbilling : w.beginHold.billing = { held with interval := some (i.merge s.billing.band false) } := by
        rw [heq]
        rfl
      have hfill : w.beginHold.billing.fill = s.billing.fill := by rw [hbilling]; rfl
      rw [hfields hfill (congrArg Billing.hold hbilling)] at hend ⊢
      exact ⟨hend, hcause (by rw [heq]; rfl) _, by rw [State.finish_billing, hbilling, Interval.merge_plain]⟩

end Sys2Proof.Machine
end

/-! # Frame reports priced (O46) -/

section
namespace Sys2Proof.Machine

/-! ## A record entered while the journal has a free slot (R93, R98) -/

/-- A record's write brings the fill to the halt level with no hold in effect. -/
def Billing.holdDue (b : Billing) : Prop := b.hold = false ∧ b.halt ≤ b.fill + 1

section
variable {s : State} {b : Billing} {r : Record}

theorem wrote_of_notDue (hwf : s.mem.wf = true) (hfill : b.fill < 128) (h : ¬b.holdDue) :
    Wrote s b r ((s.withBilling b).enterRecord r) := by
  rw [State.enterRecord_writes r hfill]
  · exact wrote_journalWrite b r hwf
  · by_contra hnot
    simp only [State.withBilling_billing, not_or, Bool.not_eq_true, not_lt] at hnot
    exact h hnot

theorem State.enterRecord_due (hfill : b.fill < 128) (h : b.holdDue) :
    (s.withBilling b).enterRecord r = ((s.withBilling b).journalWrite r).beginHold :=
  State.enterRecord_begins r hfill h.1 h.2

/-- Whether a hold begins or not, the record stands in the journal. -/
theorem State.enterRecord_stands (hwf : s.mem.wf = true) (hfill : b.fill < 128) :
    RecordAt ((s.withBilling b).enterRecord r) b.w r
      ∧ ((s.withBilling b).enterRecord r).attn.journalNew = true := by
  by_cases h : b.holdDue
  · have hw := wrote_journalWrite b r hwf
    rw [State.enterRecord_due hfill h]
    have hh := holding_beginHold ((s.withBilling b).journalWrite r)
    refine ⟨hw.record.keep hh.reads fun a ha hstored => ?_, hh.news (by rw [hw.attn]; rfl)⟩
    rw [hw.billing] at hstored
    rcases hstored with hheader | hnext
    · have h1 := recordBytes_bounds ha
      have h2 := journalHeader_bound hheader
      omega
    · exact not_recordBytes_next ha hnext
  · have hw := wrote_of_notDue (r := r) hwf hfill h
    exact ⟨hw.record, by rw [hw.attn]; rfl⟩

/-- The hold's beginning without an open interval: no record of its own. -/
structure HeldBare (s : State) (b : Billing) (r : Record) (v : State) : Prop where
  billing : v.billing = { b with
    w := b.w + 1, hold := true
    flaggedMark := if r.flags.flagged then some b.w else b.flaggedMark }
  halt : v.attn.journalHalt = true
  iDem : v.power.iDem = 0
  need : v.power.need = false
  causes : OtherCauses [.journalNew, .journalHalt] s v
  reads : ReadsSameBut (fun a => journalHeader a ∨ recordBytes b.w a) s v
  same : SameBut [.mem, .attn, .billing, .power, .relay, .insulation] s v

theorem heldBare_enterRecord (hwf : s.mem.wf = true) (hfill : b.fill < 128) (h : b.holdDue)
    (hnone : b.session = none ∨ b.interval = none) : HeldBare s b r ((s.withBilling b).enterRecord r) := by
  have hw := wrote_journalWrite b r hwf
  rw [State.enterRecord_due hfill h]
  generalize (s.withBilling b).journalWrite r = j at hw
  have hh := holding_beginHold j
  have heq : j.beginHold = j.haltSupply := State.beginHold_closed (by rw [hw.billing]; exact hnone)
  exact
    { billing := by
        rw [heq, State.haltSupply_billing, hw.billing]
      halt := j.beginHold_halts
      iDem := hh.drives.demand
      need := hh.drives.need
      causes := (OtherCauses.of_put hw.attn (by simp)).trans hh.causes
      reads := hw.reads.trans fun a _ => by rw [heq, State.haltSupply_mem]
      same := (hw.same.mono (by simp)).trans hh.same }

end

/-! ## The band in force (R71) -/

/-- The last band that has begun, where one has. -/
theorem lastBand_cases (m : Nat) (bs : List Band) (i found : Nat) :
    (lastBand m bs i found = found ∧ ∀ (k : Nat) (d : Band), bs[k]? = some d → ¬d.start ≤ m)
      ∨ ∃ k d, bs[k]? = some d ∧ d.start ≤ m ∧ lastBand m bs i found = i + k
          ∧ ∀ j e, bs[j]? = some e → e.start ≤ m → j ≤ k := by
  induction bs generalizing i found with
  | nil => exact .inl ⟨rfl, fun k d h => by simp at h⟩
  | cons d bs ih =>
    rw [lastBand]
    rcases ih (i + 1) (if d.start ≤ m then i else found) with ⟨heq, hnone⟩ | ⟨k, e, he, hle, heq, hlast⟩
    · rw [heq]
      by_cases hd : d.start ≤ m
      · refine .inr ⟨0, d, rfl, hd, by rw [if_pos hd]; rfl, fun j e he hle => ?_⟩
        cases j with
        | zero => exact le_rfl
        | succ j => exact absurd hle (hnone j e (by simpa using he))
      · refine .inl ⟨if_neg hd, fun k e he => ?_⟩
        cases k with
        | zero =>
          obtain rfl : d = e := by simpa using he
          exact hd
        | succ k => exact hnone k e (by simpa using he)
    · refine .inr ⟨k + 1, e, by simpa using he, hle, by rw [heq]; omega, fun j f hf hle' => ?_⟩
      cases j with
      | zero => omega
      | succ j => exact Nat.succ_le_succ (hlast j f (by simpa using hf) hle')

theorem Tariff.bandAt_last (t : Tariff) (x : Nat) :
    (∀ k b, t.bands[k]? = some b → b.start ≤ x → k ≤ t.bandAt x)
      ∧ (t.bandAt x = 0 ∨ ∃ b, t.bands[t.bandAt x]? = some b ∧ b.start ≤ x) := by
  unfold Tariff.bandAt
  rcases lastBand_cases x t.bands 0 0 with ⟨heq, hnone⟩ | ⟨k, d, hd, hle, heq, hlast⟩
  · exact ⟨fun k b hb hle => absurd hle (hnone k b hb), .inl heq⟩
  · rw [heq, Nat.zero_add]
    exact ⟨hlast, .inr ⟨d, hd, hle⟩⟩

/-! ## A report taken (R83) -/

theorem exec_frameReport {s : State} {r : FrameReport} {rest : List FrameReport}
    (h : s.metering.reports = r :: rest) : exec .frameReport s =
      .next ((s.withMetering { s.metering with reports := rest }).takeReport r) := by
  simp only [exec, execFrameReport, h]

theorem State.takeReport_counted {s : State} {r : FrameReport} (h : r.counted = true) :
    s.takeReport r = s.withBilling ({ s.billing with meter := r.mWh }.takeCounted r) :=
  (if_pos h).trans rfl

theorem State.takeReport_uncounted {s : State} {r : FrameReport} (h : r.counted = false) :
    s.takeReport r = (s.withBilling { s.billing with meter := r.mWh }).closeOrphan .relay s.billing.band :=
  (if_neg (by simp [h])).trans rfl

theorem Billing.takeCounted_interval {b : Billing} {r : FrameReport} {i : Interval}
    (h : b.interval = some i) : b.takeCounted r = { b with interval := some (i.take b.priceNow r) } := by
  rw [Billing.takeCounted, h]

theorem Billing.takeCounted_orphan {b : Billing} {r : FrameReport} {o : Orphan} (h : b.interval = none)
    (ho : b.orphan.getD b.newOrphan = o) :
    b.takeCounted r = { b with orphan := some { o with interval := o.interval.take b.priceNow r } } := by
  rw [Billing.takeCounted, h, ← ho]

/-- Settles O46. -/
theorem reportPriced : Obligations.ReportPriced := by
  refine ⟨Tariff.bandAt_last, fun s => ⟨fun hnone => ?_, fun r rest hreports => ?_⟩⟩
  · simp only [exec, execFrameReport, hnone]
  intro band price priced taken
  have hexec := exec_frameReport hreports
  have hprice : ({ s.billing with meter := r.mWh } : Billing).priceNow = price := rfl
  have hcounted (hc : r.counted = true) : exec .frameReport s =
      .next ((s.withMetering taken).withBilling ({ s.billing with meter := r.mWh }.takeCounted r)) := by
    rw [hexec, State.takeReport_counted hc]
    rfl
  let u := (s.withMetering taken).withBilling { s.billing with meter := r.mWh }
  have huncounted (hc : r.counted = false) : exec .frameReport s = .next (u.closeOrphan .relay band) := by
    rw [hexec, State.takeReport_uncounted hc]
    rfl
  refine ⟨fun i hc hi => ?_, fun o hc hi ho => ?_, fun hc hi ho => ?_, fun hc ho => ?_, fun o hc ho hheld => ?_,
    fun o hc ho hheld hempty => ?_, ?_⟩
  · rw [hcounted hc, Billing.takeCounted_interval (b := { s.billing with meter := r.mWh }) hi, hprice]
    rfl
  · rw [hcounted hc, Billing.takeCounted_orphan (b := { s.billing with meter := r.mWh }) (o := o) hi
      (by rw [ho]; rfl), hprice]
    rfl
  · rw [hcounted hc, Billing.takeCounted_orphan (b := { s.billing with meter := r.mWh })
      (o := ({ s.billing with meter := r.mWh } : Billing).newOrphan) hi (by rw [ho]; rfl), hprice]
    rfl
  · rw [huncounted hc, State.closeOrphan_none (s := u) ho]
  · rw [huncounted hc, State.closeOrphan_merges (s := u) ho hheld, Interval.merge_plain]
    rfl
  · rw [huncounted hc, State.closeOrphan_drops (s := u) ho hheld (by rw [hempty]; rfl)]
    rfl
  · intro o hc ho hheld hne hfill hwf ro after written begins
    have hclose : u.closeOrphan .relay band = (u.withBilling after).enterRecord ro :=
      State.closeOrphan_writes (s := u) ho hheld (by rw [hne]; rfl)
    have hexec' := huncounted hc
    rw [hclose] at hexec'
    have hu : SameBut [.metering, .billing] s u := by simp [sameBut_iff, u]
    refine ⟨_, hexec', ?_, fun hfull => ?_, fun hlt => ?_, fun hlt hcase => ?_, fun hlt hnot => ?_,
      fun hlt hbegins hint => ?_⟩
    · exact (entered_enterRecord (u.withBilling after) ro).same .metering (by simp)
    · have hk := kept128_enterRecord (s := u) (b := after) ro hwf hfull hheld
      exact ⟨hk.holds, hk.billing, hk.reads, (hu.mono (by simp)).trans (hk.same.mono (by simp))⟩
    · exact State.enterRecord_stands (s := u) (b := after) hwf hlt
    · by_cases hdue : begins
      · exact (heldBare_enterRecord (s := u) (b := after) hwf hlt hdue
          (.inr (hcase.resolve_left (not_not.mpr hdue)))).reads
      · exact (wrote_of_notDue (s := u) (b := after) hwf hlt hdue).reads
    · have hw := wrote_of_notDue (s := u) (b := after) (r := ro) hwf hlt hnot
      exact ⟨hw.billing, .of_put hw.attn (by simp), (hu.mono (by simp)).trans (hw.same.mono (by simp))⟩
    · have hb := heldBare_enterRecord (s := u) (b := after) (r := ro) hwf hlt hbegins (.inr hint)
      exact ⟨hb.billing, hb.halt, hb.iDem, hb.need, hb.causes, (hu.mono (by simp)).trans (hb.same.mono (by simp))⟩

end Sys2Proof.Machine
end

/-! # Seconds and minute starts (O48) -/

section
namespace Sys2Proof.Machine

/-! ## A written close that begins the hold (R82, R98) -/

/-- The hold's own record after the record that began it. -/
structure HeldCut (s : State) (b : Billing) (r : Record) (ses : Session) (i : Interval) (v : State) :
    Prop where
  record : RecordAt v (b.w + 1) (b.cutRecord ses i .hold b.band)
  billing : v.billing = { b.holdCut ses i with
    nextSeq := b.nextSeq + 1
    w := b.w + 2
    flaggedMark := if i.flags.flagged then some (b.w + 1)
      else if r.flags.flagged then some b.w else b.flaggedMark }
  halt : v.attn.journalHalt = true
  iDem : v.power.iDem = 0
  need : v.power.need = false
  causes : OtherCauses [.journalNew, .journalHalt] s v
  same : SameBut [.mem, .attn, .billing, .power, .relay, .insulation] s v

theorem heldCut_enterRecord {s : State} {b : Billing} {r : Record} {ses : Session} {i : Interval}
    (hwf : s.mem.wf = true) (hfill : b.fill < 127) (h : b.holdDue) (hses : b.session = some ses)
    (hint : b.interval = some i) (hheld : b.held = none) :
    HeldCut s b r ses i ((s.withBilling b).enterRecord r) := by
  have hw := wrote_journalWrite b r hwf
  rw [State.enterRecord_due (by omega) h]
  generalize (s.withBilling b).journalWrite r = j at hw
  have hh := holding_beginHold j
  have hfillj : j.billing.fill = b.fill + 1 :=
    Billing.fill_of_next (by rw [hw.billing]) (by rw [hw.billing]) (by omega)
  have hcut := State.beginHold_wrote (s := j) (ses := ses) (i := i) (by rw [hw.billing]; exact hses)
    (by rw [hw.billing]; exact hint) (by rw [hw.billing]; exact hheld) (by omega) hw.wf
  exact
    { record := by
        have hat := hcut.record
        rw [hw.billing] at hat
        exact hat
      billing := by
        rw [hcut.billing, hw.billing]
        simp only [Billing.holdCut, Billing.cutNext, BitVec.add_assoc]
        rfl
      halt := j.beginHold_halts
      iDem := hh.drives.demand
      need := hh.drives.need
      causes := (OtherCauses.of_put hw.attn (by simp)).trans hh.causes
      same := (hw.same.mono (by simp)).trans hh.same }

theorem HeldCut.billing_of {s v : State} {b : Billing} {r : Record} {ses : Session} {i : Interval} {q : Word}
    (h : HeldCut s b r ses i v) (hq : b.nextSeq + 1 = q) : v.billing = { b.holdCut ses i with
      nextSeq := q
      w := b.w + 2
      flaggedMark := if i.flags.flagged then some (b.w + 1)
        else if r.flags.flagged then some b.w else b.flaggedMark } := by
  rw [h.billing, hq]

/-! ## Minute starts (R70, R76) -/

theorem Tariff.startsBand_iff (t : Tariff) (x : Nat) :
    t.startsBand x = true ↔ ∃ d ∈ t.bands, d.start = x := by
  simp [Tariff.startsBand]

section
variable {b : Billing} {m : Nat}

theorem Billing.minuteCause_tariff (h : b.pendingTable.isSome = true) (hL : m % b.table.length = 0) :
    b.minuteCause m = some .tariff := if_pos ⟨h, hL⟩

theorem Billing.minuteCause_band (h : ¬(b.pendingTable.isSome = true ∧ m % b.table.length = 0))
    (hband : b.clockSet = true ∧ b.table.startsBand m = true) : b.minuteCause m = some .band :=
  (if_neg h).trans (if_pos hband)

theorem Billing.minuteCause_boundary (h : ¬(b.pendingTable.isSome = true ∧ m % b.table.length = 0))
    (hband : ¬(b.clockSet = true ∧ b.table.startsBand m = true)) (hL : m % b.table.length = 0) :
    b.minuteCause m = some .boundary := (if_neg h).trans ((if_neg hband).trans (if_pos hL))

theorem Billing.minuteCause_off (hL : ¬m % b.table.length = 0)
    (hband : ¬(b.clockSet = true ∧ b.table.startsBand m = true)) : b.minuteCause m = none :=
  (if_neg fun h => hL h.2).trans ((if_neg hband).trans (if_neg hL))

end

section
variable {s : State} {m bandBefore : Nat}

theorem State.orphanMinute_onL (h : m % s.billing.table.length = 0) :
    s.orphanMinute m bandBefore = s.closeOrphan .relay bandBefore := if_pos h

theorem State.orphanMinute_onBand (h : ¬m % s.billing.table.length = 0)
    (hband : s.billing.clockSet = true ∧ s.billing.table.startsBand m = true) :
    s.orphanMinute m bandBefore = s.withBilling s.billing.orphanSpans :=
  (if_neg h).trans (if_pos (by rw [hband.1, hband.2]; rfl))

theorem State.orphanMinute_off (h : ¬m % s.billing.table.length = 0)
    (hband : ¬(s.billing.clockSet = true ∧ s.billing.table.startsBand m = true)) :
    s.orphanMinute m bandBefore = s :=
  (if_neg h).trans (if_neg (by rwa [Bool.and_eq_true]))

theorem State.orphanMinute_none (h : s.billing.orphan = none) : s.orphanMinute m bandBefore = s := by
  by_cases hL : m % s.billing.table.length = 0
  · rw [State.orphanMinute_onL hL, State.closeOrphan_none h]
  · by_cases hband : s.billing.clockSet = true ∧ s.billing.table.startsBand m = true
    · rw [State.orphanMinute_onBand hL hband, Billing.orphanSpans, h, Option.map_none, ← h]
      rfl
    · exact State.orphanMinute_off hL hband

theorem State.minuteStart_orphan (h : s.billing.interval = none) :
    s.minuteStart bandBefore = s.orphanMinute (minuteOfDay s.billing.partTime) bandBefore := by
  simp only [State.minuteStart, h]

theorem State.minuteStart_off {i : Interval} (h : s.billing.interval = some i)
    (hoff : s.billing.minuteCause (minuteOfDay s.billing.partTime) = none) :
    s.minuteStart bandBefore = s := by
  simp only [State.minuteStart, h, hoff]

theorem State.minuteStart_tariff {i : Interval} (h : s.billing.interval = some i)
    (hcause : s.billing.minuteCause (minuteOfDay s.billing.partTime) = some .tariff) :
    s.minuteStart bandBefore = s.adoptPending.closeInterval .tariff bandBefore true := by
  simp only [State.minuteStart, h, hcause]

theorem State.minuteStart_other {i : Interval} {cause : CloseCause} (h : s.billing.interval = some i)
    (hcause : s.billing.minuteCause (minuteOfDay s.billing.partTime) = some cause)
    (hother : cause ≠ .tariff) : s.minuteStart bandBefore = s.closeInterval cause bandBefore false := by
  simp only [State.minuteStart, h, hcause]

end

/-- The table that a minute start adopts, and the flag that goes with it. -/
def Billing.withTable (b : Billing) (t : Tariff) (pending : Option Tariff) (default : Bool) : Billing :=
  { b with table := t, pendingTable := pending, defaultTable := default }

/-- Settles O48. -/
theorem secondAdvances : Obligations.SecondAdvances := by
  intro s now b x onL onBand
  let s1 := s.withBilling b
  have hoff (h : now.toNat % 60 ≠ 0) : exec .partTimeTick s = .next s1 :=
    congrArg Host.Outcome.next (if_neg h)
  have hstart (h : now.toNat % 60 = 0) : exec .partTimeTick s = .next (s1.minuteStart s.billing.band) :=
    congrArg Host.Outcome.next (if_pos h)
  have hband : onBand ↔ s1.billing.clockSet = true ∧ s1.billing.table.startsBand x = true :=
    and_congr_right fun _ => (Tariff.startsBand_iff _ _).symm
  have horphan (h : s.billing.interval = none) : s1.minuteStart s.billing.band = s1.orphanMinute x s.billing.band :=
    State.minuteStart_orphan (s := s1) h
  refine ⟨hoff, fun hmin => ⟨fun hnotL hnotB => ?_, fun hint ho => ?_, fun o hint ho hnotL hB => ?_,
    fun o hint ho hL hempty hheld => ?_, fun o hint ho hL hheld => ?_,
    fun o hint ho hL hne hroom hwf => ?_, fun ses i hses hint hdue => ?_⟩⟩
  · rw [hstart hmin]
    cases hint : s.billing.interval with
    | none => rw [horphan hint, State.orphanMinute_off (s := s1) hnotL (hband.not.mp hnotB)]
    | some i =>
      rw [State.minuteStart_off (s := s1) hint (Billing.minuteCause_off hnotL (hband.not.mp hnotB))]
  · rw [hstart hmin, horphan hint, State.orphanMinute_none (s := s1) ho]
  · rw [hstart hmin, horphan hint, State.orphanMinute_onBand (s := s1) hnotL (hband.mp hB), Billing.orphanSpans,
      show s1.billing.orphan = some o from ho]
    rfl
  · rw [hstart hmin, horphan hint, State.orphanMinute_onL (s := s1) hL,
      State.closeOrphan_drops (s := s1) ho hheld (by rw [hempty]; rfl)]
    rfl
  · rw [hstart hmin, horphan hint, State.orphanMinute_onL (s := s1) hL, State.closeOrphan_merges (s := s1) ho hheld,
      Interval.merge_plain]
    rfl
  · rw [hstart hmin, horphan hint, State.orphanMinute_onL (s := s1) hL,
      State.closeOrphan_writes (s := s1) ho hroom.1 (by rw [hne]; rfl)]
    obtain ⟨hw, -⟩ := wrote_enterRecord (s := s1) (b := s1.billing.orphanNext) (k := 0)
      (s1.billing.orphanCut o .relay s.billing.band) hwf hroom
    exact ⟨_, rfl, by rw [hw.billing]; rfl, by rw [hw.billing]; rfl, by rw [hw.attn]; rfl, hw.record,
      SameBut.trans (t := s1) (by simp [sameBut_iff, s1]) (hw.same.mono (by simp))⟩
  · intro adopts after cause fresh
    have hclose : s1.minuteStart s.billing.band =
        (s.withBilling after).closeInterval cause s.billing.band adopts := by
      by_cases hadopts : adopts = true
      · obtain ⟨hpending, hL⟩ : s.billing.pendingTable.isSome = true ∧ onL := by
          simpa [adopts] using hadopts
        obtain ⟨t, ht⟩ := Option.isSome_iff_exists.mp hpending
        have hafter : s1.adoptPending = s.withBilling after := by
          rw [State.adoptPending, show s1.billing.pendingTable = some t from ht,
            show after = _ from if_pos hadopts, ht]
          rfl
        rw [State.minuteStart_tariff (s := s1) hint (Billing.minuteCause_tariff hpending hL), hafter,
          show cause = _ from if_pos hadopts, hadopts]
      · have hnot : ¬(s.billing.pendingTable.isSome = true ∧ onL) := by simpa [adopts] using hadopts
        rw [show after = _ from if_neg hadopts, show cause = _ from if_neg hadopts,
          Bool.eq_false_iff.mpr hadopts]
        by_cases hB : s.billing.clockSet = true ∧ s.billing.table.startsBand x = true
        · rw [State.minuteStart_other (s := s1) hint (Billing.minuteCause_band hnot hB) (by decide),
            if_pos (by rw [hB.1, hB.2]; rfl)]
        · have hL : onL := hdue.resolve_right (hband.not.mpr hB)
          rw [State.minuteStart_other (s := s1) hint (Billing.minuteCause_boundary hnot hB hL) (by decide),
            if_neg (by rwa [Bool.and_eq_true])]
    have hdrops : cause.dropsEmpty = true := by
      simp only [cause]
      split <;> [rfl; (split <;> rfl)]
    obtain ⟨table, pending, default, hafter⟩ : ∃ table pending default,
        after = b.withTable table pending default := by
      by_cases hadopts : adopts = true
      · exact ⟨_, _, _, if_pos hadopts⟩
      · exact ⟨_, _, _, if_neg hadopts⟩
    clear_value after cause adopts
    subst hafter
    let v := s.withBilling (b.withTable table pending default)
    rw [hstart hmin, hclose]
    refine ⟨fun hheld => ?_, fun hheld hempty => ?_, fun hheld hne hfill hwf => ?_⟩
    · rw [State.closeInterval, State.closeIntervalBy_merges (s := v) hses hint hheld, Interval.merge_eq]
      rfl
    · rw [State.closeInterval, State.closeIntervalBy_inherits (s := v) hses hint hheld (by rw [hempty, hdrops]; rfl)]
      rfl
    · intro r cut next begins
      have hwrites : (s.withBilling (b.withTable table pending default)).closeInterval cause s.billing.band adopts
          = (s.withBilling next).enterRecord r := by
        rw [State.closeInterval, State.closeIntervalBy_writes (s := v) hses hint hheld (by rw [hne]; rfl)]
        rfl
      rw [hwrites]
      refine ⟨_, rfl, fun hfull => ?_, fun hlt => State.enterRecord_stands hwf hlt, fun hlt hnot => ?_,
        fun hlt hbegins => ?_⟩
      · have hk := kept128_enterRecord (s := s) (b := next) r hwf hfull hheld
        exact ⟨hk.holds, hk.billing, hk.reads, hk.same⟩
      · have hw := wrote_of_notDue (s := s) (b := next) (r := r) hwf hlt hnot
        exact ⟨hw.billing, .of_put hw.attn (by simp), hw.reads, hw.same⟩
      · intro f
        have hc := heldCut_enterRecord (s := s) (b := next) (r := r) (ses := cut) (i := f) hwf hlt hbegins rfl
          rfl hheld
        have hseq : next.nextSeq + 1 = s.billing.nextSeq + 2 := BitVec.add_assoc _ _ _
        exact ⟨hc.record, hc.billing_of hseq, hc.halt, hc.iDem, hc.need, hc.causes, hc.same⟩

end Sys2Proof.Machine
end

/-! # A new trip's open request and the ends of the standing orders (R173, R179) -/

section
namespace Sys2Proof.Machine

/-! ## An order's end that stands -/

/-- An order's end as its slot shows it: DONE, its outcome, and, where its post is known, its record. -/
structure EndStands (s : State) (n : SlotNo) (e : Ending) (t : State) : Prop where
  state : (t.slot n).state = .done
  outcome : t.mem.read (slotAddr n + 32) = e.outcome.code
  note : t.mem.read (slotAddr n + 33) = e.note
  ended : ∀ p, s.slot n = ⟨.running, some p⟩ → Ended t n p e

theorem Ended.keep {s t : State} {n : SlotNo} {p : Posted} {e : Ending} (h : Ended s n p e)
    (hslot : t.slot n = s.slot n) (hreads : ∀ a, engineBytes n a → t.mem.read a = s.mem.read a)
    (hdone : t.attn.orderDone = true) : Ended t n p e := by
  obtain ⟨hs, hstate, hresult, -⟩ := h
  refine ⟨hslot.trans hs, (hreads _ (.inl rfl)).trans hstate, ?_, hdone⟩
  rw [← hresult]
  exact Memory.readAll_congr _ _ fun a h1 h2 => hreads a (.inr ⟨h1, by omega⟩)

theorem endStands_finish {s v : State} {n : SlotNo} (e : Ending) (hslot : v.slot n = s.slot n)
    (hwf : v.mem.wf = true) : EndStands s n e (v.finish n e) := by
  obtain ⟨houtcome, hnote⟩ := State.finish_outcome v n e hwf
  exact ⟨by rw [State.slot_finish_same], houtcome, hnote,
    fun p hp => ended_finish e (by rw [hslot, hp]) hwf⟩

namespace EndStands

variable {s t u : State} {n : SlotNo} {e : Ending}

theorem keep (h : EndStands s n e t) (hslot : u.slot n = t.slot n)
    (hreads : ∀ a, engineBytes n a → u.mem.read a = t.mem.read a)
    (hdone : t.attn.orderDone = true → u.attn.orderDone = true) : EndStands s n e u where
  state := by rw [hslot]; exact h.state
  outcome := (hreads _ (.inr (by omega))).trans h.outcome
  note := (hreads _ (.inr (by omega))).trans h.note
  ended p hp := (h.ended p hp).keep hslot hreads (hdone (h.ended p hp).2.2.2)

theorem of_slot (h : EndStands s n e t) (hslot : s.slot n = u.slot n) : EndStands u n e t :=
  ⟨h.state, h.outcome, h.note, fun p hp => h.ended p (hslot.trans hp)⟩

/-- The journal lies outside the slots. -/
theorem entered (h : EndStands s n e t) (hu : Entered t u) : EndStands s n e u := by
  refine h.keep (State.slot_congr (hu.same .orders (by simp)) n) (fun a ha => hu.reads a ?_)
    fun hdone => (hu.causes.2 .orderDone (by simp)).trans hdone
  have := engineBytes_bound ha
  rintro (hh | hr | hr)
  · have := journalHeader_bound hh
    omega
  · have := recordBytes_bounds hr
    omega
  · have := recordBytes_bounds hr
    omega

end EndStands

/-! ## The ends of a CHARGE and of a HEAT under a trip (R127, R146) -/

/-- The slot of the running CHARGE. -/
def State.chargeAt (s : State) (a : Nat) : Prop := ∃ c, s.power.charge = some c ∧ engineBytes c.slot a

/-- The slot of the running HEAT. -/
def State.planAt (s : State) (a : Nat) : Prop := ∃ p, s.heating.plan = some p ∧ engineBytes p.slot a

/-- The end of a CHARGE that a trip brings. -/
def Charge.tripEnding (c : Charge) (iDem : Nat) : Ending := ⟨.tripped, clampedNote c.clamped, c.fields iDem⟩

/-- The end of a HEAT that a trip brings. -/
def Plan.tripEnding (p : Plan) (tMin : Option Int) : Ending :=
  ⟨.tripped, clampedNote p.clamped, p.fields tMin⟩

/-- What the ends of the standing orders under a trip leave. -/
structure StandingEnded (s t : State) : Prop where
  same : SameBut [.mem, .orders, .attn, .power, .heating] s t
  causes : OtherCauses [.orderDone, .planEvent] s t
  reads : ReadsSameBut (fun a => s.chargeAt a ∨ s.planAt a) s t
  wf : s.mem.wf = true → t.mem.wf = true
  charge : ∀ c, s.power.charge = some c → (∀ p, s.heating.plan = some p → p.slot ≠ c.slot) →
    s.mem.wf = true → EndStands s c.slot (c.tripEnding s.power.iDem) t
  event : ∀ p, s.heating.plan = some p → t.attn.planEvent = true
  plan : ∀ p, s.heating.plan = some p → s.mem.wf = true →
    (t.slot p.slot).state = .done ∧ t.mem.read (slotAddr p.slot + 32) = OrderOutcome.tripped.code
      ∧ ((∀ c, s.power.charge = some c → c.slot ≠ p.slot) →
        EndStands s p.slot (p.tripEnding s.heating.tMin) t)

/-- The end of the CHARGE alone. -/
structure ChargeEnded (s t : State) : Prop where
  same : SameBut [.mem, .orders, .attn, .power] s t
  causes : OtherCauses [.orderDone, .planEvent] s t
  reads : ReadsSameBut s.chargeAt s t
  wf : s.mem.wf = true → t.mem.wf = true
  charge : ∀ c, s.power.charge = some c → s.mem.wf = true →
    EndStands s c.slot (c.tripEnding s.power.iDem) t
  others : ∀ k, (∀ c, s.power.charge = some c → c.slot ≠ k) → t.slot k = s.slot k

theorem chargeEnded_tripCharge (s : State) : ChargeEnded s s.tripCharge := by
  cases h : s.power.charge with
  | none =>
    rw [State.tripCharge_of_none h]
    exact
      { same := by simp [sameBut_iff]
        causes := .refl _ rfl
        reads := fun _ _ => rfl
        wf := fun hwf => hwf
        charge := fun c hc => by rw [h] at hc; cases hc
        others := fun _ _ => rfl }
  | some c =>
    rw [State.tripCharge_of_some h]
    exact
      { same := by simp [sameBut_iff, State.dropCharge]
        causes := .of_put (State.finish_attn _ _ _) (by simp)
        reads := fun a ha => State.finish_read_other _ _ _ fun hbytes => ha ⟨c, h, hbytes⟩
        wf := State.finish_wf _ _ _
        charge := fun d hd hwf => by
          obtain rfl : c = d := Option.some.inj (h.symm.trans hd)
          exact endStands_finish (v := s.dropCharge) _ rfl hwf
        others := fun k hk => State.slot_finish_other _ _ (hk c h).symm }

theorem standingEnded_trip (s : State) : StandingEnded s s.tripCharge.tripPlan := by
  have hc := chargeEnded_tripCharge s
  have hheating : s.tripCharge.heating = s.heating := hc.same .heating (by simp)
  generalize s.tripCharge = u at hc hheating
  cases h : u.heating.plan with
  | none =>
    have hnone : s.heating.plan = none := by rw [← hheating, h]
    rw [State.tripPlan_of_none h]
    exact
      { same := hc.same.mono (by simp)
        causes := hc.causes
        reads := hc.reads.mono fun a ha => .inl ha
        wf := hc.wf
        charge := fun c hcharge _ hwf => hc.charge c hcharge hwf
        event := fun p hp => by rw [hnone] at hp; cases hp
        plan := fun p hp => by rw [hnone] at hp; cases hp }
  | some p =>
    have hplan : s.heating.plan = some p := by rw [← hheating, h]
    have hend (hwf : s.mem.wf = true) :
        EndStands u p.slot (p.tripEnding s.heating.tMin) (u.tripPlan) := by
      rw [State.tripPlan_of_some h, ← hheating]
      exact (endStands_finish (s := u) (v := u.dropPlan) _ rfl (hc.wf hwf)).keep rfl (fun _ _ => rfl)
        fun hdone => hdone
    have hreads : ReadsSameBut s.planAt u u.tripPlan := fun a ha => by
      rw [State.tripPlan_of_some h]
      exact State.finish_read_other u.dropPlan _ _ fun hbytes => ha ⟨p, hplan, hbytes⟩
    have hslots (k : SlotNo) (hk : p.slot ≠ k) : u.tripPlan.slot k = u.slot k := by
      rw [State.tripPlan_of_some h]
      exact State.slot_finish_other u.dropPlan _ hk.symm
    have hattn : u.tripPlan.attn = (u.attn.put .orderDone true).put .planEvent true := by
      rw [State.tripPlan_of_some h, State.raise_attn, State.finish_attn]
      rfl
    exact
      { same := (hc.same.mono (by simp)).trans (by
          rw [State.tripPlan_of_some h]
          simp [sameBut_iff, State.dropPlan])
        causes := hc.causes.trans ⟨by rw [hattn]; rfl, fun c hnot => by
          rw [hattn, Attention.has_put_other _ _ fun heq => hnot (by simp [heq]),
            Attention.has_put_other _ _ fun heq => hnot (by simp [heq])]⟩
        reads := (hc.reads.mono fun a ha => .inl ha).trans (hreads.mono fun a ha => .inr ha)
        wf := fun hwf => by
          rw [State.tripPlan_of_some h]
          exact State.finish_wf _ _ _ (hc.wf hwf)
        charge := fun c hcharge hother hwf => by
          have hne := hother p hplan
          refine (hc.charge c hcharge hwf).keep (hslots _ hne) (fun a ha => hreads a ?_) fun hdone => ?_
          · rintro ⟨q, hq, hbytes⟩
            obtain rfl : p = q := Option.some.inj (hplan.symm.trans hq)
            exact not_engineBytes_of_ne hne.symm ha hbytes
          · rw [hattn]
            rfl
        event := fun _ _ => by rw [hattn]; rfl
        plan := fun q hq hwf => by
          obtain rfl : p = q := Option.some.inj (hplan.symm.trans hq)
          exact ⟨(hend hwf).state, (hend hwf).outcome, fun hother => (hend hwf).of_slot (hc.others _ hother)⟩ }

/-! ## An open request that skips the current wait (R173) -/

/-- The relay drives its contact. -/
def Relay.driven (r : Relay) : Prop := r.state = .closing ∨ r.state = .closed ∨ r.state = .currentWait

/-- The relay is OPEN, or comes open at once where its drive is removed. -/
def State.opensAtOnce (s : State) : Prop := s.relay.state = .opened ∨ s.relay.driven ∧ s.pins.infb = false

theorem State.openRequest_skips_driven {s : State} (hidem : s.power.iDem = 0) (h : s.relay.driven) :
    ∃ u : State, s.openRequest true = u.enterRelease true ∧ u.pins = s.pins ∧ u.billing = s.billing
      ∧ u.power = s.power := by
  rcases h with h | h | h
  · exact ⟨s, by rw [State.openRequest, h], rfl, rfl, rfl⟩
  · refine ⟨s.leaveClosed, by rw [State.openRequest, h]; rfl, rfl, rfl, ?_⟩
    rw [State.leaveClosed, State.setDemand_power, ← hidem]
  · exact ⟨s, by rw [State.openRequest, h]; rfl, rfl, rfl, rfl⟩

/-- What an open request that skips the current wait makes of the relay. -/
theorem State.openRequest_skips_relay {s : State} (hidem : s.power.iDem = 0) :
    (s.relay.driven → s.pins.infb = true → (s.openRequest true).relay = ⟨.release, some 0, true⟩)
      ∧ (s.relay.driven → s.pins.infb = false → (s.openRequest true).relay = openedFor s.power.need)
      ∧ (¬s.relay.driven → (s.openRequest true).relay = s.relay) := by
  refine ⟨fun hd hinfb => ?_, fun hd hinfb => ?_, fun hnot => ?_⟩
  · obtain ⟨u, heq, hpins, -, -⟩ := State.openRequest_skips_driven hidem hd
    rw [heq, State.enterRelease_closed _ (by rw [hpins, hinfb])]
    rfl
  · obtain ⟨u, heq, hpins, -, hpower⟩ := State.openRequest_skips_driven hidem hd
    rw [heq, State.enterRelease_open _ (by rw [hpins, hinfb]), hpower]
    rfl
  · cases hstate : s.relay.state with
    | opened => rw [State.openRequest_opened _ hstate, State.passStep2_relay]
    | closing => exact absurd (.inl hstate) hnot
    | closed => exact absurd (.inr (.inl hstate)) hnot
    | currentWait => exact absurd (.inr (.inr hstate)) hnot
    | release => rw [State.openRequest_releasing _ (.inl hstate)]
    | stuck => rw [State.openRequest_releasing _ (.inr hstate)]

/-- Where the relay comes open, step 2 of a waiting close is passed. -/
theorem State.openRequest_skips_billing {s : State} (hidem : s.power.iDem = 0) :
    (s.opensAtOnce → (s.openRequest true).billing = s.billing.passed)
      ∧ (¬s.opensAtOnce → (s.openRequest true).billing = s.billing) := by
  refine ⟨fun hopens => ?_, fun hnot => ?_⟩
  · rcases hopens with hstate | ⟨hd, hinfb⟩
    · rw [State.openRequest_opened _ hstate, State.passStep2_eq]
      rfl
    · obtain ⟨u, heq, hpins, hbilling, -⟩ := State.openRequest_skips_driven hidem hd
      rw [heq, State.enterRelease_open _ (by rw [hpins, hinfb]), ← hbilling]
      rfl
  · by_cases hd : s.relay.driven
    · obtain ⟨u, heq, hpins, hbilling, -⟩ := State.openRequest_skips_driven hidem hd
      have hinfb : s.pins.infb = true := by
        by_contra hlow
        exact hnot (.inr ⟨hd, by simpa using hlow⟩)
      rw [heq, State.enterRelease_closed _ (by rw [hpins, hinfb])]
      exact hbilling
    · cases hstate : s.relay.state with
      | opened => exact absurd (.inl hstate) hnot
      | closing => exact absurd (.inl hstate) hd
      | closed => exact absurd (.inr (.inl hstate)) hd
      | currentWait => exact absurd (.inr (.inr hstate)) hd
      | release => rw [State.openRequest_releasing _ (.inl hstate)]
      | stuck => rw [State.openRequest_releasing _ (.inr hstate)]

theorem State.sameBut_openRequest (s : State) (skip : Bool) :
    SameBut [.billing, .power, .insulation, .relay] s (s.openRequest skip) := by
  simp [sameBut_iff]

end Sys2Proof.Machine
end

/-! # MODULE's trip: the drives, the standing orders and the open interval (R179, R181) -/

section
namespace Sys2Proof.Machine

/-! ## What a trip does before its close -/

/-- The relay after an open request that skips the current wait. -/
def State.relayOpened (s : State) (need : Bool) : Relay :=
  if s.relay.state = .closing ∨ s.relay.state = .closed ∨ s.relay.state = .currentWait then
    (if s.pins.infb then ⟨.release, some 0, true⟩ else openedFor need)
  else s.relay

open Classical in
/-- The billing unit after an open request that skips the current wait. -/
noncomputable def State.billingOpened (s : State) : Billing :=
  if s.opensAtOnce then s.billing.passed else s.billing

/-- What a trip that skips the current wait leaves before its close of the open interval. -/
structure BeforeClose (s : State) (k : TripKind) (u : State) : Prop where
  report : s.tripReport k = u.closeInterval .trip u.billing.band false
  same : SameBut [.mem, .attn, .orders, .billing, .power, .heating, .insulation, .relay, .trips] s u
  causes : OtherCauses [.trip, .orderDone, .planEvent] s u
  reads : ReadsSameBut (fun a => s.chargeAt a ∨ s.planAt a) s u
  wf : s.mem.wf = true → u.mem.wf = true
  billing : u.billing = s.billingOpened
  relay : u.relay = s.relayOpened (s.power.need && !s.trips.set.isEmpty)
  charge : ∀ c, s.power.charge = some c → (∀ p, s.heating.plan = some p → p.slot ≠ c.slot) →
    s.mem.wf = true → EndStands s c.slot (c.tripEnding 0) u
  event : ∀ p, s.heating.plan = some p → u.attn.planEvent = true
  plan : ∀ p, s.heating.plan = some p → s.mem.wf = true →
    (u.slot p.slot).state = .done ∧ u.mem.read (slotAddr p.slot + 32) = OrderOutcome.tripped.code
      ∧ ((∀ c, s.power.charge = some c → c.slot ≠ p.slot) →
        EndStands s p.slot (p.tripEnding s.heating.tMin) u)

/-- What the open request of such a trip leaves. -/
structure Opened (s x : State) : Prop where
  same : SameBut [.attn, .billing, .power, .insulation, .relay, .trips] s x
  causes : OtherCauses [.trip] s x
  billing : x.billing = s.billingOpened
  relay : x.relay = s.relayOpened (s.power.need && !s.trips.set.isEmpty)
  iDem : x.power.iDem = 0
  charge : x.power.charge = s.power.charge.map fun c =>
    if s.trips.set.isEmpty then { c with state := .gated } else c

theorem opened_tripOpened {s : State} {k : TripKind} (hskips : k.skips = true) :
    Opened s (s.tripOpened k) := by
  have h := latched_tripLatched s k
  have hpins : (s.tripLatched k).pins = s.pins := h.same .pins (by simp)
  have hbilling : (s.tripLatched k).billing = s.billing := h.same .billing (by simp)
  have hrelay : ¬s.relay.driven → (s.tripLatched k).relay = s.relay := fun hnot =>
    h.relay.2 fun hclosed => hnot (.inr (.inl hclosed))
  have hdriven : (s.tripLatched k).relay.driven ↔ s.relay.driven := by
    simp only [Relay.driven, h.relay.1]
  have hopens : (s.tripLatched k).opensAtOnce ↔ s.opensAtOnce := by
    simp only [State.opensAtOnce, hdriven, hpins, h.relay.1]
  obtain ⟨hclosed, hopen, hundriven⟩ := State.openRequest_skips_relay h.iDem
  obtain ⟨hpass, hkeep⟩ := State.openRequest_skips_billing h.iDem
  rw [State.tripOpened, hskips]
  exact
    { same := (h.same.mono (by simp)).trans ((State.sameBut_openRequest _ _).mono (by simp))
      causes := by
        have hlatch : OtherCauses [.trip] s (s.tripLatched k) := by
          cases hempty : s.trips.set.isEmpty with
          | true => exact .of_put (h.attn.trans (if_pos hempty)) (by simp)
          | false => exact .refl _ (h.attn.trans (if_neg (by simp [hempty])))
        exact hlatch.trans (.refl _ (by simp))
      billing := by
        unfold State.billingOpened
        split
        next ho => rw [hpass (hopens.mpr ho), hbilling]
        next ho => rw [hkeep (mt hopens.mp ho), hbilling]
      relay := by
        rw [← h.need]
        unfold State.relayOpened
        split
        next hd =>
          cases hinfb : s.pins.infb with
          | true => exact hclosed (hdriven.mpr hd) (by rw [hpins, hinfb])
          | false => exact hopen (hdriven.mpr hd) (by rw [hpins, hinfb])
        next hd => rw [hundriven (mt hdriven.mp hd), hrelay hd]
      iDem := by rw [State.openRequest_power _ h.iDem, h.iDem]
      charge := by rw [State.openRequest_power _ h.iDem, h.charge] }

theorem beforeClose_of_skips {s : State} {k : TripKind} (hskips : k.skips = true)
    (hnew : s.trips.set.has k = false) : ∃ u, BeforeClose s k u := by
  have ho := opened_tripOpened (s := s) hskips
  have he := standingEnded_trip (s.tripOpened k)
  have hreport : s.tripReport k = (s.tripOpened k).tripCharge.tripPlan.closeInterval .trip
      (s.tripOpened k).tripCharge.tripPlan.billing.band false := by
    have hweld (v : State) : v.weldPasses k = v := if_neg fun hweld => by rw [hweld] at hskips; cases hskips
    exact (State.tripReport_of_new hnew).trans (hweld _)
  generalize (s.tripOpened k).tripCharge.tripPlan = u at he hreport
  generalize s.tripOpened k = x at ho he
  have hmem : x.mem = s.mem := ho.same .mem (by simp)
  have horders : x.orders = s.orders := ho.same .orders (by simp)
  have hheating : x.heating = s.heating := ho.same .heating (by simp)
  have hcharge (c : Charge) (hc : s.power.charge = some c) : ∃ d, x.power.charge = some d
      ∧ d.slot = c.slot ∧ d.tripEnding x.power.iDem = c.tripEnding 0 := by
    refine ⟨if s.trips.set.isEmpty then { c with state := .gated } else c, ?_, ?_⟩
    · rw [ho.charge, hc, Option.map_some]
    · rw [ho.iDem]
      split <;> exact ⟨rfl, rfl⟩
  have hback (d : Charge) (hd : x.power.charge = some d) : ∃ c, s.power.charge = some c ∧ d.slot = c.slot := by
    rw [ho.charge] at hd
    obtain ⟨c, hc, rfl⟩ := Option.map_eq_some_iff.mp hd
    exact ⟨c, hc, by split <;> rfl⟩
  exact ⟨u,
    { report := hreport
      same := (ho.same.mono (by simp)).trans (he.same.mono (by simp))
      causes := (ho.causes.mono (by simp)).trans (he.causes.mono (by simp))
      reads := fun a ha => by
        rw [← hmem]
        refine he.reads a ?_
        rintro (⟨d, hd, hbytes⟩ | ⟨p, hp, hbytes⟩)
        · obtain ⟨c, hc, hslot⟩ := hback d hd
          exact ha (.inl ⟨c, hc, hslot ▸ hbytes⟩)
        · exact ha (.inr ⟨p, hheating ▸ hp, hbytes⟩)
      wf := fun hwf => he.wf (hmem ▸ hwf)
      billing := (he.same .billing (by simp)).trans ho.billing
      relay := (he.same .relay (by simp)).trans ho.relay
      charge := fun c hc hother hwf => by
        obtain ⟨d, hd, hslot, hending⟩ := hcharge c hc
        have h := he.charge d hd (fun p hp => by rw [hslot]; exact hother p (hheating ▸ hp)) (hmem ▸ hwf)
        rw [hslot, hending] at h
        exact h.of_slot (State.slot_congr horders _)
      event := fun p hp => he.event p (hheating.symm ▸ hp)
      plan := fun p hp hwf => by
        obtain ⟨hstate, hout, hend⟩ := he.plan p (hheating.symm ▸ hp) (hmem ▸ hwf)
        refine ⟨hstate, hout, fun hother => ?_⟩
        have h := hend fun d hd => by
          obtain ⟨c, hc, hslot⟩ := hback d hd
          rw [hslot]
          exact hother c hc
        rw [hheating] at h
        exact h.of_slot (State.slot_congr horders _) }⟩

/-! ## The close of the open interval -/

section
variable {u : State} {b : Billing} {ses : Session} {i : Interval}

/-- The record of a trip's close, the billing unit after it, and the three places a record has. -/
structure TripClosed (u : State) (b : Billing) (ses : Session) (i : Interval) (t : State) : Prop where
  merged : b.held.isSome = true → t.billing = { b with interval := some (i.merge b.band false) }
  held : b.held = none → b.fill = 128 → u.mem.wf = true →
    Kept128 u (b.cutNext ses i) (b.cutRecord ses i .trip b.band) t
  stands : b.held = none → b.fill < 128 → u.mem.wf = true →
    RecordAt t b.w (b.cutRecord ses i .trip b.band) ∧ t.attn.journalNew = true
  plain : b.held = none → b.fill < 128 → ¬(b.cutNext ses i).holdDue →
    t.billing = { b.cutNext ses i with
      w := b.w + 1, flaggedMark := if i.flags.flagged then some b.w else b.flaggedMark }
    ∧ OtherCauses [.journalNew] u t
  begins : b.held = none → b.fill < 127 → (b.cutNext ses i).holdDue →
    t.attn.journalHalt = true
    ∧ t.billing = { (b.cutNext ses i).holdCut (ses.afterWritten i) (b.newInterval b.partTime b.meter) with
        nextSeq := b.nextSeq + 1 + 1
        w := b.w + 2
        flaggedMark := if (b.newInterval b.partTime b.meter).flags.flagged then some (b.w + 1)
          else if i.flags.flagged then some b.w else b.flaggedMark }
    ∧ (u.mem.wf = true → RecordAt t (b.w + 1) ((b.cutNext ses i).cutRecord (ses.afterWritten i)
        (b.newInterval b.partTime b.meter) .hold b.band))

/-- A record that is written with no hold to begin. -/
theorem State.enterRecord_notDue {r : Record} (hfill : b.fill < 128) (h : ¬b.holdDue) :
    ((u.withBilling b).enterRecord r).billing = { b with
      w := b.w + 1, flaggedMark := if r.flags.flagged then some b.w else b.flaggedMark }
    ∧ OtherCauses [.journalNew] u ((u.withBilling b).enterRecord r) := by
  rw [State.enterRecord_writes r hfill]
  · rw [State.journalWrite_billing]
    exact ⟨rfl, .of_put (c := .journalNew) (b := true) (by rw [State.journalWrite_attn]; rfl) (by simp)⟩
  · by_contra hnot
    simp only [State.withBilling_billing, not_or, Bool.not_eq_true, not_lt] at hnot
    exact h hnot

/-- A record whose write begins the hold, with the hold's own close of the open interval after it. -/
theorem State.enterRecord_holdCut {r : Record} (hfill : b.fill < 127) (h : b.holdDue)
    (hses : b.session = some ses) (hint : b.interval = some i) (hheld : b.held = none) :
    ((u.withBilling b).enterRecord r).billing = { b.holdCut ses i with
      nextSeq := b.nextSeq + 1
      w := b.w + 2
      flaggedMark := if i.flags.flagged then some (b.w + 1)
        else if r.flags.flagged then some b.w else b.flaggedMark }
    ∧ ((u.withBilling b).enterRecord r).attn.journalHalt = true := by
  rw [State.enterRecord_due (by omega) h]
  refine ⟨?_, State.beginHold_halts _⟩
  have hj := (u.withBilling b).journalWrite_billing r
  generalize (u.withBilling b).journalWrite r = j at hj
  have hfillj : j.billing.fill = b.fill + 1 :=
    Billing.fill_of_next (by rw [hj]; rfl) (by rw [hj]; rfl) (by omega)
  rw [State.beginHold_writes (ses := ses) (i := i) (by rw [hj]; exact hses) (by rw [hj]; exact hint)
    (by rw [hj]; exact hheld), State.placeRecord_writes _ (by
      show j.billing.fill < 128
      omega), State.journalWrite_billing]
  simp only [State.withBilling_billing, hj, Billing.holdCut, Billing.cutNext, BitVec.add_assoc]
  rfl

theorem tripClosed_closeInterval (hb : u.billing = b) (hses : b.session = some ses)
    (hint : b.interval = some i) : TripClosed u b ses i (u.closeInterval .trip b.band false) := by
  subst hb
  have hwrites (hheld : u.billing.held = none) : u.closeInterval .trip u.billing.band false =
      (u.withBilling (u.billing.cutNext ses i)).enterRecord (u.billing.cutRecord ses i .trip u.billing.band) :=
    State.closeIntervalBy_writes hses hint hheld (Bool.and_false _)
  exact
    { merged := fun hheld => by
        rw [State.closeInterval, State.closeIntervalBy_merges hses hint hheld]
        rfl
      held := fun hheld hfull hwf => by
        rw [hwrites hheld]
        exact kept128_enterRecord _ hwf hfull hheld
      stands := fun hheld hlt hwf => by
        rw [hwrites hheld]
        exact State.enterRecord_stands hwf hlt
      plain := fun hheld hlt hnot => by
        rw [hwrites hheld]
        exact State.enterRecord_notDue hlt hnot
      begins := fun hheld hlt hdue => by
        rw [hwrites hheld]
        obtain ⟨hbilling, hhalt⟩ := State.enterRecord_holdCut (u := u) (b := u.billing.cutNext ses i)
          (ses := ses.afterWritten i) (i := u.billing.newInterval u.billing.partTime u.billing.meter)
          (r := u.billing.cutRecord ses i .trip u.billing.band) hlt hdue rfl rfl hheld
        exact ⟨hhalt, hbilling, fun hwf => (heldCut_enterRecord (b := u.billing.cutNext ses i)
          (ses := ses.afterWritten i) (i := u.billing.newInterval u.billing.partTime u.billing.meter)
          hwf hlt hdue rfl rfl hheld).record⟩ }

end

end Sys2Proof.Machine
end

/-! # The monitor's queue drained, and PKON negated (R32, R149) -/

section
namespace Sys2Proof.Machine

/-! ## What a drain of the monitor's queue can do -/

theorem orderBlock_insulation {o : Order} (h : orderBlock o = some .insulation) :
    o = .checkInsulation ∨ ∃ r u w f k win, o = .setInsulation r u w f k win := by
  cases o with
  | checkInsulation => exact .inl rfl
  | setInsulation r u w f k win => exact .inr ⟨r, u, w, f, k, win, rfl⟩
  | _ => simp [orderBlock] at h

/-- Every order that waits for the monitor is one of its own. -/
def State.queuesMonitor (s : State) : Prop :=
  ∀ n ∈ s.queue .insulation, ∃ p, (s.slot n).posted = some p ∧ orderBlock p.order = some .insulation

theorem OrdersBut.queuesMonitor {l : Busy} {s : State} (h : OrdersBut l s) : s.queuesMonitor :=
  fun n hn => (h.queued .insulation n hn).2.1

/-- A property of the monitor and the power manager that the two orders of the monitor keep. -/
structure MonitorKept (I : State → Prop) : Prop where
  congr : ∀ {s t : State}, t.insulation = s.insulation → t.power = s.power → I s → I t
  check : ∀ {s : State} (n : SlotNo), I s → I (s.takeCheck n)
  settings : ∀ {s : State} (g : InsSettings), I s → I (s.applyInsulation g)

namespace MonitorKept

variable {I : State → Prop}

theorem answer (h : MonitorKept I) {s : State} (n : SlotNo) (rM uInj warn fault : Half) (k window : Byte)
    (hs : I s) : I (State.answer n (s.takeSetInsulation rM uInj warn fault k window)) := by
  refine h.congr (s := (s.takeSetInsulation rM uInj warn fault k window).2) (by simp [State.answer])
    (by simp [State.answer]) ?_
  unfold State.takeSetInsulation
  extract_lets g
  split
  · exact hs
  · exact h.settings g hs

theorem takeHead (h : MonitorKept I) {s : State} {n : SlotNo} {rest : List SlotNo} {p : Posted}
    (hp : (s.slot n).posted = some p) (hblock : orderBlock p.order = some .insulation) (hs : I s) :
    I (s.takeHead .insulation n rest)
      ∧ ∀ k, ((s.takeHead .insulation n rest).slot k).posted = (s.slot k).posted := by
  have hq : I (s.setQueue .insulation rest) := h.congr (s := s) rfl rfl hs
  have heq : s.takeHead .insulation n rest = (s.setQueue .insulation rest).takeOwned n p.order := by
    simp only [State.takeHead, hp]
  rw [heq]
  rcases orderBlock_insulation hblock with ho | ⟨r, u, w, f, k, win, ho⟩ <;> rw [ho]
  · refine ⟨h.check n hq, fun k => ?_⟩
    show (((s.setQueue .insulation rest).takeCheck n).slot k).posted = _
    unfold State.takeCheck
    split
    · exact State.finish_posted _ _ _ _
    · exact State.setSlotState_posted _ _ _ _
    · exact State.setSlotState_posted _ _ _ _
  · refine ⟨h.answer n r u w f k win hq, fun j => ?_⟩
    show ((State.answer n ((s.setQueue .insulation rest).takeSetInsulation r u w f k win)).slot j).posted = _
    rw [State.answer, State.finish_posted]
    unfold State.takeSetInsulation
    extract_lets g
    split
    · rfl
    · exact congrArg Slot.posted (State.slot_congr (State.applyInsulation_orders _ _) j)

theorem drainUpTo (h : MonitorKept I) {fuel : Nat} {s : State} (hqueue : s.queuesMonitor) (hs : I s) :
    I (State.drainUpTo .insulation fuel s) := by
  induction fuel generalizing s with
  | zero => exact hs
  | succ fuel ih =>
    unfold State.drainUpTo
    split
    next => exact hs
    next n rest hq =>
      split
      next => exact hs
      next =>
        obtain ⟨p, hp, hblock⟩ := hqueue n (by rw [hq]; exact List.mem_cons_self)
        obtain ⟨hnext, hposted⟩ := h.takeHead (rest := rest) hp hblock hs
        refine ih (fun k hk => ?_) hnext
        rw [State.takeHead_queue] at hk
        rw [hposted]
        exact hqueue k (by rw [hq]; exact List.mem_cons_of_mem _ hk)

theorem drain (h : MonitorKept I) {s : State} (hqueue : s.queuesMonitor) (hs : I s) :
    I (s.drain .insulation) := h.drainUpTo hqueue hs

end MonitorKept

/-! ## The monitor in IDLE (R149) -/

/-- The monitor in IDLE, with the drives down. -/
structure InIdle (last : Option LastResult) (s : State) : Prop where
  state : s.insulation.state = .idle
  condition : s.insulation.condition = .unknown
  fresh : s.insulation.fresh = false
  half : s.insulation.half = none
  check : s.insulation.check = none
  last : s.insulation.last = last
  iDem : s.power.iDem = 0
  need : s.power.need = false

theorem inIdle_kept (last : Option LastResult) : MonitorKept (InIdle last) where
  congr hi hp h := by
    obtain ⟨h1, h2, h3, h4, h5, h6, h7, h8⟩ := h
    constructor <;> simp_all
  check {s} n h := by
    have heq : s.takeCheck n = s.finish n ⟨.ended, endHvDown, s.insulation.checkNoResult⟩ := by
      rw [State.takeCheck, h.state]
    obtain ⟨h1, h2, h3, h4, h5, h6, h7, h8⟩ := h
    rw [heq]
    exact ⟨h1, h2, h3, h4, h5, h6, h7, h8⟩
  settings {s} g h := by
    have hstill : s.insulation.restarts g = false := by simp [Insulation.restarts, h.state]
    have hstale : ({ s.insulation with settings := g } : Insulation).freshNow = false := by
      unfold Insulation.freshNow
      split
      next => rw [show ({ s.insulation with settings := g } : Insulation).condition = .unknown from h.condition]; rfl
      next => rfl
    have heq : s.applyInsulation g = s.withInsulation { s.insulation with settings := g, fresh := false } := by
      simp only [State.applyInsulation, hstill, Bool.false_eq_true, if_false, State.withInsulation_insulation,
        hstale]
      exact State.failGateIf_kept _ (.inl h.fresh)
    obtain ⟨h1, h2, h3, h4, h5, h6, h7, h8⟩ := h
    rw [heq]
    exact ⟨h1, h2, rfl, h4, h5, h6, h7, h8⟩

/-! ## PKON negated (R111, R112, R149) -/

/-- PKON negated, before a running check ends. -/
def State.idled (s : State) : State :=
  let u := (s.withPins { s.pins with pkon := false }).failGate
  ((u.withInsulation { u.insulation.discard with
    state := .idle, condition := .unknown, streak := 0, fresh := false }).reportWarn
      u.insulation.condition .unknown).failGateIf u.insulation.fresh false

theorem State.pkonDrops_eq (s : State) : s.pkonDrops =
    (s.idled.endCheck ⟨.ended, endHvDown, s.idled.insulation.checkNoResult⟩).afterCheck s.insulation := rfl

theorem State.reportWarn_unknown (s : State) (c : Condition) : (s.reportWarn c .unknown).attn =
    if c.warns then s.attn.put .insulationWarn false else s.attn := by
  cases c <;> rfl

/-- What PKON negated does before a running check ends. -/
structure Idled (s t : State) : Prop where
  same : SameBut [.pins, .power, .relay, .insulation, .attn] s t
  pins : t.pins = { s.pins with pkon := false }
  iDem : t.power.iDem = 0
  need : t.power.need = false
  charge : t.power.charge.map (·.slot) = s.power.charge.map (·.slot)
  insulation : t.insulation = { s.insulation.discard with
    state := .idle, condition := .unknown, streak := 0, fresh := false }
  attn : t.attn = if s.insulation.condition.warns then s.attn.put .insulationWarn false else s.attn

theorem idled_idled (s : State) : Idled s s.idled := by
  obtain ⟨f, -, hmonitor⟩ := (s.withPins { s.pins with pkon := false }).failGate_insulation
  let u := (s.withPins { s.pins with pkon := false }).failGate
  have hdown : u.power.iDem = 0 ∧ u.power.need = false
      ∧ u.power.charge.map (·.slot) = s.power.charge.map (·.slot) := by
    simp [u, State.failGate_power, Power.gateCharge, Function.comp_def]
  have hdiscard : u.insulation.discard = s.insulation.discard := by
    rw [hmonitor]
    rfl
  have hcondition : u.insulation.condition = s.insulation.condition := by
    rw [hmonitor]
    rfl
  let x := (u.withInsulation { u.insulation.discard with
    state := .idle, condition := .unknown, streak := 0, fresh := false }).reportWarn
      u.insulation.condition .unknown
  have hidled : s.idled = x.failGateIf u.insulation.fresh false := rfl
  obtain ⟨g, -, hlast⟩ := x.failGateIf_insulation u.insulation.fresh false
  have hpower : (x.failGateIf u.insulation.fresh false).power.iDem = 0
      ∧ (x.failGateIf u.insulation.fresh false).power.need = false
      ∧ (x.failGateIf u.insulation.fresh false).power.charge.map (·.slot)
        = s.power.charge.map (·.slot) := by
    obtain ⟨hdem, hneed, hcharge⟩ := hdown
    unfold State.failGateIf
    split
    · refine ⟨by simp [State.failGate_power], by simp [State.failGate_power], ?_⟩
      rw [← hcharge]
      simp [x, State.failGate_power, Power.gateCharge, Function.comp_def]
    · rw [show x.power = u.power by simp [x]]
      exact ⟨hdem, hneed, hcharge⟩
  rw [hidled]
  exact
    { same := by simp [sameBut_iff, x, u]
      pins := by simp [x, u]
      iDem := hpower.1
      need := hpower.2.1
      charge := hpower.2.2
      insulation := by
        rw [hlast]
        simp only [x, State.reportWarn_insulation, State.withInsulation_insulation, hdiscard]
        rfl
      attn := by
        rw [State.failGateIf_attn]
        simp only [x, hcondition, State.reportWarn_unknown]
        simp [u] }

/-- The engine's agreement up to the end of the check. -/
theorem OrdersBut.idled {l : Busy} {s : State} (h : OrdersBut l s) : OrdersBut l s.idled := by
  have hi := idled_idled s
  refine h.parts (hi.same .mem (by simp)) (hi.same .link (by simp)) (hi.same .orders (by simp))
    hi.charge (by rw [hi.same .heating (by simp)]) ?_ (by rw [hi.same .billing (by simp)])
  rw [hi.insulation]
  rfl

theorem Idled.inIdle {s t : State} (h : Idled s t) (e : Ending) :
    InIdle s.insulation.last (t.endCheck e) := by
  have hp : (t.endCheck e).power = t.power := by simp
  constructor <;> simp [State.endCheck_insulation, h.insulation, h.iDem, h.need, Insulation.discard]

end Sys2Proof.Machine
end

/-! # The edges of PMRDY, PMFLT and PKON (O52) -/

section
namespace Sys2Proof.Machine

theorem State.billingOpened_eq (s : State) (b : Billing)
    (hb : b = match s.billing.close with
      | some ⟨n, .awaitRelay⟩ =>
          if s.relay.state = .opened
              ∨ (s.relay.state = .closing ∨ s.relay.state = .closed ∨ s.relay.state = .currentWait)
                ∧ s.pins.infb = false then
            { s.billing with close := some ⟨n, .awaitHeld⟩ } else s.billing
      | _ => s.billing) : s.billingOpened = b := by
  subst hb
  unfold State.billingOpened
  by_cases hopens : s.opensAtOnce
  · rw [if_pos hopens]
    split
    next n h => exact (Billing.passed_waiting h).trans (if_pos hopens).symm
    next h => exact Billing.passed_other fun n hn => h n hn
  · rw [if_neg hopens]
    split
    next n h => exact (if_neg hopens).symm
    next h => rfl

/-- The billing unit after an open request, but for its waiting close. -/
theorem State.billingOpened_close (s : State) :
    ∃ c, s.billingOpened = { s.billing with close := c } := by
  unfold State.billingOpened
  split
  · exact ⟨_, rfl⟩
  · exact ⟨s.billing.close, rfl⟩

/-- A report of MODULE, its close of the open interval included. -/
structure ModuleTripped (s t : State) : Prop where
  before : ∃ u, BeforeClose s .module u ∧ Entered u t
    ∧ (s.billing.session = none ∨ s.billing.interval = none → t = u)
    ∧ ∀ ses i, s.billing.session = some ses → s.billing.interval = some i →
      TripClosed u s.billingOpened ses i t
  tripped : Tripped s .module t

theorem moduleTripped_tripReport {s : State} (hnew : s.trips.set.module = false) :
    ModuleTripped s (s.tripReport .module) := by
  refine ⟨?_, tripped_tripReport hnew⟩
  obtain ⟨u, hu⟩ := beforeClose_of_skips (s := s) (k := .module) rfl hnew
  obtain ⟨c, hc⟩ := s.billingOpened_close
  refine ⟨u, hu, ?_, fun hclosed => ?_, fun ses i hses hint => ?_⟩ <;> rw [hu.report]
  · exact entered_closeInterval _ _ _ _
  · exact State.closeIntervalBy_closed (by rw [hu.billing, hc]; exact hclosed)
  · rw [hu.billing]
    exact tripClosed_closeInterval hu.billing (by rw [hc]; exact hses) (by rw [hc]; exact hint)

/-- Every part of the unit that a report of MODULE can change. -/
theorem ModuleTripped.same {s t : State} (h : ModuleTripped s t) :
    SameBut [.mem, .attn, .orders, .billing, .power, .heating, .insulation, .relay, .trips] s t
      ∧ OtherCauses [.trip, .orderDone, .planEvent, .journalNew, .journalHalt] s t
      ∧ ReadsSameBut (fun a => s.chargeAt a ∨ s.planAt a
          ∨ (s.billing.interval.isSome = true ∧ (journalHeader a ∨ recordBytes s.billing.w a
            ∨ recordBytes (s.billing.w + 1) a))) s t := by
  obtain ⟨u, hu, he, hnone, -⟩ := h.before
  obtain ⟨c, hc⟩ := s.billingOpened_close
  refine ⟨hu.same.trans (he.same.mono (by simp)), (hu.causes.mono (by simp)).trans (he.causes.mono (by simp)),
    (hu.reads.mono fun a ha => by tauto).trans fun a ha => ?_⟩
  cases hint : s.billing.interval with
  | none => rw [hnone (.inr hint)]
  | some i =>
    refine he.reads a fun hbytes => ha (.inr (.inr ⟨by rw [hint]; rfl, ?_⟩))
    rw [hu.billing, hc] at hbytes
    exact hbytes

theorem ModuleTripped.charge {s t : State} (h : ModuleTripped s t) {c : Charge}
    (hc : s.power.charge = some c) (hother : ∀ p, s.heating.plan = some p → p.slot ≠ c.slot)
    (hwf : s.mem.wf = true) : EndStands s c.slot (c.tripEnding 0) t := by
  obtain ⟨u, hu, he, -, -⟩ := h.before
  exact (hu.charge c hc hother hwf).entered he

theorem ModuleTripped.plan {s t : State} (h : ModuleTripped s t) {p : Plan}
    (hp : s.heating.plan = some p) : t.attn.planEvent = true ∧ (s.mem.wf = true →
      (t.slot p.slot).state = .done ∧ t.mem.read (slotAddr p.slot + 32) = OrderOutcome.tripped.code
      ∧ ((∀ c, s.power.charge = some c → c.slot ≠ p.slot) →
        EndStands s p.slot (p.tripEnding s.heating.tMin) t)) := by
  obtain ⟨u, hu, he, -, -⟩ := h.before
  refine ⟨(he.causes.2 .planEvent (by simp)).trans (hu.event p hp), fun hwf => ?_⟩
  obtain ⟨hstate, hout, hend⟩ := hu.plan p hp hwf
  refine ⟨?_, ?_, fun hother => (hend hother).entered he⟩
  · rw [State.slot_congr (he.same .orders (by simp))]
    exact hstate
  · refine (he.reads _ ?_).trans hout
    have := engineBytes_bound (n := p.slot) (a := slotAddr p.slot + 32) (.inr (by omega))
    rintro (hh | hr | hr)
    · have := journalHeader_bound hh
      omega
    · have := recordBytes_bounds hr
      omega
    · have := recordBytes_bounds hr
      omega

/-- PKON negated without a running check: IDLE. -/
theorem State.pkonDrops_alone {s : State} (h : s.insulation.check = none) : s.pkonDrops = s.idled := by
  rw [State.pkonDrops_eq, State.endCheck_of_none, State.afterCheck, h]
  · rfl
  · rw [(idled_idled s).insulation]
    exact h

/-- PKON negated while a check runs: it ends HV_DOWN and the queue drains. -/
theorem State.pkonDrops_check {s : State} {ck : Check} (h : s.insulation.check = some ck) :
    s.pkonDrops =
      (s.idled.endCheck ⟨.ended, endHvDown, s.idled.insulation.checkNoResult⟩).drain .insulation := by
  rw [State.pkonDrops_eq]
  exact State.afterCheck_of_ended (by rw [h]; rfl) (by rw [State.endCheck_insulation])

theorem idled_check {s : State} {ck : Check} (h : s.insulation.check = some ck) :
    s.idled.insulation.check = some ck := by
  rw [(idled_idled s).insulation]
  exact h

/-- PKON negated without an order that waits for the monitor. -/
theorem State.pkonDrops_quiet {s : State} (h : s.insulation.check = none ∨ s.queue .insulation = []) :
    s.pkonDrops = s.idled.endCheck ⟨.ended, endHvDown, s.idled.insulation.checkNoResult⟩ := by
  cases hck : s.insulation.check with
  | none =>
    rw [State.pkonDrops_alone hck, State.endCheck_of_none]
    rw [(idled_idled s).insulation]
    exact hck
  | some ck =>
    have hqueue : s.queue .insulation = [] := h.resolve_left (by simp [hck])
    rw [State.pkonDrops_check hck]
    refine State.drain_of_empty ?_
    have horders : s.idled.orders = s.orders := (idled_idled s).same .orders (by simp)
    rw [State.endCheck_of_some _ (idled_check hck), State.queue_congr (State.finish_queues _ _ _), ← hqueue]
    exact State.queue_congr (congrArg Orders.queues horders) _

theorem State.relayOpened_drops (s : State) : (s.relayOpened false).state.inrly = false := by
  unfold State.relayOpened
  split
  · split <;> rfl
  next hnot =>
    simp only [not_or] at hnot
    obtain ⟨h1, h2, h3⟩ := hnot
    cases hstate : s.relay.state with
    | closing => exact absurd hstate h1
    | closed => exact absurd hstate h2
    | currentWait => exact absurd hstate h3
    | opened => rfl
    | release => rfl
    | stuck => rfl

/-- Settles O52. -/
theorem pinEdgesActAtOnce : Obligations.PinEdgesActAtOnce := by
  intro s need driven opens relay b
  refine ⟨rfl, fun hlow => ?_, fun hhigh => ?_, rfl, fun hhigh => congrArg Host.Outcome.next (if_pos hhigh),
    fun hlow hagain => ?_, fun hlow hnew => ?_, fun hhigh => congrArg Host.Outcome.next (if_pos hhigh),
    fun hlow => ?_, fun hlow => congrArg Host.Outcome.next (if_neg (by simp [hlow])), fun hhigh hquiet => ?_,
    fun ck horders hhigh hck => ?_⟩
  · refine congrArg Host.Outcome.next ((State.failGateIf_kept _ (.inl hlow)).trans ?_)
    rw [← hlow]
    rfl
  · let u := s.withPins { s.pins with pmrdy := false }
    have hfail : exec .pmrdyNegated s = .next u.failGate :=
      congrArg Host.Outcome.next (State.failGateIf_failed _ hhigh rfl)
    refine ⟨_, hfail, by simp [u], by simp [State.failGate_power], by simp [State.failGate_power],
      by simp [State.failGate_power], by simp [State.failGate_power, u], drivesOnly_failGate u, ?_⟩
    simp [sameBut_iff, u]
  · refine congrArg Host.Outcome.next ((if_neg (by simp [hlow])).trans ?_)
    exact State.tripReport_again _ .module hagain
  · let s1 := s.withPins { s.pins with pmflt := true }
    have hb : s1.billingOpened = b := State.billingOpened_eq s1 b rfl
    have hexec : exec .pmfltAsserted s = .next (s1.tripReport .module) :=
      congrArg Host.Outcome.next (if_neg (by simp [hlow]))
    have hm : ModuleTripped s1 (s1.tripReport .module) := moduleTripped_tripReport hnew
    generalize s1.tripReport .module = t at hm hexec
    have ht := hm.tripped
    obtain ⟨hsame, hcauses, hreads⟩ := hm.same
    have hpins : SameBut [.pins] s s1 := by simp [sameBut_iff, s1]
    have hset : s1.trips.set = s.trips.set := rfl
    obtain ⟨u, hu, he, hclosed, hcut⟩ := hm.before
    have hrelay : t.relay = relay := by
      rw [ht.relay, (opened_tripOpened (s := s1) (k := .module) rfl).relay]
      rfl
    refine ⟨t, hexec, ht.pins, by rw [ht.trips]; rfl, ht.iDem, ht.duty, ht.supplyFed, ht.packFed, ht.charge,
      ht.plan, fun hempty => ⟨?_, ?_, ht.need hempty, ?_⟩, fun hfull => ⟨?_, ?_⟩, hrelay,
      (hpins.mono (by simp)).trans (hsame.mono (by simp)), hcauses, fun _ => ?_, fun c hc hother hwf => ?_,
      fun pl hpl => ?_, fun hnone => ?_, fun ses i hses hint => ?_⟩
    · exact (congrArg Trips.first ht.trips).trans (if_pos hempty)
    · rw [ht.attnTrip, show s1.trips.set.isEmpty = true from hempty, Bool.true_or]
    · rw [State.inrlyPin, ht.relay, (opened_tripOpened (s := s1) (k := .module) rfl).relay, hset, hempty,
        Bool.not_true, Bool.and_false]
      exact s1.relayOpened_drops
    · exact (congrArg Trips.first ht.trips).trans (if_neg (by rw [hset, hfull]; simp))
    · rw [ht.attnTrip, show s1.trips.set.isEmpty = false from hfull, Bool.false_or]
      rfl
    · refine hreads.mono fun a ha => ?_
      exact ha
    · have hend := hm.charge (c := c) hc hother hwf
      exact ⟨hend.state, hend.outcome, hend.ended⟩
    · obtain ⟨hevent, hplan⟩ := hm.plan (p := pl) hpl
      refine ⟨hevent, fun hwf => ?_⟩
      obtain ⟨hstate, hout, hend⟩ := hplan hwf
      exact ⟨hstate, hout, fun p hp hother => (hend hother).ended p hp⟩
    · rw [hclosed hnone, hu.billing, hb]
    · intro r cut f next begins
      have hc := hcut ses i hses hint
      obtain ⟨c, hclose⟩ : ∃ c, s1.billingOpened = { s.billing with close := c } := s1.billingOpened_close
      rw [hb] at hc hclose
      clear_value b
      subst hclose
      have hmark : s.billing.nextSeq + 1 + 1 = s.billing.nextSeq + 2 := BitVec.add_assoc _ _ _
      refine ⟨fun hheld => ?_, fun hheld hfull hwf => ?_, fun hheld hlt hwf => ?_, fun hheld hlt hnot => ?_,
        fun hheld hlt hbegins => ?_⟩
      · rw [hc.merged hheld, Interval.merge_plain]
        rfl
      · have hk := hc.held hheld hfull (hu.wf hwf)
        exact ⟨hk.holds, hk.billing⟩
      · exact hc.stands hheld hlt (hu.wf hwf)
      · obtain ⟨hbilling, hnews⟩ := hc.plain hheld hlt hnot
        exact ⟨hbilling, (hu.causes.mono (by simp)).trans (hnews.mono (by simp))⟩
      · obtain ⟨hhalt, hbilling, hrecord⟩ := hc.begins hheld hlt hbegins
        rw [show ({ s.billing with close := c } : Billing).nextSeq + 1 + 1 = s.billing.nextSeq + 2 from hmark]
          at hbilling
        exact ⟨fun hwf => hrecord (hu.wf hwf), hhalt, hbilling⟩
  · exact ⟨_, congrArg Host.Outcome.next (if_neg (by simp [hlow])), by simp [sameBut_iff, State.enterWarmup,
      State.beginHalf], rfl, rfl⟩
  · have hi := idled_idled s
    let e : Ending := ⟨.ended, endHvDown, s.idled.insulation.checkNoResult⟩
    have hexec : exec .pkonNegated s = .next (s.idled.endCheck e) :=
      congrArg Host.Outcome.next ((if_pos hhigh).trans (State.pkonDrops_quiet hquiet))
    have hidle := hi.inIdle e
    have hmonitor : (s.idled.endCheck e).insulation = { s.insulation.discard with
        state := .idle, condition := .unknown, streak := 0, fresh := false, check := none } := by
      rw [State.endCheck_insulation, hi.insulation]
    have hwarn : (s.idled.endCheck e).attn.insulationWarn = s.idled.attn.insulationWarn := by
      cases hck : s.insulation.check with
      | none => rw [State.endCheck_of_none _ (by rw [hi.insulation]; exact hck)]
      | some ck =>
        rw [State.endCheck_of_some _ (idled_check hck), State.finish_attn]
        rfl
    refine ⟨_, hexec, ?_, hidle.iDem, hidle.need, hidle.state, hidle.condition, by rw [hmonitor], hidle.fresh,
      hidle.half, by rw [hmonitor]; rfl, by rw [hmonitor]; rfl, by rw [hmonitor]; rfl, hidle.check, hidle.last,
      fun hwarns => ?_, fun hck => ?_, fun ck hck hwf => ?_⟩
    · rw [State.endCheck_pins, hi.pins]
    · rw [hwarn, hi.attn, if_pos]
      · rfl
      · rcases hwarns with h | h <;> rw [h] <;> rfl
    · rw [State.endCheck_of_none _ (by rw [hi.insulation]; exact hck)]
      refine ⟨hi.same, ?_, by rw [hi.insulation]; rfl, by rw [hi.insulation]; rfl, by rw [hi.insulation]; rfl⟩
      cases hw : s.insulation.condition.warns with
      | true => exact .of_put (hi.attn.trans (if_pos hw)) (by simp)
      | false => exact .refl _ (hi.attn.trans (if_neg (by simp [hw])))
    · have hend := endStands_finish (s := s.idled) (v := s.idled.withInsulation { s.idled.insulation with
        check := none }) (n := ck.slot) e rfl (by
          show s.idled.mem.wf = true
          rw [hi.same .mem (by simp)]
          exact hwf)
      rw [State.endCheck_of_some _ (idled_check hck)]
      exact ⟨hend.state, hend.outcome, hend.note⟩
  · have hi := idled_idled s
    let e : Ending := ⟨.ended, endHvDown, s.idled.insulation.checkNoResult⟩
    let v := s.idled.endCheck e
    have hexec : exec .pkonNegated s = .next (v.drain .insulation) :=
      congrArg Host.Outcome.next ((if_pos hhigh).trans (State.pkonDrops_check hck))
    have hbut : OrdersBut .none s := (ordersShow_iff s).mp horders
    have hslots (k : SlotNo) : s.idled.slot k = s.slot k := State.slot_congr (hi.same .orders (by simp)) k
    obtain ⟨p, hp, hdone, hended, hposted⟩ :=
      checkEnds_drains (l := .none) (by simp [Busy.none]) hbut.idled (idled_check hck) e
    have hdrained : Drained .insulation s (v.drain .insulation) :=
      drained_of_ordersShow ((ordersShow_iff _).mpr hdone.orders)
        (fun k q hq => hposted k q (by rw [hslots]; exact hq)) (State.drain_done _ _)
    have hqueue : v.queuesMonitor := by
      have hends := hbut.idled.checkEnds e (idled_check hck)
      rw [← State.endCheck_of_some _ (idled_check hck)] at hends
      exact hends.queuesMonitor
    have hidle := (inIdle_kept s.insulation.last).drain hqueue (hi.inIdle e)
    have hempty : (v.drain .insulation).queue .insulation = [] := by
      refine (State.drain_done v .insulation).resolve_right ?_
      rw [State.occupied, hidle.check]
      simp
    have hout := endStands_finish (s := s.idled) (v := s.idled.withInsulation { s.idled.insulation with
        check := none }) (n := ck.slot) e rfl (by
          show s.idled.mem.wf = true
          rw [hi.same .mem (by simp)]
          exact hbut.wf)
    have hread (j : Nat) (hj : j < 32) : (v.drain .insulation).mem.read (slotAddr ck.slot + 32 + j) =
        v.mem.read (slotAddr ck.slot + 32 + j) := hdone.reads _ (.inr (by omega))
    have hv : v = (s.idled.withInsulation { s.idled.insulation with check := none }).finish ck.slot e :=
      State.endCheck_of_some _ (idled_check hck)
    refine ⟨_, hexec, hdrained, hempty, ?_, hidle.iDem, hidle.need, hidle.state, hidle.condition, hidle.fresh,
      hidle.half, hidle.check, hidle.last, by rw [hdone.slot], ?_, ?_⟩
    · rw [State.drain_pins, State.endCheck_pins, hi.pins]
    · rw [hread 0 (by omega), hv]
      exact hout.outcome
    · rw [hread 1 (by omega), hv]
      exact hout.note

end Sys2Proof.Machine
end

/-! # WITHDRAW (O27) -/

section
namespace Sys2Proof.Machine

/-! ## The target's end and the WITHDRAW's own -/

/-- A state in which the target has ended and the WITHDRAW has still to report. -/
structure TargetEnded (s : State) (n : SlotNo) (own : Posted) (k : SlotNo) (p : Posted) (e : Ending)
    (v : State) : Prop where
  target : Ended v k p e
  own : (v.slot n).posted = some own
  wf : v.mem.wf = true

theorem TargetEnded.both {s v : State} {n k : SlotNo} {own p : Posted} {e : Ending}
    (h : TargetEnded s n own k p e v) (hk : k ≠ n) (e' : Ending) :
    Ended (v.finish n e') k p e ∧ Ended (v.finish n e') n own e' := by
  refine ⟨h.target.keep (State.slot_finish_other _ _ hk) (fun a ha => ?_) ?_, ended_finish e' h.own h.wf⟩
  · exact State.finish_read_other _ _ _ (not_engineBytes_of_ne hk ha)
  · rw [State.finish_attn]
    rfl

section
variable {s w : State} {n k : SlotNo} {own p : Posted} {e : Ending}

/-- The end of a target, from the state of a WITHDRAW's post with the engine and memory untouched but
for the queues. -/
theorem targetEnded_finish (hk : k ≠ n) (hwf : s.mem.wf = true) (hp : (s.slot k).posted = some p)
    (hslots : ∀ x, w.slot x = (s.copyPost n own).slot x) (hmem : w.mem = (s.copyPost n own).mem) :
    TargetEnded s n own k p e (w.finish k e) := by
  have hwf' : w.mem.wf = true := by
    rw [hmem]
    exact State.copyPost_wf s n own hwf
  refine ⟨ended_finish e ?_ hwf', ?_, State.finish_wf _ _ _ hwf'⟩
  · rw [hslots, State.copyPost_slot_other _ _ hk, hp]
  · rw [State.finish_posted, hslots, State.copyPost_slot_same]

/-- The slots and bytes that a WITHDRAW and its target's end leave. -/
theorem targetEnded_frame (hslots : ∀ x, w.slot x = (s.copyPost n own).slot x)
    (hmem : w.mem = (s.copyPost n own).mem) (e' : Ending) :
    (∀ x, x ≠ n → x ≠ k → ((w.finish k e).finish n e').slot x = s.slot x)
      ∧ ReadsSameBut (fun a => engineBytes n a ∨ engineBytes k a) s ((w.finish k e).finish n e') := by
  refine ⟨fun x hn hk => ?_, fun a ha => ?_⟩
  · rw [State.slot_finish_other _ _ hn, State.slot_finish_other _ _ hk, hslots, State.copyPost_slot_other _ _ hn]
  · rw [State.finish_read_other _ _ _ fun h => ha (.inl h), State.finish_read_other _ _ _ fun h => ha (.inr h),
      hmem, State.copyPost_read_other _ _ _ fun h => ha (.inl h)]

end

/-! ## What a WITHDRAW finds (R38) -/

section
variable {s : State} {n k : SlotNo} {tag : Half} {target : Byte} {p : Posted}

/-- The state in which a WITHDRAW is taken. -/
abbrev State.withdrawing (s : State) (n : SlotNo) (tag : Half) (target : Byte) : State :=
  s.copyPost n ⟨tag, .withdraw target⟩

theorem exec_withdraw (h : TakesAtOnce s n .general) :
    exec (.withdraw n tag target) s = .next ((s.withdrawing n tag target).takeWithdraw n target) :=
  exec_takesAtOnce h (o := .withdraw target) rfl rfl

theorem State.withdrawing_slot (hk : k ≠ n) : (s.withdrawing n tag target).slot k = s.slot k :=
  State.copyPost_slot_other _ _ hk

theorem State.takeWithdraw_other {u : State} (ht : target.toNat = k.val) (hk : k ≠ n) :
    u.takeWithdraw n target = (u.withdrawTarget k).2.finish n
      ⟨(u.withdrawTarget k).1, noteNone,
        [target, reportedCode (u.withdrawTarget k).1 (u.slot k).code, (u.slot k).state.code]⟩ := by
  have hlt : target.toNat < 16 := ht ▸ k.isLt
  have hfin : (⟨target.toNat, hlt⟩ : SlotNo) = k := Fin.ext ht
  rw [State.takeWithdraw, dif_pos hlt]
  simp only [hfin]
  rw [if_neg hk]

/-- A WITHDRAW of another slot, by what it does to its target. -/
theorem exec_withdraw_other (h : TakesAtOnce s n .general) (ht : target.toNat = k.val) (hk : k ≠ n)
    {o : OrderOutcome} {v : State} (hv : (s.withdrawing n tag target).withdrawTarget k = (o, v)) :
    exec (.withdraw n tag target) s = .next (v.finish n
      ⟨o, noteNone, [target, reportedCode o (s.slot k).code, (s.slot k).state.code]⟩) := by
  rw [exec_withdraw h, State.takeWithdraw_other ht hk, hv, State.withdrawing_slot hk]

theorem State.withdrawTarget_waiting {u : State} (hstate : (u.slot k).state = .waiting)
    (hp : (u.slot k).posted = some p) :
    u.withdrawTarget k = (.ok, (u.unqueue k p.order).finish k (withdrawnEnding noteNone)) := by
  simp only [State.withdrawTarget, hstate, hp]

theorem State.withdrawTarget_running {u : State} (hstate : (u.slot k).state = .running)
    (hp : (u.slot k).posted = some p) : u.withdrawTarget k = u.withdrawRunning k p.order := by
  simp only [State.withdrawTarget, hstate, hp]

theorem State.withdrawTarget_none {u : State}
    (hstate : (u.slot k).state = .free ∨ (u.slot k).state = .done ∨ (u.slot k).state = .posted) :
    u.withdrawTarget k = (.notNow, u) := by
  rcases hstate with h | h | h <;> simp only [State.withdrawTarget, h]

theorem Slot.code_of_posted {r : Slot} (hp : r.posted = some p) : r.code = orderCode p.order := by
  rw [Slot.code, hp]

/-- The order of a code that a standing order has, for an order of the order table. -/
theorem order_of_code {o : Order} (hknown : orderBlock o ≠ none) :
    (orderCode o = 0x21 → ∃ m v e, o = .charge m v e)
      ∧ (orderCode o = 0x30 → ∃ a b c d e f g, o = .heat a b c d e f g)
      ∧ (orderCode o = 0x40 → o = .checkInsulation) := by
  cases o with
  | charge m v e => exact ⟨fun _ => ⟨m, v, e, rfl⟩, nofun, nofun⟩
  | heat a b c d e f g => exact ⟨nofun, fun _ => ⟨a, b, c, d, e, f, g, rfl⟩, nofun⟩
  | checkInsulation => exact ⟨nofun, nofun, fun _ => rfl⟩
  | unknown code => exact absurd rfl hknown
  | _ => exact ⟨nofun, nofun, nofun⟩

/-- A running order of any other kind is not withdrawable (R38). -/
theorem State.withdrawRunning_other {u : State} {o : Order} (h : orderCode o ∉ [0x21, 0x30, 0x40]) :
    u.withdrawRunning k o = (.notWithdrawable, u) := by
  cases o with
  | charge m v e => exact absurd (by simp [orderCode]) h
  | heat a b c d e f g => exact absurd (by simp [orderCode]) h
  | checkInsulation => exact absurd (by simp [orderCode]) h
  | _ => rfl

/-! ## The running targets -/

theorem State.withdrawCharge_of_some {u : State} {c : Charge} (h : u.power.charge = some c) :
    u.withdrawCharge k =
      u.dropCharge.finish k (withdrawnStanding 0x21 c.clamped (c.fields u.power.iDem)) := by
  simp only [State.withdrawCharge, h]

theorem State.withdrawHeat_of_some {u : State} {pl : Plan} (h : u.heating.plan = some pl) :
    u.withdrawHeat k = (u.dropPlan.finish k
      (withdrawnStanding 0x30 pl.clamped (pl.fields u.heating.tMin))).raise .planEvent := by
  simp only [State.withdrawHeat, h]

theorem State.withdrawCheck_of_some {u : State} {ck : Check} (h : u.insulation.check = some ck) :
    u.withdrawCheck = (u.endCheck (withdrawnEnding noteNone)).drain .insulation :=
  State.afterCheck_of_ended (by rw [h]; rfl) (by rw [State.endCheck_insulation])

end

/-- Settles O27. -/
theorem withdrawEndsTarget : Obligations.WithdrawEndsTarget := by
  intro s n tag target h c own
  have hwf := h.2.2.2
  let u := s.withdrawing n tag target
  have hself (e : Ending) : Ended (u.finish n e) n own e ∧ OrderFrame n [] s (u.finish n e) :=
    ⟨(afterCopy_self s n own).ended hwf e, (afterCopy_self s n own).frame _ (by simp) (by simp [sameBut_iff])⟩
  refine ⟨fun k p ht hk hp hknown => ⟨fun hstate b hb => ?_, fun ch hstate hcode hch => ?_,
      fun pl hstate hcode hpl => ?_, fun ck hstate hcode hck hslot hqueue => ?_, fun horders hstate hcode => ?_,
      fun hstate hcode => ?_⟩,
    fun k ht hk hstate => ?_, fun ht => ?_, fun ht => ?_⟩
  · let w := u.unqueue k p.order
    have hw : w = u.setQueue b ((u.queue b).filter fun x => x != k) := by simp only [w, State.unqueue, hb]
    have hv := State.withdrawTarget_waiting (u := u) (k := k) (p := p)
      (by rw [State.withdrawing_slot hk]; exact hstate) (by rw [State.withdrawing_slot hk]; exact hp)
    have hexec := exec_withdraw_other h ht hk hv
    rw [Slot.code_of_posted hp, hstate] at hexec
    have hslots' (x : SlotNo) : w.slot x = (s.copyPost n own).slot x := by rw [hw]; rfl
    have hmem : w.mem = (s.copyPost n own).mem := by rw [hw]; rfl
    obtain ⟨htarget, hown⟩ := (targetEnded_finish (e := withdrawnEnding noteNone) hk hwf hp hslots' hmem).both hk
      ⟨.ok, noteNone, [target, orderCode p.order, 0x02]⟩
    obtain ⟨hothers, hreads⟩ := targetEnded_frame (k := k) (e := withdrawnEnding noteNone) hslots' hmem
      ⟨.ok, noteNone, [target, orderCode p.order, 0x02]⟩
    have hqueues (b' : Block) : ((w.finish k (withdrawnEnding noteNone)).finish n
        ⟨.ok, noteNone, [target, orderCode p.order, 0x02]⟩).queue b' = w.queue b' := by
      rw [State.queue_congr (State.finish_queues _ _ _), State.queue_congr (State.finish_queues _ _ _)]
    have hsame : SameBut [.mem, .orders, .attn] s w := by
      rw [hw]
      simp [sameBut_iff, u]
    refine ⟨_, hexec, htarget, hown, ?_, fun b' hne => ?_, hothers, hreads, ?_, ?_⟩
    · refine (hqueues b).trans ?_
      rw [hw, State.queue_setQueue_same]
      rfl
    · refine (hqueues b').trans ?_
      rw [hw, State.queue_setQueue_other _ _ hne]
      rfl
    · exact ((otherCauses_finish (v := w) k _ (by rw [hw]; simp [u])).finish n _ (by simp))
    · exact (hsame.finish k _ (by simp) (by simp) (by simp)).finish n _ (by simp) (by simp) (by simp)
  · obtain ⟨m, v, e, ho⟩ := (order_of_code hknown).1 hcode
    have hch' : u.power.charge = some ch := by simpa [u] using hch
    have hv : u.withdrawTarget k = (.ok, u.withdrawCharge k) := by
      rw [State.withdrawTarget_running (by rw [State.withdrawing_slot hk]; exact hstate)
        (by rw [State.withdrawing_slot hk]; exact hp), ho]
      rfl
    rw [State.withdrawCharge_of_some hch'] at hv
    have hexec := exec_withdraw_other h ht hk hv
    rw [Slot.code_of_posted hp, hstate, hcode] at hexec
    have hidem : u.power.iDem = s.power.iDem := by simp [u]
    obtain ⟨htarget, hown⟩ := (targetEnded_finish (w := u.dropCharge)
      (e := withdrawnStanding 0x21 ch.clamped (ch.fields u.power.iDem)) hk hwf hp (fun x => rfl) rfl).both hk
      ⟨.ok, noteNone, [target, 0x21, 0x03]⟩
    rw [hidem] at htarget
    refine ⟨_, hexec, htarget, hown, ?_, ?_, ?_⟩
    · rw [State.finish_power, State.finish_power]
      simp [State.dropCharge, u]
    · exact (otherCauses_finish k _ (by simp [State.dropCharge, u])).finish n _ (by simp)
    · have hsame : SameBut [.mem, .orders, .attn, .power] s u.dropCharge := by
        simp [sameBut_iff, State.dropCharge, u]
      exact (hsame.finish k _ (by simp) (by simp) (by simp)).finish n _ (by simp) (by simp) (by simp)
  · obtain ⟨o1, o2, o3, o4, o5, o6, o7, ho⟩ := (order_of_code hknown).2.1 hcode
    have hpl' : u.heating.plan = some pl := by simpa [u] using hpl
    have hv : u.withdrawTarget k = (.ok, u.withdrawHeat k) := by
      rw [State.withdrawTarget_running (by rw [State.withdrawing_slot hk]; exact hstate)
        (by rw [State.withdrawing_slot hk]; exact hp), ho]
      rfl
    have hheating : u.heating = s.heating := by simp [u]
    rw [State.withdrawHeat_of_some hpl', hheating] at hv
    have hexec := exec_withdraw_other h ht hk hv
    rw [Slot.code_of_posted hp, hstate, hcode] at hexec
    let e := withdrawnStanding 0x30 pl.clamped (pl.fields s.heating.tMin)
    have hfinished := targetEnded_finish (w := u.dropPlan) (e := e) hk hwf hp (fun x => rfl) rfl
    have hraised : TargetEnded s n own k p e ((u.dropPlan.finish k e).raise .planEvent) :=
      ⟨hfinished.target.keep rfl (fun _ _ => rfl) hfinished.target.2.2.2, hfinished.own, hfinished.wf⟩
    obtain ⟨htarget, hown⟩ := hraised.both hk ⟨.ok, noteNone, [target, 0x30, 0x03]⟩
    refine ⟨_, hexec, htarget, hown, ?_, ?_, ?_, ?_⟩
    · rw [State.finish_heating, State.raise_heating, State.finish_heating]
      simp [State.dropPlan, hheating]
    · rw [State.finish_attn]
      rfl
    · refine OtherCauses.finish (OtherCauses.trans (t := u.dropPlan.finish k e) ?_ ?_) n _ (by simp)
      · exact (otherCauses_finish k e (by simp [State.dropPlan, u])).mono (by simp)
      · exact .of_put (c := .planEvent) (b := true) (by rw [State.raise_attn]) (by simp)
    · have hsame : SameBut [.mem, .orders, .attn, .heating] s u.dropPlan := by
        simp [sameBut_iff, State.dropPlan, u]
      refine SameBut.finish (SameBut.trans (hsame.finish k e (by simp) (by simp) (by simp)) ?_) n _ (by simp)
        (by simp) (by simp)
      simp [sameBut_iff]
  · have ho := (order_of_code hknown).2.2 hcode
    have hck' : u.insulation.check = some ck := by simpa [u] using hck
    have hv : u.withdrawTarget k = (.ok, u.withdrawCheck) := by
      rw [State.withdrawTarget_running (by rw [State.withdrawing_slot hk]; exact hstate)
        (by rw [State.withdrawing_slot hk]; exact hp), ho]
      rfl
    rw [State.withdrawCheck_of_some hck'] at hv
    let w := u.withInsulation { u.insulation with check := none }
    let e := withdrawnEnding noteNone
    have hends : (u.endCheck e).drain .insulation = w.finish k e := by
      rw [State.endCheck_of_some e hck', hslot]
      refine State.drain_of_empty ?_
      rw [State.queue_congr (State.finish_queues _ _ _)]
      exact hqueue
    rw [hends] at hv
    have hexec := exec_withdraw_other h ht hk hv
    rw [Slot.code_of_posted hp, hstate, hcode] at hexec
    obtain ⟨htarget, hown⟩ := (targetEnded_finish (w := w) (e := e) hk hwf hp (fun x => rfl) rfl).both hk
      ⟨.ok, noteNone, [target, 0x40, 0x03]⟩
    refine ⟨_, hexec, htarget, hown, ?_, ?_, ?_⟩
    · rw [State.finish_insulation, State.finish_insulation]
      simp [w, u]
    · exact (otherCauses_finish k _ (by simp [w, u])).finish n _ (by simp)
    · have hsame : SameBut [.mem, .orders, .attn, .insulation] s w := by simp [sameBut_iff, w, u]
      exact (hsame.finish k _ (by simp) (by simp) (by simp)).finish n _ (by simp) (by simp) (by simp)
  · have ho := (order_of_code hknown).2.2 hcode
    have hbut : OrdersBut .none s := (ordersShow_iff s).mp horders
    obtain ⟨ck, hck, hslot⟩ : ∃ ck, s.insulation.check = some ck ∧ ck.slot = k := by
      have hruns : s.runningSlot .check = some k :=
        (hbut.runner .check k).mpr ⟨hstate, p, hp, by rw [ho]; rfl⟩
      exact Option.map_eq_some_iff.mp hruns
    have hck' : u.insulation.check = some ck := by simpa [u] using hck
    have hv : u.withdrawTarget k = (.ok, u.withdrawCheck) := by
      rw [State.withdrawTarget_running (by rw [State.withdrawing_slot hk]; exact hstate)
        (by rw [State.withdrawing_slot hk]; exact hp), ho]
      rfl
    rw [State.withdrawCheck_of_some hck'] at hv
    have hexec := exec_withdraw_other h ht hk hv
    rw [Slot.code_of_posted hp, hstate, hcode] at hexec
    let e := withdrawnEnding noteNone
    let e' : Ending := ⟨.ok, noteNone, [target, 0x40, 0x03]⟩
    have hposting : OrdersBut (Busy.none.take n (.withdraw target)) u :=
      hbut.postTaken own (.inl rfl) h.1 fun b hb => by
        obtain rfl : Block.general = b := Option.some.inj hb
        exact h.2.1
    obtain ⟨q, hq, hdone, hended, hposted⟩ :=
      checkEnds_drains (l := Busy.none.take n (.withdraw target)) (by simp [Busy.take, Busy.none, orderBlock])
        hposting hck' e
    rw [hslot] at hq hdone hended
    obtain rfl : p = q := by
      rw [State.withdrawing_slot hk, hp] at hq
      exact Option.some.inj hq
    let v := (u.endCheck e).drain .insulation
    have hown : (v.slot n).posted = some own := hposted n own (by rw [State.copyPost_slot_same])
    have hlast : OrdersBut .none (v.finish n e') := hdone.orders.finish e'
    refine ⟨_, hexec, ?_, ended_finish e' hown hdone.orders.wf, ?_⟩
    · refine hended.keep ?_ (fun a ha => ?_) (by rw [State.finish_attn]; rfl)
      · rw [State.slot_finish_other _ _ hk, hdone.slot, hended.1]
      · rw [State.finish_read_other _ _ _ (not_engineBytes_of_ne hk ha)]
        exact hdone.reads a ha
    · refine drained_of_ordersShow ((ordersShow_iff _).mpr hlast) (fun j r hr => ?_) ?_
      · have hj : j ≠ n := by
          rintro rfl
          rw [(hbut.free j).mp h.1] at hr
          cases hr
        rw [State.finish_posted]
        exact hposted j r (by rw [State.withdrawing_slot hj]; exact hr)
      · show (v.finish n e').queue .insulation = [] ∨ (v.finish n e').occupied .insulation = true
        rw [State.queue_congr (State.finish_queues v n e')]
        have hocc : (v.finish n e').occupied .insulation = v.occupied .insulation := by simp [State.occupied]
        rw [hocc]
        exact State.drain_done (u.endCheck e) .insulation
  · have hv : u.withdrawTarget k = (.notWithdrawable, u) := by
      rw [State.withdrawTarget_running (by rw [State.withdrawing_slot hk]; exact hstate)
        (by rw [State.withdrawing_slot hk]; exact hp), State.withdrawRunning_other hcode]
    have hexec := exec_withdraw_other h ht hk hv
    rw [Slot.code_of_posted hp, hstate] at hexec
    exact ⟨_, hexec, hself _⟩
  · have hv := State.withdrawTarget_none (u := u) (by rw [State.withdrawing_slot hk]; exact hstate)
    exact ⟨_, exec_withdraw_other h ht hk hv, hself _⟩
  · have hlt : target.toNat < 16 := ht ▸ n.isLt
    have hfin : (⟨target.toNat, hlt⟩ : SlotNo) = n := Fin.ext ht
    refine ⟨_, (exec_withdraw h).trans (congrArg Host.Outcome.next ((dif_pos hlt).trans ?_)), hself _⟩
    simp only [hfin, if_true]
    rw [State.copyPost_slot_same]
    rfl
  · exact ⟨_, (exec_withdraw h).trans (congrArg Host.Outcome.next (dif_neg (by omega))), hself _⟩

end Sys2Proof.Machine
end

/-! # The temperature scan (O53) -/

section
namespace Sys2Proof.Machine

/-! ## The included channels (R131) -/

theorem Sensor.reading_eq_some {r : Sensor} {x : Int} : r.reading = some x ↔ r = .valid x := by
  cases r <;> simp [Sensor.reading]

theorem Heating.mem_included {h : Heating} {x : Int} : x ∈ h.included ↔
    ∃ k : Fin 8, h.mask.getLsbD k.val = false ∧ h.pack[k] = .valid x := by
  simp only [Heating.included, List.mem_filterMap, List.mem_finRange, true_and]
  refine exists_congr fun k => ?_
  cases hmask : h.mask.getLsbD k.val <;> simp [Sensor.reading_eq_some]

theorem Heating.tMin_eq_some {h : Heating} {x : Int} :
    h.tMin = some x ↔ x ∈ h.included ∧ ∀ y ∈ h.included, x ≤ y := List.min?_eq_some_iff

theorem Heating.tMax_eq_some {h : Heating} {x : Int} :
    h.tMax = some x ↔ x ∈ h.included ∧ ∀ y ∈ h.included, y ≤ x := List.max?_eq_some_iff

/-! ## Trips on a condition (R135, R178) -/

/-- A report leaves the table and its limits, and ends the plan or keeps it. -/
theorem State.tripReport_heating (s : State) (k : TripKind) :
    ∃ plan, (s.tripReport k).heating = { s.heating with plan := plan } := by
  cases hnew : s.trips.set.has k with
  | true => exact ⟨s.heating.plan, by rw [State.tripReport_again s k hnew]⟩
  | false =>
    refine ⟨none, ?_⟩
    let u := (s.tripOpened k).tripCharge.tripPlan
    have heq : s.tripReport k = (u.closeInterval .trip u.billing.band false).weldPasses k :=
      State.tripReport_of_new hnew
    have hsame : (s.tripLatched k).heating = s.heating := (latched_tripLatched s k).same .heating (by simp)
    rw [heq, State.weldPasses_heating, State.closeInterval_heating, State.tripPlan_heating,
      State.tripCharge_heating, State.tripOpened, State.openRequest_heating, hsame]

theorem State.tripReport_has (s : State) (k : TripKind) : (s.tripReport k).trips.set.has k = true := by
  rw [State.tripReport_set]
  split
  next h => exact h
  next => cases k <;> rfl

theorem State.tripReport_keeps (s : State) {k j : TripKind} (h : s.trips.set.has j = true) :
    (s.tripReport k).trips.set.has j = true := by
  rw [State.tripReport_set]
  split
  next => exact h
  next => cases k <;> cases j <;> first | exact h | rfl

theorem State.tripReport_noDuty {s : State} (k : TripKind) (h : s.power.duty = 0) :
    (s.tripReport k).power.duty = 0 := by
  cases hnew : s.trips.set.has k with
  | true => rw [State.tripReport_again s k hnew, h]
  | false => exact (tripped_tripReport hnew).duty

/-- The drives down and the standing orders ended. -/
structure TripDown (t : State) : Prop where
  iDem : t.power.iDem = 0
  duty : t.power.duty = 0
  plan : t.heating.plan = none
  charge : t.power.charge = none

theorem tripDown_of_new {s : State} {k : TripKind} (hnew : s.trips.set.has k = false) :
    TripDown (s.tripReport k) :=
  have h := tripped_tripReport hnew
  ⟨h.iDem, h.duty, h.plan, h.charge⟩

theorem TripDown.tripReport {s : State} (h : TripDown s) (k : TripKind) : TripDown (s.tripReport k) := by
  cases hnew : s.trips.set.has k with
  | true =>
    rw [State.tripReport_again s k hnew]
    exact h
  | false => exact tripDown_of_new hnew

theorem State.tripIf_cases (s : State) (c : Bool) (k : TripKind) :
    c = true ∧ s.tripIf c k = s.tripReport k ∨ c = false ∧ s.tripIf c k = s := by
  cases c with
  | true => exact .inl ⟨rfl, rfl⟩
  | false => exact .inr ⟨rfl, rfl⟩

/-! ## The overtemperature counts (R135) -/

/-- A pack count that reaches 2. -/
def Heating.packTrips (h : Heating) : Bool := overCount h.packCount h.packHot == 2 && h.packCount != 2

/-- A plate count that reaches 2. -/
def Heating.plateTrips (h : Heating) : Bool := overCount h.plateCount h.plateHot == 2 && h.plateCount != 2

/-- The table with the counts stepped. -/
def Heating.counted (h : Heating) : Heating :=
  { h with packCount := overCount h.packCount h.packHot, plateCount := overCount h.plateCount h.plateHot }

theorem State.stepCounts_eq (s : State) : s.stepCounts =
    ((s.withHeating s.heating.counted).tripIf s.heating.packTrips .packOvertemp).tripIf
      s.heating.plateTrips .heaterOvertemp := rfl

/-- What stepping the counts leaves. -/
structure CountsStepped (s t : State) : Prop where
  heating : ∃ plan, t.heating = { s.heating.counted with plan := plan }
  duty : s.power.duty = 0 → t.power.duty = 0
  pack : s.heating.packTrips = true → t.trips.set.packOvertemp = true
  plate : s.heating.plateTrips = true → t.trips.set.heaterOvertemp = true
  quiet : s.heating.packTrips = false → s.heating.plateTrips = false → t = s.withHeating s.heating.counted
  empty : s.heating.packTrips = true ∨ s.heating.plateTrips = true → s.trips.set.isEmpty = true → TripDown t
  ended : s.heating.plan = none → t.heating.plan = none

theorem countsStepped_stepCounts (s : State) : CountsStepped s s.stepCounts := by
  let u := s.withHeating s.heating.counted
  let v := u.tripIf s.heating.packTrips .packOvertemp
  have heq : s.stepCounts = v.tripIf s.heating.plateTrips .heaterOvertemp := rfl
  have hplan (w : State) (k : TripKind) (h : w.heating.plan = none) : (w.tripReport k).heating.plan = none := by
    cases hnew : w.trips.set.has k with
    | true => rw [State.tripReport_again w k hnew, h]
    | false => exact (tripped_tripReport hnew).plan
  rw [heq]
  rcases u.tripIf_cases s.heating.packTrips .packOvertemp with ⟨hp, hv⟩ | ⟨hp, hv⟩ <;>
    rcases v.tripIf_cases s.heating.plateTrips .heaterOvertemp with ⟨hl, ht⟩ | ⟨hl, ht⟩ <;> rw [ht]
  · obtain ⟨p1, h1⟩ := u.tripReport_heating .packOvertemp
    obtain ⟨p2, h2⟩ := v.tripReport_heating .heaterOvertemp
    have hv' : v = u.tripReport .packOvertemp := hv
    refine ⟨⟨p2, by rw [h2, hv', h1]; rfl⟩, fun h => ?_, fun _ => ?_, fun _ => State.tripReport_has _ .heaterOvertemp,
      fun h => absurd (hp.symm.trans h) (by decide), fun _ hempty => ?_, fun h => hplan _ _ ?_⟩
    · exact State.tripReport_noDuty _ (by rw [hv']; exact State.tripReport_noDuty _ h)
    · exact State.tripReport_keeps v (j := .packOvertemp) (by rw [hv']; exact State.tripReport_has _ .packOvertemp)
    · exact TripDown.tripReport (by rw [hv']; exact tripDown_of_new (TripSet.has_of_empty hempty _)) _
    · rw [hv']
      exact hplan _ _ h
  · obtain ⟨p1, h1⟩ := u.tripReport_heating .packOvertemp
    rw [show v = u.tripReport .packOvertemp from hv]
    exact ⟨⟨p1, by rw [h1]; rfl⟩, fun h => State.tripReport_noDuty _ h, fun _ => State.tripReport_has _ .packOvertemp,
      fun h => absurd (hl.symm.trans h) (by decide), fun h => absurd (hp.symm.trans h) (by decide),
      fun _ hempty => tripDown_of_new (TripSet.has_of_empty hempty _), fun h => hplan _ _ h⟩
  · obtain ⟨p2, h2⟩ := v.tripReport_heating .heaterOvertemp
    have hv' : v = u := hv
    rw [hv'] at h2 ⊢
    exact ⟨⟨p2, by rw [h2]; rfl⟩, fun h => State.tripReport_noDuty _ h,
      fun h => absurd (hp.symm.trans h) (by decide), fun _ => State.tripReport_has _ .heaterOvertemp,
      fun _ h => absurd (hl.symm.trans h) (by decide),
      fun _ hempty => tripDown_of_new (TripSet.has_of_empty hempty _), fun h => hplan _ _ h⟩
  · rw [show v = u from hv]
    exact ⟨⟨s.heating.plan, rfl⟩, id, fun h => absurd (hp.symm.trans h) (by decide),
      fun h => absurd (hl.symm.trans h) (by decide), fun _ _ => rfl,
      fun h => absurd h (by simp [hp, hl]), id⟩

/-! ## The plan's evaluation (R141, R142) -/

theorem State.stepPlan_none {s : State} (h : s.heating.plan = none) : s.stepPlan = s := by
  simp only [State.stepPlan, h]

theorem State.stepPlan_absent {s : State} (h : s.heating.tMin = none) : s.stepPlan = s := by
  unfold State.stepPlan
  split
  next hp ht => rw [h] at ht; cases ht
  next => rfl

theorem State.stepPlan_goesOn {s : State} {p : Plan} {x : Int} {phase : PlanPhase} {demand : Nat}
    (hp : s.heating.plan = some p) (ht : s.heating.tMin = some x)
    (he : evaluate p (p.target - x) = .goOn phase demand) : s.stepPlan =
      (s.withHeating { s.heating with plan := some (s.heating.evaluated p phase demand) }).firstHolding
        p phase := by
  simp only [State.stepPlan, hp, ht, he]

theorem State.stepPlan_reached {s : State} {p : Plan} {x : Int} (hp : s.heating.plan = some p)
    (ht : s.heating.tMin = some x) (he : evaluate p (p.target - x) = .reached) : s.stepPlan =
      (s.withHeating { s.heating with
        plan := some { p with lastState := s.heating.planState p } }).endPlan endReached := by
  simp only [State.stepPlan, hp, ht, he]

/-- An evaluation moves only the plan of the table. -/
theorem State.stepPlan_heating (s : State) :
    ∃ plan, s.stepPlan.heating = { s.heating with plan := plan } := by
  cases hp : s.heating.plan with
  | none => exact ⟨none, by rw [State.stepPlan_none hp, ← hp]⟩
  | some p =>
    cases ht : s.heating.tMin with
    | none => exact ⟨s.heating.plan, by rw [State.stepPlan_absent ht]⟩
    | some x =>
      cases he : evaluate p (p.target - x) with
      | goOn phase demand =>
        refine ⟨some (s.heating.evaluated p phase demand), ?_⟩
        rw [State.stepPlan_goesOn hp ht he, State.firstHolding]
        split <;> rfl
      | reached =>
        refine ⟨none, ?_⟩
        rw [State.stepPlan_reached hp ht he, State.endPlan_heating]
        rfl

/-- A plan that goes on is all an evaluation moves, with PLAN_EVENT at the first HOLDING. -/
theorem State.firstHolding_attn (s : State) (p : Plan) (phase : PlanPhase) :
    (s.firstHolding p phase).attn = s.attn.put .planEvent
      (s.attn.planEvent || (phase == .holding && !p.reachedHolding)) := by
  unfold State.firstHolding
  split
  next h => rw [h, Bool.or_true]; rfl
  next h => rw [Bool.eq_false_iff.mpr h, Bool.or_false]; rfl

end Sys2Proof.Machine
end

/-! # What a scan forms (O53) -/

section
namespace Sys2Proof.Machine

/-- The table of a scan (R130). -/
def Heating.scanned (h : Heating) (scan : Scan) : Heating :=
  { h with pack := scan.pack.map sensorOf, plate := sensorOf scan.plate }

/-- The plan that a scan's SENSOR_LOSS leaves (R132). -/
def Heating.planLeft (h : Heating) : Option Plan := if h.lossBegins then none else h.plan

/-- The table after the SENSOR_LOSS test and the guards. -/
def Heating.judged (h : Heating) : Heating :=
  Heating.tested { h with sensorLoss := decide (h.count < 3), plan := h.planLeft }

/-- The state in which a scan's counts are stepped. -/
def State.judgeTable (s : State) (scan : Scan) : State := (s.takeTable scan).testSensorLoss.testGuards

section
variable (s : State) (scan : Scan)

theorem State.judgeTable_heating : (s.judgeTable scan).heating = (s.heating.scanned scan).judged := by
  rw [State.judgeTable, State.testGuards_heating, State.testSensorLoss_heating]
  rfl

theorem State.judgeTable_duty : (s.judgeTable scan).power = { s.power with
    duty := if (s.heating.scanned scan).judged.guarded && !s.heating.guarded then 0
      else if (s.heating.scanned scan).lossBegins then 0 else s.power.duty } := by
  have hguards := State.testGuards_power (s.takeTable scan).testSensorLoss
  rw [State.testSensorLoss_power, State.testSensorLoss_heating] at hguards
  exact hguards

theorem State.judgeTable_same : (s.judgeTable scan).trips = s.trips ∧ (s.judgeTable scan).relay = s.relay
    ∧ (s.judgeTable scan).billing = s.billing := by simp [State.judgeTable]

/-- Without an end of the plan the tests move the table, the duty and the monitor that watches it. -/
theorem State.judgeTable_quiet (h : (s.heating.scanned scan).lossBegins = false ∨ s.heating.plan = none) :
    SameBut [.heating, .power, .insulation] s (s.judgeTable scan) := by
  obtain ⟨hmem, horders, hattn⟩ := State.testSensorLoss_quiet (s := s.takeTable scan) h
  have hmem' : (s.takeTable scan).testSensorLoss.mem = s.mem := hmem
  have horders' : (s.takeTable scan).testSensorLoss.orders = s.orders := horders
  have hattn' : (s.takeTable scan).testSensorLoss.attn = s.attn := hattn
  simp [sameBut_iff, State.judgeTable, hmem', horders', hattn']

/-- The state in which a scan evaluates its plan. -/
def State.formTable (s : State) (scan : Scan) : State := (s.judgeTable scan).stepCounts.reformAcceptance

theorem exec_temperatureScan : exec (.temperatureScan scan) s = .next (s.formTable scan).stepPlan := rfl

/-- The table that a scan forms, but for its plan. -/
theorem State.formTable_heating : ∃ plan, (s.formTable scan).heating =
    { (s.heating.scanned scan).judged.counted with
      plan := plan, acceptance := (s.heating.scanned scan).judged.formAcceptance } := by
  obtain ⟨plan, hplan⟩ := (countsStepped_stepCounts (s.judgeTable scan)).heating
  refine ⟨plan, ?_⟩
  rw [State.judgeTable_heating] at hplan
  show { (s.judgeTable scan).stepCounts.heating with
    acceptance := (s.judgeTable scan).stepCounts.heating.formAcceptance } = _
  rw [hplan]
  rfl

/-- With no count that trips, a scan's tests and counts. -/
theorem State.formTable_untripped (hpack : (s.heating.scanned scan).judged.packTrips = false)
    (hplate : (s.heating.scanned scan).judged.plateTrips = false) :
    s.formTable scan = (s.judgeTable scan).withHeating { (s.heating.scanned scan).judged.counted with
      acceptance := (s.heating.scanned scan).judged.formAcceptance } := by
  have hheating := s.judgeTable_heating scan
  rw [State.formTable, (countsStepped_stepCounts (s.judgeTable scan)).quiet
    (by rw [hheating, hpack]) (by rw [hheating, hplate]), hheating]
  rfl

end

/-! ## Where a plan goes on -/

/-- A plan that an evaluation carries on, as the obligation names it. -/
structure GoesOn (s t : State) (h : Heating) (p : Plan) (phase : PlanPhase) (demand : Nat) : Prop where
  plan : t.heating.plan = some (h.evaluated p phase demand)
  same : SameBut [.heating, .power, .insulation, .attn] s t
  causes : OtherCauses [.planEvent] s t
  event : t.attn.planEvent = (s.attn.planEvent || (phase == .holding && !p.reachedHolding))

theorem goesOn_stepPlan {s u : State} {p : Plan} {x : Int} {phase : PlanPhase} {demand : Nat}
    (hsame : SameBut [.heating, .power, .insulation] s u) (hp : u.heating.plan = some p)
    (hx : u.heating.tMin = some x) (he : evaluate p (p.target - x) = .goOn phase demand) :
    GoesOn s u.stepPlan u.heating p phase demand := by
  have hattn : u.attn = s.attn := hsame .attn (by simp)
  rw [State.stepPlan_goesOn hp hx he]
  generalize hv : u.withHeating { u.heating with plan := some (u.heating.evaluated p phase demand) } = v
  have hvattn : v.attn = s.attn := by rw [← hv]; exact hattn
  have hlast := v.firstHolding_attn p phase
  have hvsame : SameBut [.attn] v (v.firstHolding p phase) := by
    unfold State.firstHolding
    split <;> simp [sameBut_iff]
  exact
    { plan := by
        rw [hvsame .heating (by simp), ← hv]
        rfl
      same := (hsame.mono (by simp)).trans (SameBut.trans (t := v) (by rw [← hv]; simp [sameBut_iff])
        (hvsame.mono (by simp)))
      causes := .of_put (hlast.trans (by rw [hvattn])) (by simp)
      event := by rw [hlast, hvattn]; rfl }

theorem Heating.evaluated_eq (h : Heating) (p : Plan) (phase : PlanPhase) (demand : Nat) :
    h.evaluated p phase demand = { p with
      phase := phase
      demand := if h.guarded then 0 else demand
      reachedHolding := p.reachedHolding || phase == .holding
      lastState := if h.guarded then .guarded
        else if p.blockedCount = 10 then .blocked
        else if phase = .warming then .warming else .holding } := by
  cases phase <;> rfl

/-! ## The evaluation table (R141) -/

section
variable {p : Plan} {e : Int}

theorem evaluate_warms (hp : p.phase = .warming) (he : 0 < e) :
    evaluate p e = .goOn .warming (warmDemand p e) := by
  simp only [evaluate, hp]
  exact if_neg (by omega)

theorem evaluate_keeps (hp : p.phase = .warming) (he : e ≤ 0) (hmode : p.mode = .keep) :
    evaluate p e = .goOn .holding 0 := by
  simp only [evaluate, hp, hmode]
  exact if_pos he

theorem evaluate_reaches (hp : p.phase = .warming) (he : e ≤ 0) (hmode : p.mode = .once) :
    evaluate p e = .reached := by
  simp only [evaluate, hp, hmode]
  exact if_pos he

theorem evaluate_rewarms (hp : p.phase = .holding) (he : (p.hysteresis : Int) ≤ e) :
    evaluate p e = .goOn .warming (warmDemand p e) := by
  simp only [evaluate, hp]
  exact if_pos he

theorem evaluate_holds (hp : p.phase = .holding) (he : e < p.hysteresis) :
    evaluate p e = .goOn .holding 0 := by
  simp only [evaluate, hp]
  exact if_neg (by omega)

end

/-- What the end REACHED leaves (R142, R146). -/
theorem reached_stepPlan {u : State} {p : Plan} {x : Int} (hp : u.heating.plan = some p)
    (hx : u.heating.tMin = some x) (he : evaluate p (p.target - x) = .reached) :
    ∃ w : State, ∃ e : Ending, SameBut [.heating] u w ∧ e.outcome = .ended ∧ e.note = endReached
      ∧ u.stepPlan = (w.finish p.slot e).raise .planEvent ∧ w.heating.plan = none := by
  rw [State.stepPlan_reached hp hx he]
  rw [State.endPlan_of_some (p := { p with lastState := u.heating.planState p }) _ rfl]
  exact ⟨_, _, by simp [sameBut_iff, State.dropPlan], rfl, rfl, rfl, rfl⟩

end Sys2Proof.Machine
end

/-! # Settling the temperature scan (O53) -/

section
namespace Sys2Proof.Machine

theorem Heating.packTrips_iff (h : Heating) :
    h.packTrips = true ↔ overCount h.packCount h.packHot = 2 ∧ h.packCount ≠ 2 := by
  simp [Heating.packTrips]

theorem Heating.plateTrips_iff (h : Heating) :
    h.plateTrips = true ↔ overCount h.plateCount h.plateHot = 2 ∧ h.plateCount ≠ 2 := by
  simp [Heating.plateTrips]

theorem Heating.judged_packTrips (h : Heating) : h.judged.packTrips = h.packTrips := rfl

theorem Heating.judged_plateTrips (h : Heating) : h.judged.plateTrips = h.plateTrips := rfl

theorem Heating.planLeft_of_kept {h : Heating}
    (hkept : decide (h.count < 3) = false ∨ h.sensorLoss = true) :
    h.lossBegins = false ∧ h.planLeft = h.plan := by
  have hb : h.lossBegins = false := by
    rcases hkept with hk | hk <;> rw [Heating.lossBegins, hk] <;> simp
  exact ⟨hb, by rw [Heating.planLeft, hb]; rfl⟩

/-- Settles O53. -/
theorem scanFormsTable : Obligations.ScanFormsTable := by
  intro s scan sense h inc loss packHot plateHot pc pl guarded trips
  have hh : h = s.heating.scanned scan := rfl
  have hinc (k : Fin 8) (x : Int) : inc k x ↔ h.mask.getLsbD k.val = false ∧ h.pack[k] = .valid x := by
    have hget : h.pack[k] = sense scan.pack[k] := Vector.getElem_map _ _
    rw [hget]
  have hmem (x : Int) : x ∈ h.included ↔ ∃ k, inc k x :=
    Heating.mem_included.trans (exists_congr fun k => (hinc k x).symm)
  have hall (q : Int → Prop) : (∀ y ∈ h.included, q y) ↔ ∀ k y, inc k y → q y :=
    ⟨fun hq k y hy => hq y ((hmem y).mpr ⟨k, hy⟩), fun hq y hy => by
      obtain ⟨k, hk⟩ := (hmem y).mp hy
      exact hq k y hk⟩
  refine ⟨fun x => ?_, fun x => ?_, ?_⟩
  · rw [Heating.tMin_eq_some, hmem, hall fun y => x ≤ y]
  · rw [Heating.tMax_eq_some, hmem, hall fun y => y ≤ x]
  let c := s.judgeTable scan
  let u := s.formTable scan
  have hcounts := countsStepped_stepCounts c
  have hc : c.heating = h.judged := s.judgeTable_heating scan
  obtain ⟨hctrips, hcrelay, hcbilling⟩ := s.judgeTable_same scan
  have hduty := s.judgeTable_duty scan
  have hpower : u.stepPlan.power = c.stepCounts.power := by simp [u, c, State.formTable]
  have hutrips : u.stepPlan.trips = c.stepCounts.trips := by simp [u, c, State.formTable]
  have hplate : overCount h.plateCount h.plateHot = pl := by
    have hhot : h.plateHot = plateHot := by
      simp only [Heating.plateHot, plateHot]
      cases h.plate <;> rfl
    rw [hhot]
    rfl
  have hpackTrips : c.heating.packTrips = true ↔ pc = 2 ∧ h.packCount ≠ 2 := by
    rw [hc, Heating.judged_packTrips]
    exact h.packTrips_iff
  have hplateTrips : c.heating.plateTrips = true ↔ pl = 2 ∧ h.plateCount ≠ 2 := by
    rw [hc, Heating.judged_plateTrips, Heating.plateTrips_iff, hplate]
  have hnoTrips (hnot : ¬trips) : h.judged.packTrips = false ∧ h.judged.plateTrips = false := by
    rw [← hc]
    exact ⟨Bool.eq_false_iff.mpr fun ht => hnot (.inl (hpackTrips.mp ht)),
      Bool.eq_false_iff.mpr fun ht => hnot (.inr (hplateTrips.mp ht))⟩
  have hplain (hnot : ¬trips) : u = c.withHeating { h.judged.counted with
      acceptance := h.judged.formAcceptance } :=
    s.formTable_untripped scan (hnoTrips hnot).1 (hnoTrips hnot).2
  obtain ⟨plan, hu⟩ := s.formTable_heating scan
  obtain ⟨plan', ht⟩ := u.stepPlan_heating
  have hheating : u.stepPlan.heating = { h.judged.counted with
      plan := plan', acceptance := h.judged.formAcceptance } := by
    rw [ht, hu]
    rfl
  have hdutyDown (hdown : c.power.duty = 0) : u.stepPlan.power.duty = 0 := by
    rw [hpower]
    exact hcounts.duty hdown
  refine ⟨u.stepPlan, rfl, ?_, ?_, ?_, ?_, ?_, ?_, ?_, ?_, ?_, ?_, ?_, ?_, ?_, fun hloss hbefore => ?_,
    fun hguard hbefore => ?_, fun h1 h2 => ?_, fun h1 h2 => ?_, fun hnot => ?_, fun htrips hempty => ?_,
    fun hnot hp => ?_, fun p x hnot hp hx hkept => ?_⟩
  iterate 11 rw [hheating]; rfl
  · rw [hheating, ← hplate]
    rfl
  · rw [hheating]
    rfl
  · have hbegins : h.lossBegins = true := by
      rw [Heating.lossBegins, show decide (h.count < 3) = true from hloss, show h.sensorLoss = false from hbefore]
      rfl
    have hnone : u.heating.plan = none := by
      refine hcounts.ended ?_
      rw [hc]
      exact if_pos hbegins
    refine ⟨hdutyDown ?_, by rw [State.stepPlan_none hnone, hnone]⟩
    rw [hduty]
    show (if _ then 0 else if h.lossBegins then 0 else s.power.duty) = 0
    rw [hbegins]
    exact ite_self _
  · refine hdutyDown ?_
    rw [hduty]
    exact if_pos (by rw [show (s.heating.scanned scan).judged.guarded = true from hguard, hbefore]; rfl)
  · rw [hutrips]
    exact hcounts.pack (hpackTrips.mpr ⟨h1, h2⟩)
  · rw [hutrips]
    exact hcounts.plate (hplateTrips.mpr ⟨h1, h2⟩)
  · rw [State.stepPlan_trips, State.stepPlan_relay, State.stepPlan_billing, hplain hnot]
    exact ⟨hctrips, hcrelay, hcbilling⟩
  · have hdown : TripDown c.stepCounts := hcounts.empty (htrips.imp hpackTrips.mpr hplateTrips.mpr)
      (by rw [hctrips]; exact hempty)
    have hnone : u.heating.plan = none := hdown.plan
    rw [hpower, State.stepPlan_none hnone]
    exact ⟨hdown.iDem, hdown.duty, hnone, hdown.charge⟩
  · have hnone : u.heating.plan = none := by
      rw [hplain hnot]
      show h.planLeft = none
      rw [Heating.planLeft, show h.plan = none from hp]
      exact ite_self _
    rw [State.stepPlan_none hnone]
    refine ⟨?_, hnone⟩
    rw [hplain hnot]
    exact (s.judgeTable_quiet scan (.inr hp)).trans (by simp [sameBut_iff, c])
  · intro e warm goes
    obtain ⟨hbegins, hleft⟩ := Heating.planLeft_of_kept (h := h) hkept
    have hsame : SameBut [.heating, .power, .insulation] s u := by
      rw [hplain hnot]
      exact (s.judgeTable_quiet scan (.inl hbegins)).trans (by simp [sameBut_iff, c])
    have hup : u.heating.plan = some p := by
      rw [hplain hnot]
      exact hleft.trans hp
    have hux : u.heating.tMin = some x := by
      rw [hplain hnot]
      exact hx
    have hguarded : u.heating.guarded = guarded := by
      rw [hplain hnot]
      rfl
    have hgoes {phase : PlanPhase} {demand : Nat} (he : evaluate p e = .goOn phase demand) : goes phase demand := by
      have hg := goesOn_stepPlan hsame hup hux he
      refine ⟨?_, hg.same, hg.causes, hg.event⟩
      rw [hg.plan, Heating.evaluated_eq, hguarded]
    refine ⟨fun hp he => hgoes (evaluate_warms hp he), fun hp he hm => hgoes (evaluate_keeps hp he hm),
      fun hphase he hm hwf => ?_, fun hp he => hgoes (evaluate_rewarms hp he),
      fun hp he => hgoes (evaluate_holds hp he)⟩
    obtain ⟨w, ending, hw, hout, hnote, hends, hnone⟩ := reached_stepPlan hup hux (evaluate_reaches hphase he hm)
    have hwmem : w.mem = s.mem := (hw .mem (by simp)).trans (hsame .mem (by simp))
    have hworders : w.orders = s.orders := (hw .orders (by simp)).trans (hsame .orders (by simp))
    obtain ⟨hoffice, hbyte⟩ := State.finish_outcome w p.slot ending (by rw [hwmem]; exact hwf)
    rw [hends]
    refine ⟨?_, ?_, hoffice.trans (by rw [hout]; rfl), hbyte.trans (by rw [hnote]; rfl), rfl, ?_, fun a ha => ?_,
      fun k hk => ?_, ?_, ?_⟩
    · rw [State.raise_heating, State.finish_heating, hnone]
    · exact congrArg Slot.state (State.slot_finish_same w p.slot ending)
    · show (w.finish p.slot ending).attn.orderDone = true
      rw [State.finish_attn]
      rfl
    · show (w.finish p.slot ending).mem.read a = _
      rw [State.finish_read_other _ _ _ ha, hwmem]
    · show (w.finish p.slot ending).slot k = _
      rw [State.slot_finish_other _ _ hk, State.slot_congr hworders]
    · show (w.finish p.slot ending).orders.queues = _
      rw [State.finish_queues, hworders]
    · show w.orders.notices = _
      rw [hworders]

end Sys2Proof.Machine
end

/-! # What a trip leaves of the monitor (R152, R179) -/

section
namespace Sys2Proof.Machine

/-! ## Drives that the monitor watches -/

/-- Nothing of the monitor moves but what its half-period saw of the drives. -/
def Watched (s t : State) : Prop :=
  ∃ f : HalfPeriod → HalfPeriod, (∀ h, (f h).course = h.course)
    ∧ t.insulation = { s.insulation with half := s.insulation.half.map f }

namespace Watched

variable {s t u : State}

theorem of_same (h : t.insulation = s.insulation) : Watched s t := ⟨id, fun _ => rfl, by rw [h]; simp⟩

theorem trans (hst : Watched s t) (htu : Watched t u) : Watched s u := by
  obtain ⟨f, hf, ht⟩ := hst
  obtain ⟨g, hg, hu⟩ := htu
  refine ⟨g ∘ f, fun h => (hg _).trans (hf h), ?_⟩
  rw [hu, ht]
  simp

/-- A half-period in progress goes on, but for the drives it saw. -/
theorem half (h : Watched s t) {x : HalfPeriod} (hx : s.insulation.half = some x) :
    ∃ y, t.insulation.half = some y ∧ y.course = x.course := by
  obtain ⟨f, hf, ht⟩ := h
  exact ⟨f x, by rw [ht, hx]; rfl, hf x⟩

end Watched

theorem watched_failGateIf (s : State) (held now : Bool) : Watched s (s.failGateIf held now) :=
  s.failGateIf_insulation held now

theorem watched_failGate (s : State) : Watched s s.failGate := s.failGate_insulation

theorem watched_setDemand (s : State) (d : Nat) : Watched s (s.setDemand d) :=
  ⟨fun h => h.watch s.power.duty d, fun _ => rfl, rfl⟩

theorem watched_setDuty (s : State) (d : Nat) : Watched s (s.setDuty d) :=
  ⟨fun h => h.watch d s.power.iDem, fun _ => rfl, rfl⟩

theorem watched_tripDrives (s : State) : Watched s s.tripDrives :=
  ((watched_setDemand s 0).trans (watched_setDuty _ 0)).trans (.of_same rfl)

theorem watched_openRequest (s : State) (skip : Bool) : Watched s (s.openRequest skip) := by
  have hleft : Watched s s.leaveClosed := watched_setDemand s 0
  cases h : s.relay.state with
  | closed =>
    have heq : s.openRequest skip = if skip then s.leaveClosed.enterRelease true
        else s.leaveClosed.setRelay .currentWait (some 0) false := by rw [State.openRequest, h]
    rw [heq]
    split <;> exact hleft.trans (.of_same (by simp))
  | opened => rw [State.openRequest, h]; exact .of_same (by simp)
  | closing => rw [State.openRequest, h]; exact .of_same (by simp)
  | currentWait =>
    have heq : s.openRequest skip = if skip then s.enterRelease true else s := by rw [State.openRequest, h]
    rw [heq]
    split <;> exact .of_same (by simp)
  | release => rw [State.openRequest, h]; exact .of_same rfl
  | stuck => rw [State.openRequest, h]; exact .of_same rfl

theorem watched_beginHold (s : State) : Watched s s.beginHold :=
  Watched.trans (t := s.haltSupply)
    ((Watched.of_same rfl).trans (watched_failGate ((s.withBilling { s.billing with hold := true }).raise .journalHalt)))
    (.of_same ((recorded_beginHold s).same .insulation (by simp)))

theorem watched_enterRecord (s : State) (r : Record) : Watched s (s.enterRecord r) := by
  have hplaced : Watched s (s.placeRecord r) := .of_same ((recorded_placeRecord s r).same .insulation (by simp))
  unfold State.enterRecord
  extract_lets s1
  split
  · exact hplaced.trans (watched_beginHold _)
  · exact hplaced

theorem watched_closeInterval (s : State) (cause : CloseCause) (bandEnd : Nat) (adopted : Bool) :
    Watched s (s.closeInterval cause bandEnd adopted) := by
  unfold State.closeInterval
  by_cases hclosed : s.billing.session = none ∨ s.billing.interval = none
  · rw [State.closeIntervalBy_closed hclosed]
    exact .of_same rfl
  obtain ⟨hses, hint⟩ := not_or.mp hclosed
  obtain ⟨ses, hses⟩ := Option.ne_none_iff_exists'.mp hses
  obtain ⟨i, hint⟩ := Option.ne_none_iff_exists'.mp hint
  cases hheld : s.billing.held with
  | some x =>
    rw [State.closeIntervalBy_merges hses hint (by rw [hheld]; rfl)]
    exact .of_same rfl
  | none =>
    cases hempty : i.isEmpty && cause.dropsEmpty with
    | true =>
      rw [State.closeIntervalBy_inherits hses hint hheld hempty]
      exact .of_same rfl
    | false =>
      rw [State.closeIntervalBy_writes hses hint hheld hempty]
      exact Watched.trans (t := s.withBilling (s.billing.cutNext ses i)) (.of_same rfl) (watched_enterRecord _ _)

theorem watched_latchTrip (s : State) (k : TripKind) : Watched s (s.latchTrip k) := by
  cases h : s.trips.set.isEmpty with
  | true =>
    rw [State.latchTrip_empty k h]
    exact Watched.trans (.of_same rfl) (watched_failGate _)
  | false =>
    rw [State.latchTrip_nonempty k h]
    exact .of_same rfl

/-- A trip report moves nothing of the monitor but what its half-period saw of the drives. -/
theorem watched_tripReport (s : State) (k : TripKind) : Watched s (s.tripReport k) := by
  cases hnew : s.trips.set.has k with
  | true =>
    rw [State.tripReport_again s k hnew]
    exact .of_same rfl
  | false =>
    let u := (s.tripOpened k).tripCharge.tripPlan
    have heq : s.tripReport k = (u.closeInterval .trip u.billing.band false).weldPasses k :=
      State.tripReport_of_new hnew
    have hopened : Watched s (s.tripOpened k) :=
      ((watched_latchTrip s k).trans (watched_tripDrives _)).trans (watched_openRequest _ _)
    have hended : Watched (s.tripOpened k) u :=
      .of_same ((standingEnded_trip (s.tripOpened k)).same .insulation (by simp))
    rw [heq]
    exact ((hopened.trans hended).trans (watched_closeInterval u .trip u.billing.band false)).trans
      (.of_same (by rw [State.weldPasses_insulation]))

/-! ## The causes, the queues and the need through a report -/

theorem tripReport_causes {s : State} {k : TripKind} (hskips : k.skips = true) :
    OtherCauses [.trip, .orderDone, .planEvent, .journalNew, .journalHalt] s (s.tripReport k) := by
  cases hnew : s.trips.set.has k with
  | true =>
    rw [State.tripReport_again s k hnew]
    exact .refl _ rfl
  | false =>
    obtain ⟨u, hu⟩ := beforeClose_of_skips hskips hnew
    rw [hu.report]
    exact (hu.causes.mono (by simp)).trans ((entered_closeInterval u .trip u.billing.band false).causes.mono (by simp))

/-- A need that is withdrawn stays withdrawn through a report. -/
theorem State.tripReport_noNeed {s : State} {k : TripKind} (hdown : s.power.iDem = 0)
    (hneed : s.power.need = false) :
    (s.tripReport k).power.iDem = 0 ∧ (s.tripReport k).power.need = false := by
  cases hnew : s.trips.set.has k with
  | true =>
    rw [State.tripReport_again s k hnew]
    exact ⟨hdown, hneed⟩
  | false =>
    have hlatched := latched_tripLatched s k
    have hpower : (s.tripOpened k).power = (s.tripLatched k).power :=
      State.openRequest_power _ hlatched.iDem
    let u := (s.tripOpened k).tripCharge.tripPlan
    have heq : s.tripReport k = (u.closeInterval .trip u.billing.band false).weldPasses k :=
      State.tripReport_of_new hnew
    have hu : u.power = { (s.tripLatched k).power with charge := none } := by simp [u, hpower]
    have hrelay : u.relay = (s.tripOpened k).relay := by simp [u]
    obtain ⟨hidem, -, -, -, -, -, hkept⟩ := (entered_closeInterval u .trip u.billing.band false).drivesDown
      (by rw [hu]; exact hlatched.iDem) (by rw [hu]; exact hlatched.duty)
      (by rw [hu]; exact hlatched.supplyFed) (by rw [hu]; exact hlatched.packFed) (by rw [hu])
      (by rw [hrelay]; exact State.openRequest_not_closed _ _)
    rw [heq, State.weldPasses_power]
    refine ⟨hidem, hkept ?_⟩
    rw [hu]
    exact hlatched.need.trans (by rw [hneed]; rfl)

end Sys2Proof.Machine
end

/-! # A valid result of the monitor (R156 to R165) -/

section
namespace Sys2Proof.Machine

/-! ## The condition table (R159) -/

theorem nextStreak_eq (streak r w f : Nat) :
    nextStreak streak (verdictOf r w f) = if r < f then min 8 (streak + 1) else 0 := by
  unfold verdictOf
  split
  · rfl
  · split <;> rfl

theorem nextCondition_eq (before : Condition) (r w f streak k : Nat) :
    nextCondition before (verdictOf r w f) r w f streak k =
      if before = .fault then (if r < 2 * f then .fault else if w + w / 4 ≤ r then .ok else .warning)
      else if r < f then (if k ≤ streak then .fault else .warning)
      else if r < w then .warning
      else if before = .warning ∧ r < w + w / 4 then .warning
      else .ok := by
  by_cases hlow : r < f
  · have hv : verdictOf r w f = .belowFault := if_pos hlow
    rw [hv, if_pos hlow]
    cases before <;> rfl
  · by_cases hwarn : r < w
    · have hv : verdictOf r w f = .belowWarn := (if_neg hlow).trans (if_pos hwarn)
      rw [hv, if_neg hlow, if_pos hwarn]
      cases before <;> rfl
    · have hv : verdictOf r w f = .clear := (if_neg hlow).trans (if_neg hwarn)
      rw [hv, if_neg hlow, if_neg hwarn]
      cases before with
      | warning =>
        by_cases hrelease : warnRelease w ≤ r
        · exact (if_pos hrelease).trans (if_neg fun h => absurd hrelease (Nat.not_le.mpr h.2)).symm
        · exact (if_neg hrelease).trans (if_pos ⟨rfl, Nat.not_le.mp hrelease⟩).symm
      | _ => rfl

theorem nextCondition_known (before : Condition) (r w f streak k : Nat) :
    nextCondition before (verdictOf r w f) r w f streak k ≠ .unknown := by
  rw [nextCondition_eq]
  repeat' split
  all_goals decide

theorem Condition.warns_iff (c : Condition) : c.warns = true ↔ c = .warning ∨ c = .fault := by
  cases c <;> simp [Condition.warns]

/-! ## The reports of a result (R160 to R162) -/

/-- A result's condition reported, before a running check takes it. -/
def State.resultReported (s : State) (e : HistoryEntry) : State :=
  (s.newCondition (s.insulation.takeEntry e)).reportFault s.insulation.condition
    (s.insulation.takeEntry e).condition

theorem State.validResult_eq (s : State) (stretch : Nat) (delta : Int) : s.validResult stretch delta =
    (s.resultReported (s.historyEntry stretch delta)).endCheck ⟨.ok, noteNone,
      (s.insulation.takeEntry (s.historyEntry stretch delta)).checkFields (s.historyEntry stretch delta)⟩ := rfl

section
variable {s : State} {i : Insulation}

theorem State.newCondition_frame (s : State) (i : Insulation) :
    SameBut [.attn, .power, .relay, .insulation] s (s.newCondition i) := by
  simp [sameBut_iff, State.newCondition]

theorem watched_newCondition (s : State) (i : Insulation) :
    Watched (s.withInsulation i) (s.newCondition i) :=
  Watched.trans (.of_same (by simp)) (watched_failGateIf _ _ _)

theorem State.newCondition_attn (s : State) (i : Insulation) : (s.newCondition i).attn =
    if i.condition.warns && !s.insulation.condition.warns then s.attn.put .insulationWarn true
    else if s.insulation.condition.warns && !i.condition.warns then s.attn.put .insulationWarn false
    else s.attn := by
  rw [State.newCondition, State.failGateIf_attn, State.reportWarn]
  split
  · rfl
  · split <;> rfl

theorem State.newCondition_causes (s : State) (i : Insulation) :
    OtherCauses [.insulationWarn] s (s.newCondition i) := by
  have h := s.newCondition_attn i
  split at h
  · exact .of_put h (by simp)
  · split at h
    · exact .of_put h (by simp)
    · exact .refl _ h

/-- Freshness that ends takes the drives down (R162, R112). -/
theorem State.newCondition_stops (hfresh : s.insulation.fresh = true) (hends : i.fresh = false) :
    (s.newCondition i).power.iDem = 0 ∧ (s.newCondition i).power.need = false := by
  rw [State.newCondition, State.failGateIf_failed _ hfresh hends]
  exact ⟨by simp [State.failGate_power], by simp [State.failGate_power]⟩

/-- Freshness that stands, or did not stand, leaves the drives. -/
theorem State.newCondition_quiet (h : s.insulation.fresh = false ∨ i.fresh = true) :
    SameBut [.insulation, .attn] s (s.newCondition i) := by
  rw [State.newCondition, State.failGateIf_kept _ h]
  simp [sameBut_iff]

end

/-- What the reports of a result leave. -/
structure Reported (s : State) (e : HistoryEntry) (u : State) : Prop where
  watched : Watched (s.withInsulation (s.insulation.takeEntry e)) u
  warns : (s.insulation.takeEntry e).condition.warns = true → s.insulation.condition.warns = false →
    u.attn.insulationWarn = true
  clears : (s.insulation.takeEntry e).condition.warns = false → s.insulation.condition.warns = true →
    u.attn.insulationWarn = false
  fault : (s.insulation.takeEntry e).condition = .fault → s.insulation.condition ≠ .fault →
    u.trips.set.insulation = true ∧ u.power.duty = 0 ∨ s.trips.set.insulation = true
  stops : s.insulation.fresh = true → (s.insulation.takeEntry e).condition.permits = false →
    u.power.iDem = 0 ∧ u.power.need = false
  kept : (s.insulation.takeEntry e).condition ≠ .fault ∨ s.insulation.condition = .fault →
    SameBut [.attn, .power, .relay, .insulation] s u
  quiet : (s.insulation.takeEntry e).condition ≠ .fault ∨ s.insulation.condition = .fault →
    s.insulation.fresh = false ∨ (s.insulation.takeEntry e).condition.permits = true →
    SameBut [.insulation, .attn] s u ∧ OtherCauses [.insulationWarn] s u

theorem State.reportFault_none {s : State} {before after : Condition}
    (h : after ≠ .fault ∨ before = .fault) : s.reportFault before after = s := by
  have hnot : (after == .fault && before != .fault) = false := by
    rcases h with h | h <;> simp [h]
  rw [State.reportFault, hnot]
  rfl

theorem State.reportFault_trips {s : State} {before after : Condition} (ha : after = .fault)
    (hb : before ≠ .fault) : s.reportFault before after = s.tripReport .insulation := by
  have hyes : (after == .fault && before != .fault) = true := by simp [ha, hb]
  rw [State.reportFault, hyes]
  rfl

theorem reported_resultReported (s : State) (e : HistoryEntry) : Reported s e (s.resultReported e) := by
  let i := s.insulation.takeEntry e
  let v := s.newCondition i
  have hwarn (hto : i.condition.warns = true) (hfrom : s.insulation.condition.warns = false) :
      v.attn.insulationWarn = true := by
    rw [s.newCondition_attn, if_pos (by rw [hto, hfrom]; rfl)]
    rfl
  have hclear (hto : i.condition.warns = false) (hfrom : s.insulation.condition.warns = true) :
      v.attn.insulationWarn = false := by
    rw [s.newCondition_attn, if_neg (by rw [hto, hfrom]; decide), if_pos (by rw [hto, hfrom]; rfl)]
    rfl
  by_cases hreport : i.condition ≠ .fault ∨ s.insulation.condition = .fault
  · have heq : s.resultReported e = v := State.reportFault_none hreport
    rw [heq]
    exact
      { watched := watched_newCondition s i
        warns := hwarn
        clears := hclear
        fault := fun ha hb => (hreport.elim (fun h => h ha) hb).elim
        stops := fun hfresh hpermits => State.newCondition_stops hfresh hpermits
        kept := fun _ => s.newCondition_frame i
        quiet := fun _ hq => ⟨State.newCondition_quiet hq, s.newCondition_causes i⟩ }
  · simp only [not_or, not_not] at hreport
    obtain ⟨ha, hb⟩ := hreport
    have heq : s.resultReported e = v.tripReport .insulation := State.reportFault_trips ha hb
    have hcauses := tripReport_causes (s := v) (k := .insulation) rfl
    rw [heq]
    exact
      { watched := (watched_newCondition s i).trans (watched_tripReport _ _)
        warns := fun hto hfrom => (hcauses.2 .insulationWarn (by simp)).trans (hwarn hto hfrom)
        clears := fun hto hfrom => (hcauses.2 .insulationWarn (by simp)).trans (hclear hto hfrom)
        fault := fun _ _ => by
          cases hnew : s.trips.set.insulation with
          | true => exact .inr rfl
          | false =>
            refine .inl ⟨State.tripReport_has v .insulation, ?_⟩
            refine (tripped_tripReport (s := v) (k := .insulation) ?_).duty
            rw [s.newCondition_trips i]
            exact hnew
        stops := fun hfresh hpermits => by
          obtain ⟨hdown, hneed⟩ := State.newCondition_stops (i := i) hfresh hpermits
          exact State.tripReport_noNeed hdown hneed
        kept := fun hk => (hk.elim (fun h => h ha) hb).elim
        quiet := fun hk => (hk.elim (fun h => h ha) hb).elim }

/-- The engine's agreement through the reports of a result. -/
theorem OrdersBut.resultReported {l : Busy} {s : State} (e : HistoryEntry) (h : OrdersBut l s) :
    OrdersBut l (s.resultReported e) := by
  have hv : OrdersBut l (s.newCondition (s.insulation.takeEntry e)) := h.newCondition rfl
  unfold State.resultReported State.reportFault
  exact orders_kept.tripIf _ _ hv

end Sys2Proof.Machine
end

/-! # The end of a half-period (O54) -/

section
namespace Sys2Proof.Machine

/-! ## Samples and the settle test (R152, R155, R156) -/

theorem Insulation.store_eq (i : Insulation) (positive : Bool) (u : Int) : i.store positive u =
    { i with
      samplePos := if positive then some u else i.samplePos
      sampleNeg := if positive then i.sampleNeg else some u } := by
  cases positive <;> rfl

theorem Insulation.delta_none {i : Insulation} (h : i.samplePos = none ∨ i.sampleNeg = none) :
    i.delta = none := by
  unfold Insulation.delta
  split
  next hp hn => rcases h with h | h <;> simp_all
  next => rfl

theorem Insulation.delta_some {i : Insulation} {a b : Int} (ha : i.samplePos = some a)
    (hb : i.sampleNeg = some b) : i.delta = some (a - b) := by
  simp only [Insulation.delta, ha, hb]

theorem Insulation.countSettled_eq (i : Insulation) : i.countSettled =
    { i with
      unsettled := 0
      settled := if min 4 (i.settled + 1) = 4 ∧ 0 < i.stretch then 0 else min 4 (i.settled + 1)
      stretch := if min 4 (i.settled + 1) = 4 ∧ 0 < i.stretch then i.stretch - 1 else i.stretch } := by
  unfold Insulation.countSettled
  extract_lets n
  by_cases h : n = 4 ∧ 0 < i.stretch
  · rw [if_pos h, if_pos h, if_pos h]
  · rw [if_neg h, if_neg h, if_neg h]

theorem Insulation.countUnsettled_eq (i : Insulation) : i.countUnsettled =
    { i with
      settled := 0
      unsettled := if 2 ≤ i.unsettled + 1 then 0 else i.unsettled + 1
      stretch := if 2 ≤ i.unsettled + 1 then min 3 (i.stretch + 1) else i.stretch } := by
  unfold Insulation.countUnsettled
  by_cases h : 2 ≤ i.unsettled + 1
  · rw [if_pos h, if_pos h, if_pos h]
  · rw [if_neg h, if_neg h, if_neg h]

theorem Insulation.testResult_first {i : Insulation} {d : Int} (h : i.prevDelta = none) :
    i.testResult d = ({ i with prevDelta := some d }, false) := by
  simp only [Insulation.testResult, h]

theorem Insulation.testResult_settled {i : Insulation} {d prev : Int} (h : i.prevDelta = some prev)
    (hs : isSettled d prev = true) :
    i.testResult d = ({ i.countSettled with prevDelta := some d }, true) := by
  simp only [Insulation.testResult, h, hs, if_true]

theorem Insulation.testResult_unsettled {i : Insulation} {d prev : Int} (h : i.prevDelta = some prev)
    (hs : isSettled d prev = false) :
    i.testResult d = ({ i.countUnsettled with prevDelta := some d }, false) := by
  simp only [Insulation.testResult, h, hs, Bool.false_eq_true, if_false]

/-! ## The end of a half-period, by its judgement (R152) -/

section
variable {s : State} {h : HalfPeriod} {u : Int}

theorem HalfPeriod.isInvalid_iff (h : HalfPeriod) : h.isInvalid = true ↔
    100 < h.dutyHigh - h.dutyLow ∨ 50 < h.demHigh - h.demLow ∨ h.infbChanged = true := by
  simp only [HalfPeriod.isInvalid, Bool.or_eq_true, decide_eq_true_eq, or_assoc]

theorem State.endHalf_invalid (hh : s.insulation.half = some h) (hbad : h.isInvalid = true) :
    s.endHalf u = s.invalidHalf h := by
  simp only [State.endHalf, hh, hbad, if_true]

theorem State.endHalf_valid (hh : s.insulation.half = some h) (hgood : h.isInvalid = false) :
    s.endHalf u = s.validHalf h (clampInt (-20000) 20000 u) := by
  simp only [State.endHalf, hh, hgood, Bool.false_eq_true, if_false]

/-- Where no check ends, no queue drains. -/
theorem State.afterCheck_of_same {t : State} {i : Insulation} (h : t.insulation.check = i.check) :
    t.afterCheck i = t := by
  rw [State.afterCheck, h]
  cases i.check <;> rfl

/-- The monitor with a sample stored. -/
def State.stored (s : State) (h : HalfPeriod) (x : Int) : Insulation :=
  ({ s.insulation with invalid := 0, quiet := false } : Insulation).store h.positive x

theorem State.validHalf_sample {x : Int} (hd : (s.stored h x).delta = none) :
    s.validHalf h x = (s.withInsulation (s.stored h x)).beginHalf (!h.positive) := by
  simp only [State.stored] at hd
  simp only [State.validHalf, hd, State.stored]

theorem State.validHalf_result {x d : Int} {i : Insulation} {valid : Bool}
    (hd : (s.stored h x).delta = some d) (ht : (s.stored h x).testResult d = (i, valid)) :
    s.validHalf h x = if valid then ((s.withInsulation i).beginHalf (!h.positive)).validResult h.stretch d
      else (s.withInsulation i).beginHalf (!h.positive) := by
  simp only [State.stored] at hd ht
  simp only [State.validHalf, hd, ht]

end

/-! ## What a check's drain leaves of the results -/

/-- A result stands, and the ring holds at most eight entries. -/
def HasResult (s : State) : Prop :=
  s.insulation.last.isSome = true ∧ s.insulation.history.length ≤ 8

theorem hasResult_kept : MonitorKept HasResult where
  congr hi _ h := by
    rw [HasResult, hi]
    exact h
  check {s} n h := by
    unfold State.takeCheck
    split
    · rw [HasResult, State.finish_insulation]
      exact h
    · exact h
    · exact h
  settings {s} g h := by
    obtain ⟨f, -, hf⟩ := s.applyInsulation_insulation g
    have hset : (s.withSettings g).insulation.last = s.insulation.last
        ∧ (s.withSettings g).insulation.history = s.insulation.history := by
      rw [s.withSettings_insulation g]
      split <;> exact ⟨rfl, rfl⟩
    rw [HasResult, hf]
    show (s.withSettings g).insulation.last.isSome = true ∧ (s.withSettings g).insulation.history.length ≤ 8
    rw [hset.1, hset.2]
    exact h

theorem State.endCheck_warn (s : State) (e : Ending) :
    (s.endCheck e).attn.insulationWarn = s.attn.insulationWarn := by
  cases h : s.insulation.check with
  | none => rw [State.endCheck_of_none _ h]
  | some ck =>
    rw [State.endCheck_of_some _ h, State.finish_attn]
    rfl

/-- Settles O54. -/
theorem halfPeriodJudged : Obligations.HalfPeriodJudged := by
  intro s u
  refine ⟨fun hnone => ?_, fun h hh => ?_⟩
  · refine congrArg Host.Outcome.next ?_
    rw [show s.endHalf u = s by simp only [State.endHalf, hnone]]
    exact State.afterCheck_of_same rfl
  intro i bad begun
  have hbad : h.isInvalid = true ↔ bad := h.isInvalid_iff
  have hexec {t : State} (ht : s.endHalf u = t) (hcheck : t.insulation.check = i.check) :
      exec (.halfPeriodEnd u) s = .next t :=
    congrArg Host.Outcome.next (by rw [ht]; exact State.afterCheck_of_same hcheck)
  refine ⟨fun hb => ?_, fun hnot => ?_⟩
  · refine hexec ((State.endHalf_invalid hh (hbad.mpr hb)).trans ?_) rfl
    have hfull : (s.insulation.invalid + 1 == 8) = decide (s.insulation.invalid + 1 = 8) := rfl
    simp only [State.invalidHalf, hfull, decide_eq_true_eq]
    rfl
  intro x pos neg base
  have hbase : s.stored h x = base := Insulation.store_eq _ _ _
  have hvalid : s.endHalf u = s.validHalf h x :=
    State.endHalf_valid hh (Bool.eq_false_iff.mpr fun hb => hnot (hbad.mp hb))
  refine ⟨fun hnone => ?_, fun a b ha hb => ⟨fun hprev => ?_, fun prev hprev => ?_⟩⟩
  · refine hexec (hvalid.trans (State.validHalf_sample (by rw [hbase]; exact Insulation.delta_none hnone))) ?_
      |>.trans ?_
    · rw [hbase]
      rfl
    · rw [hbase]
      rfl
  · have hd : (s.stored h x).delta = some (a - b) := by
      rw [hbase]
      exact Insulation.delta_some ha hb
    have ht := Insulation.testResult_first (i := base) (d := a - b) hprev
    rw [← hbase] at ht
    have hv := State.validHalf_result hd ht
    rw [hbase] at hv
    exact hexec (hvalid.trans hv) rfl
  intro settles longer far
  have hd : (s.stored h x).delta = some (a - b) := by
    rw [hbase]
    exact Insulation.delta_some ha hb
  have hsettled : isSettled (a - b) prev = true ↔ settles := by simp [isSettled, settleLimit, settles]
  refine ⟨fun hnot => ?_, fun hs hquiet => ?_, fun ck hs horders hck => ?_⟩
  · have ht := Insulation.testResult_unsettled (i := base) (d := a - b) hprev
      (Bool.eq_false_iff.mpr fun hs => hnot (hsettled.mp hs))
    rw [← hbase] at ht
    have hv := State.validHalf_result hd ht
    rw [hbase, Insulation.countUnsettled_eq] at hv
    exact hexec (hvalid.trans hv) rfl
  all_goals
    have ht := Insulation.testResult_settled (i := base) (d := a - b) hprev (hsettled.mpr hs)
    rw [← hbase] at ht
    have hv := State.validHalf_result hd ht
    rw [hbase, Insulation.countSettled_eq] at hv
    obtain ⟨s1, hs1, hends⟩ : ∃ s1, s1 = (s.withInsulation _).beginHalf (!h.positive)
      ∧ s.endHalf u = s1.validResult h.stretch (a - b) := ⟨_, rfl, hvalid.trans hv⟩
    have hsame : SameBut [.insulation] s s1 := by
      rw [hs1]
      simp [sameBut_iff]
    let e := s1.historyEntry h.stretch (a - b)
    let i2 := s1.insulation.takeEntry e
    let y := s1.resultReported e
    let ending : Ending := ⟨.ok, noteNone, i2.checkFields e⟩
    have hreported : Reported s1 e y := reported_resultReported s1 e
    rw [s1.validResult_eq] at hends
    obtain ⟨g, hg, hmonitor⟩ := hreported.watched
    have hy : y.insulation = { i2 with half := i2.half.map g } := hmonitor
  · intro n shorter v w f r verdict streak cond
    have he : e = ⟨s.billing.partTime, r, h.stretch, v, verdict⟩ := by
      simp only [e, State.historyEntry, hs1]
      rfl
    have hstreak : i2.streak = streak := by
      show nextStreak s1.insulation.streak e.verdict = _
      rw [he, hs1]
      exact nextStreak_eq _ _ _ _
    have hcond : i2.condition = cond := by
      show nextCondition s1.insulation.condition e.verdict e.rIso (threshold s1.insulation.settings.warn e.voltage)
        (threshold s1.insulation.settings.fault e.voltage) i2.streak s1.insulation.settings.k = _
      rw [hstreak, he, hs1]
      exact nextCondition_eq _ _ _ _ _ _
    have hi2 : i2 = { base with
        state := .measuring, prevDelta := some (a - b), unsettled := 0
        settled := if shorter then 0 else n
        stretch := if shorter then i.stretch - 1 else i.stretch
        streak := streak, condition := cond, last := some ⟨r, 0, w, f⟩
        history := (⟨s.billing.partTime, r, h.stretch, v, verdict⟩ :: i.history).take 8
        fresh := cond.permits
        half := some (begun (!h.positive) (if shorter then i.stretch - 1 else i.stretch)) } := by
      rw [← hcond, ← hstreak, ← he]
      simp only [i2, Insulation.takeEntry, he]
      simp only [hs1]
      rfl
    let t := y.endCheck ending
    have hti : t.insulation = { i2 with half := i2.half.map g, check := none } := by
      rw [State.endCheck_insulation, hy]
    have hwarn : t.attn.insulationWarn = y.attn.insulationWarn := y.endCheck_warn ending
    have hexec : exec (.halfPeriodEnd u) s = .next t := by
      refine congrArg Host.Outcome.next ?_
      rw [hends]
      cases hck : i.check with
      | none => exact State.afterCheck_of_same (by rw [State.endCheck_insulation]; exact hck.symm)
      | some ck =>
        refine (State.afterCheck_of_ended (by rw [hck]; rfl) (by rw [State.endCheck_insulation])).trans
          (State.drain_of_empty ?_)
        have hqueues := State.endHalf_queues s u
        rw [hends] at hqueues
        rw [State.queue_congr hqueues]
        exact hquiet.resolve_left (by rw [hck]; simp)
    have hfault (hc : cond ≠ .fault ∨ i.condition = .fault) :
        i2.condition ≠ .fault ∨ s1.insulation.condition = .fault := by
      rw [hcond, hs1]
      exact hc
    refine ⟨t, hexec, ?_, ?_, ?_, ?_, ?_, ?_, ?_, ?_, ?_, ?_, ?_, ?_, ?_, ?_, ?_, by rw [hti], ?_,
      fun hc hb => ?_, fun hc hf => ?_, fun hc hb => ?_, fun hc hb => ?_, fun hck hc hf => ?_,
      fun ck hck hwf hc => ?_⟩
    iterate 11 rw [hti, hi2]
    · rw [hti, hi2]
      show cond.permits = decide (cond = .ok ∨ cond = .warning)
      rw [Bool.eq_iff_iff, Condition.permits_iff, decide_eq_true_eq]
    · rw [hti, hi2]
    · rw [hti, hi2]
    · rw [hti, hi2]
    · refine ⟨g (begun (!h.positive) (if shorter then i.stretch - 1 else i.stretch)), by rw [hti, hi2]; rfl, ?_⟩
      have hcourse := hg (begun (!h.positive) (if shorter then i.stretch - 1 else i.stretch))
      simp only [HalfPeriod.course, Prod.mk.injEq] at hcourse
      obtain ⟨hpositive, hstretch, -, helapsed, -⟩ := hcourse
      exact ⟨hpositive, helapsed, by rw [hstretch, hti, hi2]⟩
    · have htrip := hreported.fault (by exact hcond.trans hc) (by rw [hs1]; exact hb)
      rw [State.endCheck_trips, State.endCheck_power]
      rw [hs1] at htrip
      exact htrip
    · rw [State.endCheck_power]
      refine hreported.stops (by rw [hs1]; exact hf) ?_
      rw [show (s1.insulation.takeEntry e).condition = cond from hcond, hc]
      rfl
    · rw [hwarn]
      refine hreported.warns ?_ ?_
      · rw [show (s1.insulation.takeEntry e).condition = cond from hcond, Condition.warns_iff]
        exact hc
      · rw [hs1]
        show i.condition.warns = false
        rcases hb with hb | hb <;> rw [hb] <;> rfl
    · rw [hwarn]
      refine hreported.clears ?_ ?_
      · rw [show (s1.insulation.takeEntry e).condition = cond from hcond, hc]
        rfl
      · rw [hs1]
        exact (Condition.warns_iff _).mpr hb
    · have hpermits : s1.insulation.fresh = false ∨ (s1.insulation.takeEntry e).condition.permits = true := by
        rw [show (s1.insulation.takeEntry e).condition = cond from hcond, hs1]
        refine hf.imp_right fun hne => (Condition.permits_iff _).mpr ?_
        have hknown : cond ≠ .unknown := fun hu => nextCondition_known i.condition r w f streak i.settings.k
          ((nextCondition_eq _ _ _ _ _ _).trans hu)
        cases hcase : cond with
        | ok => exact .inl rfl
        | warning => exact .inr rfl
        | fault => exact absurd hcase hne
        | unknown => exact absurd hcase hknown
      obtain ⟨hframe, hcauses⟩ := hreported.quiet (hfault hc) hpermits
      have halone : t = y := State.endCheck_of_none _ (by rw [hy, hi2]; exact hck)
      rw [halone]
      refine ⟨(hsame.mono (by simp)).trans hframe, OtherCauses.trans (t := s1) (.refl _ ?_) hcauses⟩
      rw [hs1]
      rfl
    · have hframe := hreported.kept (hfault hc)
      have hwf1 : y.mem.wf = true := by
        rw [hframe .mem (by simp), hsame .mem (by simp)]
        exact hwf
      have hcheck : y.insulation.check = some ck := by
        rw [hy, hi2]
        exact hck
      have hend := endStands_finish (s := y) (v := y.withInsulation { y.insulation with check := none })
        (n := ck.slot) ending rfl hwf1
      have ht' : t = (y.withInsulation { y.insulation with check := none }).finish ck.slot ending :=
        State.endCheck_of_some _ hcheck
      rw [ht']
      exact ⟨hend.state, hend.outcome, by rw [State.finish_attn]; rfl⟩
  · have hcheck : y.insulation.check = some ck := by
      rw [hy, show i2 = s1.insulation.takeEntry e from rfl, hs1]
      exact hck
    have hbut : OrdersBut .none s := (ordersShow_iff s).mp horders
    have hbut1 : OrdersBut .none s1 := by
      refine hbut.parts (hsame .mem (by simp)) (hsame .link (by simp)) (hsame .orders (by simp))
        (by rw [hsame .power (by simp)]) (by rw [hsame .heating (by simp)]) ?_ (by rw [hsame .billing (by simp)])
      rw [hs1]
      rfl
    have hbuty : OrdersBut .none y := hbut1.resultReported e
    obtain ⟨p, hp, hdone, hended, hposted⟩ :=
      checkEnds_drains (l := .none) (by simp [Busy.none]) hbuty hcheck ending
    let t := (y.endCheck ending).drain .insulation
    have hexec : exec (.halfPeriodEnd u) s = .next t := by
      refine congrArg Host.Outcome.next ?_
      rw [hends]
      exact State.afterCheck_of_ended (by rw [hck]; rfl) (by rw [State.endCheck_insulation])
    have hcopies (k : SlotNo) (q : Posted) (hq : (s.slot k).posted = some q) :
        (y.slot k).posted = some q := by
      have h1 : ((s1.newCondition i2).slot k).posted = some q := by
        rw [State.slot_congr (s := s) ((s1.newCondition_frame i2 .orders (by simp)).trans
          (hsame .orders (by simp)))]
        exact hq
      exact (posted_kept k q).tripIf (l := .none) _ _ h1
    have hends' : y.endCheck ending = (y.withInsulation { y.insulation with check := none }).finish ck.slot ending :=
      State.endCheck_of_some _ hcheck
    have hend := endStands_finish (s := y) (v := y.withInsulation { y.insulation with check := none })
      (n := ck.slot) ending rfl hbuty.wf
    have hqueues : (y.endCheck ending).queue .insulation = s.queue .insulation := by
      have hq := State.endHalf_queues s u
      rw [hends] at hq
      exact State.queue_congr hq _
    have hwaiting : (y.endCheck ending).queuesMonitor := by
      have hb := hbuty.checkEnds ending hcheck
      rw [← hends'] at hb
      exact hb.queuesMonitor
    have hresult : HasResult t := hasResult_kept.drain hwaiting (by
      rw [HasResult, State.endCheck_insulation, hy]
      exact ⟨rfl, List.length_take_le 8 _⟩)
    refine ⟨t, hexec, ?_, by rw [hdone.slot], ?_, fun hempty => ?_, hresult.1, hresult.2⟩
    · exact drained_of_ordersShow ((ordersShow_iff _).mpr hdone.orders)
        (fun k q hq => hposted k q (hcopies k q hq)) (State.drain_done _ _)
    · rw [hdone.reads _ (.inr (by omega)), hends']
      exact hend.outcome
    · rw [show t = y.endCheck ending from State.drain_of_empty (hqueues.trans hempty), State.endCheck_insulation]

end Sys2Proof.Machine
end

/-! # The control period's drives (R113 to R126) -/

section
namespace Sys2Proof.Machine

/-! ## The allocation (R114) -/

theorem PeriodInputs.heaterAsk_eq (i : PeriodInputs) (eta : Nat) :
    i.heaterAsk eta = if i.source != .pack then inletFor eta i.heatDemand else 0 := by
  unfold PeriodInputs.heaterAsk
  split <;> next h => rw [h]; rfl

theorem serve_eq (policy : Policy) (g h c : Nat) : serve policy g h c =
    ⟨if policy == .heatFirst then min h g else min h (g - min c g),
      if policy == .heatFirst then min c (g - min h g) else min c g⟩ := by
  cases policy <;> rfl

/-- The two shares never exceed the grant they are served from. -/
theorem serve_le (policy : Policy) (g h c : Nat) :
    (serve policy g h c).heaterIn + (serve policy g h c).chargeIn ≤ g := by
  cases policy <;> simp only [serve] <;> omega

theorem Source.usesPack_eq (source : Source) : source.usesPack = (source != .supply) := by
  cases source <;> rfl

/-! ## The relay need of a period (R116, R170, R172) -/

/-- The relay after a period's need. -/
def State.relayNeeded (s : State) (need : Bool) : Relay :=
  if need = true then
    (match s.relay.state with
      | .opened => if s.pins.infb then ⟨.closed, none, false⟩ else ⟨.closing, some 0, false⟩
      | .closed => ⟨.closed, none, s.relay.skips⟩
      | _ => s.relay)
  else if s.power.need = true ∧ s.relay.state = .closed then ⟨.closed, some 0, s.relay.skips⟩
  else s.relay

theorem State.setNeed_eq (s : State) : s.setNeed =
    (s.withPower { s.power with need := true }).withRelay (s.relayNeeded true) := by
  have hopened (h : s.relay.state = .opened) : s.relayNeeded true =
      if s.pins.infb then ⟨.closed, none, false⟩ else ⟨.closing, some 0, false⟩ := by
    simp only [State.relayNeeded, h, if_true]
  have hclosed (h : s.relay.state = .closed) : s.relayNeeded true = ⟨.closed, none, s.relay.skips⟩ := by
    simp only [State.relayNeeded, h, if_true]
  unfold State.setNeed
  extract_lets _ s1
  split
  next h =>
    rw [hopened h]
    cases hinfb : s.pins.infb with
    | true =>
      rw [State.enterClosing, if_pos (show s1.pins.infb = true from hinfb)]
      rfl
    | false =>
      rw [State.enterClosing, if_neg (by rw [show s1.pins.infb = false from hinfb]; decide)]
      rfl
  next h => rw [hclosed h]; rfl
  all_goals next h => simp only [State.relayNeeded, h, if_true]; rfl

theorem State.withdrawNeed_eq (s : State) : s.withdrawNeed =
    (s.withPower { s.power with need := false }).withRelay (s.relayNeeded false) := by
  have hrelay : s.relayNeeded false = if s.power.need = true ∧ s.relay.state = .closed then
      ⟨.closed, some 0, s.relay.skips⟩ else s.relay := if_neg (by decide)
  unfold State.withdrawNeed
  cases hneed : s.power.need with
  | true =>
    rw [hrelay, if_pos rfl]
    extract_lets _ s1
    by_cases hstate : s.relay.state = .closed
    · rw [if_pos hstate, if_pos ⟨hneed, hstate⟩]
      rfl
    · rw [if_neg hstate, if_neg fun h => hstate h.2]
      rfl
  | false =>
    rw [hrelay, if_neg (by decide), if_neg (by simp [hneed]), ← hneed]
    rfl

theorem State.periodNeed_eq (s : State) (need : Bool) : s.periodNeed need =
    (s.withPower { s.power with need := need }).withRelay (s.relayNeeded need) := by
  cases need with
  | true => exact s.setNeed_eq
  | false => exact s.withdrawNeed_eq

/-! ## The drives of a period (R117 to R120, R144) -/

/-- What the half-period sees of a period's new drives. -/
def HalfPeriod.sees (h : HalfPeriod) (dutyBefore iDem duty : Nat) : HalfPeriod :=
  { h with
    dutyLow := min (min h.dutyLow dutyBefore) duty
    dutyHigh := max (max h.dutyHigh dutyBefore) duty
    demLow := min h.demLow iDem
    demHigh := max h.demHigh iDem }

theorem HalfPeriod.watch_watch (h : HalfPeriod) (d1 d2 iDem : Nat) :
    (h.watch d1 iDem).watch d2 iDem = h.sees d1 iDem d2 := by
  simp only [HalfPeriod.watch, HalfPeriod.sees, min_assoc, max_assoc, min_self, max_self]

/-- The state after a period's drives are set. -/
theorem State.setDrives_eq (s : State) (iDem duty : Nat) : (s.setDemand iDem).setDuty duty =
    (s.withPower { s.power with iDem := iDem, duty := duty }).withInsulation { s.insulation with
      half := s.insulation.half.map fun h => h.sees s.power.duty iDem duty } := by
  have hhalf : (s.insulation.half.map fun h => h.watch s.power.duty iDem).map (fun h => h.watch duty iDem) =
      s.insulation.half.map fun h => h.sees s.power.duty iDem duty := by
    rw [Option.map_map]
    exact congrArg (fun f => s.insulation.half.map f) (funext fun h => h.watch_watch _ _ _)
  rw [← hhalf]
  rfl

/-! ## The values of a period -/

/-- What a control period forms: need, demand, heater powers, duty. -/
structure PeriodDrives where
  need : Bool
  iDem : Nat
  supplyFed : Nat
  packFed : Nat
  duty : Nat

/-- The drives that a control period forms from its shares and target (R116 to R120). -/
def State.periodDrives (s : State) (i : PeriodInputs) (sh : Shares) (iTgt : Nat) : PeriodDrives :=
  let iDem := slew i.relayClosed i.quiet s.power.stage.sUp s.power.iDem iTgt
  let supplyFed := supplyFedPower s.power.stage.eta sh.heaterIn iDem i.v
  let packFed := packFedPower i s.pins.pkon s.heaterHeldOff sh.chargeIn supplyFed
  ⟨i.allGates && decide (0 < iTgt), iDem, supplyFed, packFed,
    nextDuty s.heaterHeldOff i.quiet s.power.duty (dutyFor s.power.stage.rH i.v (supplyFed + packFed))⟩

/-- A control period before its reports, part by part. -/
theorem State.drivePeriod_eq (s : State) (i : PeriodInputs) (sh : Shares) (iTgt : Nat) :
    let d := s.periodDrives i sh iTgt
    s.drivePeriod i sh iTgt =
      (((s.withPower { s.power with
          need := d.need, iDem := d.iDem, duty := d.duty, supplyFed := d.supplyFed, packFed := d.packFed
          lastV := i.v
          last := ⟨i.grant, sh.heaterIn, sh.chargeIn, iTgt, d.iDem, d.duty, d.supplyFed + d.packFed⟩
          charge := s.power.charge.map fun c =>
            c.afterPeriod i.allGates s.power.stage.eta i.v sh.chargeIn d.iDem iTgt }).withRelay
        (s.relayNeeded d.need)).withInsulation { s.insulation with
          half := s.insulation.half.map fun h => h.sees s.power.duty d.iDem d.duty }).withHeating
        { s.heating with plan := s.heating.plan.map fun p => p.takePower (d.supplyFed + d.packFed) } := by
  intro d
  simp only [State.drivePeriod, State.periodNeed_eq, State.setDrives_eq]
  rfl

/-! ## The end of a CHARGE and an overvoltage trip -/

theorem State.endCharge_of_some {s : State} {c : Charge} (cause : Byte) (h : s.power.charge = some c) :
    s.endCharge cause = s.dropCharge.finish c.slot ⟨.ended, cause, c.fields s.power.iDem⟩ := by
  simp only [State.endCharge, h]

theorem State.finish_staysDone (s : State) {n k : SlotNo} (e : Ending)
    (h : (s.slot k).state = .done ∨ k = n) : ((s.finish n e).slot k).state = .done := by
  by_cases hk : k = n
  · rw [hk, State.slot_finish_same]
  · rw [State.slot_finish_other _ _ hk]
    exact h.resolve_right hk

/-- A DONE slot, and the slot of a CHARGE that the trip ends, are DONE after a new trip's report. -/
theorem State.tripReport_done {s : State} {k : TripKind} {n : SlotNo} (hnew : s.trips.set.has k = false)
    (h : (s.slot n).state = .done ∨ ∃ c, s.power.charge = some c ∧ c.slot = n) :
    ((s.tripReport k).slot n).state = .done := by
  have hlatched := latched_tripLatched s k
  have hpower : (s.tripOpened k).power = (s.tripLatched k).power := State.openRequest_power _ hlatched.iDem
  have horders : (s.tripOpened k).orders = s.orders := by
    rw [State.tripOpened, State.openRequest_orders]
    exact hlatched.same .orders (by simp)
  let x := s.tripOpened k
  have hx : (x.slot n).state = .done ∨ ∃ c, x.power.charge = some c ∧ c.slot = n := by
    rcases h with h | ⟨c, hc, hn⟩
    · exact .inl (by rw [State.slot_congr horders]; exact h)
    · refine .inr ⟨_, by rw [hpower, hlatched.charge, hc]; rfl, ?_⟩
      rw [← hn]
      split <;> rfl
  have hcharge : (x.tripCharge.slot n).state = .done := by
    cases hc : x.power.charge with
    | none =>
      rw [State.tripCharge_of_none hc]
      exact hx.resolve_right fun ⟨c, hc', _⟩ => by rw [hc] at hc'; cases hc'
    | some c =>
      rw [State.tripCharge_of_some hc]
      refine State.finish_staysDone _ _ (hx.imp_right ?_)
      rintro ⟨d, hd, rfl⟩
      rw [Option.some.inj (hc.symm.trans hd)]
  have hplan : (x.tripCharge.tripPlan.slot n).state = .done := by
    cases hp : x.tripCharge.heating.plan with
    | none => rw [State.tripPlan_of_none hp]; exact hcharge
    | some p =>
      rw [State.tripPlan_of_some hp]
      exact State.finish_staysDone x.tripCharge.dropPlan _ (.inl hcharge)
  let u := x.tripCharge.tripPlan
  have heq : s.tripReport k = (u.closeInterval .trip u.billing.band false).weldPasses k :=
    State.tripReport_of_new hnew
  rw [heq, State.slot_congr (s := u) (by
    rw [State.weldPasses_orders]
    exact (entered_closeInterval u .trip u.billing.band false).same .orders (by simp))]
  exact hplan

end Sys2Proof.Machine
end

/-! # The control period (O49) -/

section
namespace Sys2Proof.Machine

theorem slew_eq (st : RelayState) (quiet : Bool) (sUp iDem iTgt : Nat) :
    slew (st == .closed) quiet sUp iDem iTgt =
      if st ≠ .closed then 0
      else if iTgt < iDem then iTgt else if quiet then iDem else min (iDem + sUp) iTgt := by
  cases st <;> rfl

theorem chargeStateOf_eq (gatesHold : Bool) (v vLim iDem iTgt : Nat) :
    chargeStateOf gatesHold v vLim iDem iTgt =
      if gatesHold = false then .gated
      else if vLim ≤ v then .tapering else if iDem < iTgt then .ramping else .steady := by
  cases gatesHold <;> rfl

theorem endsFull_iff (c : Charge) (gatesHold : Bool) (eta v chargeIn : Nat) :
    endsFull c gatesHold eta v chargeIn = true ↔
      gatesHold = true ∧ c.vLim ≤ v ∧ cvUpdate c gatesHold eta v chargeIn < c.endCurrent := by
  simp only [endsFull, Bool.and_eq_true, decide_eq_true_eq, and_assoc]

/-- The reports of a period, by what a running CHARGE has reached. -/
theorem exec_controlPeriod (s : State) (sh : Shares) (iTgt : Nat)
    (hsh : allocate s.power.stage s.power.charge s.periodInputs = sh)
    (ht : targetDemand s.power.stage s.periodInputs.v sh = iTgt) :
    (s.power.charge = none →
      exec .controlPeriod s = .next (s.drivePeriod s.periodInputs sh iTgt))
    ∧ ∀ c, s.power.charge = some c → exec .controlPeriod s =
      .next ((s.drivePeriod s.periodInputs sh iTgt).periodReports
        (endsFull c s.periodInputs.allGates s.power.stage.eta s.periodInputs.v sh.chargeIn)
        (ovUpdate c s.periodInputs.v == 3 && c.ovCount != 3)) := by
  subst hsh
  subst ht
  refine ⟨fun hnone => ?_, fun c hc => ?_⟩
  · show execControlPeriod s = _
    simp only [execControlPeriod, hnone]
    rfl
  · show execControlPeriod s = _
    simp only [execControlPeriod, hc]

/-- Settles O49. -/
theorem controlPeriodAllocates : Obligations.ControlPeriodAllocates := by
  intro s p st v gates g ask demand fromSupply fromPack heatFirst cap hAsk cAsk hIn cIn iTgt iDem off supplyFed
    packFed dutyTgt duty need last update full third
  let i := s.periodInputs
  have hdemand : i.heatDemand = demand := rfl
  have hsource : (i.source != .pack) = fromSupply := by
    simp only [i, State.periodInputs, fromSupply]
    cases s.heating.plan <;> rfl
  have hpack : (i.planRuns && i.source.usesPack) = fromPack := by
    simp only [i, State.periodInputs, fromPack, Source.usesPack_eq]
    cases s.heating.plan <;> rfl
  have hpolicy : (i.policy == .heatFirst) = heatFirst := by
    simp only [i, State.periodInputs, heatFirst]
    cases s.heating.plan <;> rfl
  have hcap : currentCap i.acceptance st.stageMax p.charge = cap := rfl
  have hask : i.heaterAsk st.eta = hAsk := by
    rw [PeriodInputs.heaterAsk_eq, hsource]
    rfl
  have hserve : allocate s.power.stage s.power.charge i = serve i.policy g hAsk cAsk := by
    rw [← hask]
    rfl
  have hsh : allocate s.power.stage s.power.charge i = ⟨hIn, cIn⟩ := by
    rw [hserve, serve_eq, hpolicy]
  have htarget : targetDemand s.power.stage i.v ⟨hIn, cIn⟩ = iTgt := rfl
  have hslew : slew i.relayClosed i.quiet st.sUp p.iDem iTgt = iDem := slew_eq _ _ _ _ _
  have hoff : s.heaterHeldOff = off := by
    simp only [State.heaterHeldOff, Heating.guarded, off, Bool.or_assoc]
  have hdrives : s.periodDrives i ⟨hIn, cIn⟩ iTgt = ⟨need, iDem, supplyFed, packFed, duty⟩ := by
    simp only [State.periodDrives]
    rw [hslew, hoff]
    have hfed : packFedPower i s.pins.pkon off cIn (supplyFedPower st.eta hIn iDem i.v) = packFed := by
      rw [packFedPower, hpack]
      rfl
    rw [hfed]
    rfl
  have hupdate (c : Charge) : c.afterPeriod i.allGates st.eta i.v cIn iDem iTgt = update c := by
    rw [Charge.afterPeriod, chargeStateOf_eq]
    rfl
  have hfull (c : Charge) : endsFull c i.allGates s.power.stage.eta i.v cIn = true ↔ full c := endsFull_iff _ _ _ _ _
  have hthird (c : Charge) : (ovUpdate c i.v == 3 && c.ovCount != 3) = true ↔ third c := by
    simp only [Bool.and_eq_true, beq_iff_eq, bne_iff_ne]
    exact Iff.rfl
  obtain ⟨hnone, hsome⟩ := exec_controlPeriod s ⟨hIn, cIn⟩ iTgt hsh htarget
  have hd := s.drivePeriod_eq i ⟨hIn, cIn⟩ iTgt
  simp only [hdrives] at hd
  let w := s.drivePeriod i ⟨hIn, cIn⟩ iTgt
  have hpower : w.power = { p with
      need := need, iDem := iDem, duty := duty, supplyFed := supplyFed, packFed := packFed, lastV := v
      last := last, charge := p.charge.map update } := by
    show (s.drivePeriod i ⟨hIn, cIn⟩ iTgt).power = _
    rw [hd, ← show (fun c => c.afterPeriod i.allGates st.eta i.v cIn iDem iTgt) = update from funext hupdate]
    rfl
  have hcharge (c : Charge) (hc : p.charge = some c) : w.power.charge = some (update c) := by
    rw [hpower]
    show p.charge.map update = _
    rw [hc]
    rfl
  have hframe : SameBut [.power, .relay, .insulation, .heating] s w := by
    show SameBut _ s (s.drivePeriod i ⟨hIn, cIn⟩ iTgt)
    rw [hd]
    simp [sameBut_iff]
  refine ⟨?_, fun hquiet => ⟨w, ?_, hframe, hpower, ?_, ?_, ?_⟩, fun c hc hf ht hwf => ?_, fun c hc ht hnew => ?_⟩
  · have hle := serve_le i.policy g hAsk cAsk
    rw [← hserve, hsh] at hle
    refine hle.trans ?_
    show (if gates then p.effGrant else 0) ≤ p.effGrant
    split <;> omega
  · cases hc : p.charge with
    | none => exact hnone hc
    | some c =>
      obtain ⟨hnf, hnt⟩ := hquiet c hc
      rw [hsome c hc, Bool.eq_false_iff.mpr (mt (hfull c).mp hnf), Bool.eq_false_iff.mpr (mt (hthird c).mp hnt)]
      rfl
  · show (s.drivePeriod i ⟨hIn, cIn⟩ iTgt).heating = _
    rw [hd]
    rfl
  · show (s.drivePeriod i ⟨hIn, cIn⟩ iTgt).relay = _
    rw [hd]
    rfl
  · show (s.drivePeriod i ⟨hIn, cIn⟩ iTgt).insulation = _
    rw [hd]
    rfl
  · have hexec : exec .controlPeriod s = .next (w.endCharge endFull) := by
      rw [hsome c hc, (hfull c).mpr hf, Bool.eq_false_iff.mpr (mt (hthird c).mp ht)]
      rfl
    let e : Ending := ⟨.ended, endFull, (update c).fields w.power.iDem⟩
    have hends : w.endCharge endFull = w.dropCharge.finish c.slot e :=
      State.endCharge_of_some (c := update c) endFull (hcharge c hc)
    have hmem : w.dropCharge.mem = s.mem := hframe .mem (by simp)
    have horders : w.dropCharge.orders = s.orders := hframe .orders (by simp)
    have hattn : w.dropCharge.attn = s.attn := hframe .attn (by simp)
    obtain ⟨hout, hnote⟩ := State.finish_outcome w.dropCharge c.slot e (by rw [hmem]; exact hwf)
    rw [hends] at hexec
    refine ⟨_, hexec, by rw [State.finish_power]; rfl, by rw [State.slot_finish_same], hout, hnote,
      by rw [State.finish_attn]; rfl, ?_, ?_, fun a ha => ?_, ⟨fun k hk => ?_, ?_, ?_⟩,
      otherCauses_finish c.slot e hattn⟩
    · rw [State.finish_power]
      show w.power.iDem = iDem
      rw [hpower]
    · rw [State.finish_power]
      show w.power.last = last
      rw [hpower]
    · rw [State.finish_read_other _ _ _ ha, hmem]
    · rw [State.slot_finish_other _ _ hk, State.slot_congr horders]
    · rw [State.finish_queues, horders]
    · show w.dropCharge.orders.notices = _
      rw [horders]
  · let u := if endsFull c i.allGates s.power.stage.eta i.v cIn then w.endCharge endFull else w
    have hexec : exec .controlPeriod s = .next (u.tripReport .packOvervoltage) := by
      rw [hsome c hc, (hthird c).mpr ht]
      rfl
    have hu : u.trips = s.trips ∧ ((u.slot c.slot).state = .done
        ∨ ∃ d, u.power.charge = some d ∧ d.slot = c.slot) := by
      simp only [u]
      split
      · rw [State.endCharge_of_some (c := update c) endFull (hcharge c hc)]
        refine ⟨?_, .inl (congrArg Slot.state (State.slot_finish_same w.dropCharge c.slot _))⟩
        rw [State.finish_trips]
        exact hframe .trips (by simp)
      · exact ⟨hframe .trips (by simp), .inr ⟨update c, hcharge c hc, rfl⟩⟩
    obtain ⟨htrips, hslot⟩ := hu
    have hnew' : u.trips.set.has .packOvervoltage = false := by
      rw [htrips]
      exact hnew
    have h := tripped_tripReport hnew'
    exact ⟨_, hexec, by rw [h.trips]; rfl, h.charge, h.iDem, h.duty, State.tripReport_done hnew' hslot⟩

end Sys2Proof.Machine
end

/-! # A metering frame (O44) -/

section
namespace Sys2Proof.Machine

/-! ## The inlet voltage and current (R46) -/

theorem mem_voltages {phases : List Phase} {x : Nat} :
    x ∈ (phases.map (·.voltage)).filter (fun v => decide (500 < v)) ↔
      (∃ p ∈ phases, p.voltage = x) ∧ 500 < x := by
  simp only [List.mem_filter, List.mem_map, decide_eq_true_eq]

theorem inletVoltage_eq {phases : List Phase} {x : Nat} (hx : 0 < x) : inletVoltage phases = x ↔
    (∃ p ∈ phases, p.voltage = x) ∧ 500 < x ∧ ∀ p ∈ phases, 500 < p.voltage → x ≤ p.voltage := by
  have hget : inletVoltage phases = x ↔
      ((phases.map (·.voltage)).filter fun v => decide (500 < v)).min? = some x := by
    unfold inletVoltage
    cases ((phases.map (·.voltage)).filter fun v => decide (500 < v)).min? with
    | none => simp; omega
    | some y => simp
  rw [hget, List.min?_eq_some_iff, mem_voltages, and_assoc]
  refine and_congr_right fun _ => and_congr_right fun _ => ⟨fun h p hp hlow => ?_, fun h y hy => ?_⟩
  · exact h _ (mem_voltages.mpr ⟨⟨p, hp, rfl⟩, hlow⟩)
  · obtain ⟨⟨p, hp, rfl⟩, hlow⟩ := mem_voltages.mp hy
    exact h p hp hlow

theorem inletVoltage_zero {phases : List Phase} :
    inletVoltage phases = 0 ↔ ∀ p ∈ phases, p.voltage ≤ 500 := by
  have hnone : ((phases.map (·.voltage)).filter fun v => decide (500 < v)).min? = none ↔
      ∀ p ∈ phases, p.voltage ≤ 500 := by
    simp [List.min?_eq_none_iff, List.filter_eq_nil_iff]
  rw [← hnone]
  unfold inletVoltage
  cases hmin : ((phases.map (·.voltage)).filter fun v => decide (500 < v)).min? with
  | none => simp
  | some y =>
    have hy := (mem_voltages.mp (List.min?_mem hmin)).2
    simp
    omega

theorem inletCurrent_cases (phases : List Phase) :
    (phases = [] ∧ inletCurrent phases = 0)
      ∨ ((∃ p ∈ phases, p.current = inletCurrent phases) ∧ ∀ p ∈ phases, p.current ≤ inletCurrent phases) := by
  unfold inletCurrent
  cases hmax : (phases.map (·.current)).max? with
  | none => exact .inl ⟨by simpa using List.max?_eq_none_iff.mp hmax, rfl⟩
  | some y =>
    obtain ⟨hmem, hle⟩ := List.max?_eq_some_iff.mp hmax
    refine .inr ⟨by simpa using hmem, fun p hp => hle _ (List.mem_map_of_mem hp)⟩

/-! ## The stages of a frame (R48 to R57) -/

theorem Power.filterSupply_cases (p : Power) (v : Nat) : p.filterSupply v =
    if v < 1800 then { p with
      lowCount := min 5 (p.lowCount + 1)
      supplyLow := p.supplyLow || decide (min 5 (p.lowCount + 1) = 5) }
    else if v < 1950 then { p with lowCount := 0 }
    else { p with lowCount := 0, supplyLow := false } := rfl

/-- Stage 1 of a counted inlet, by its limit (R49). -/
theorem inletStage_eq (c : Channel) (raw : Int) : inletStage c raw =
    { energy := if 7200000 < c.energy raw then 7200000 else c.energy raw
      channel := if 7200000 < c.energy raw then { c with residue := 0 } else c.step raw
      limited := decide (7200000 < c.energy raw) } := by
  unfold inletStage
  by_cases h : (Config.inletLimit : Int) < c.energy raw
  · have h' : 7200000 < c.energy raw := h
    rw [if_pos h, if_pos h', if_pos h', decide_eq_true h']
    rfl
  · have h' : ¬7200000 < c.energy raw := h
    rw [if_neg h, if_neg h', if_neg h', decide_eq_false h']

/-- A limited energy is not reverse. -/
theorem limited_not_reverse {e : Int} : (if 7200000 < e then (7200000 : Int) else e) < 0 ↔ e < 0 := by
  split <;> omega

theorem Metering.frame_counted {m : Metering} (infb : Bool) (f : Frame) (h : m.closedSeen = true) :
    m.frame infb f = { (m.counted f).1 with
      readings := frameReadings f (m.counted f).2.eIn
      closedSeen := infb
      reports := m.reports ++ [(m.counted f).2] } := by
  simp only [Metering.frame, h, if_true]

theorem Metering.frame_discarded {m : Metering} (infb : Bool) (f : Frame) (h : m.closedSeen = false) :
    m.frame infb f = { (m.discarded f).1 with
      readings := frameReadings f 0
      closedSeen := infb
      reports := m.reports ++ [(m.discarded f).2] } := by
  simp only [Metering.frame, h, Bool.false_eq_true, if_false]
  rfl

/-! ## The current wait's end (R174) -/

theorem State.endCurrentWait_stays {s : State}
    (h : s.relay.state ≠ .currentWait ∨ 5 ≤ s.metering.readings.inletCurrent) : s.endCurrentWait = s :=
  if_neg fun hc => h.elim (fun hne => hne hc.1) fun hle => absurd hc.2 (Nat.not_lt.mpr hle)

theorem State.endCurrentWait_ends {s : State} (hstate : s.relay.state = .currentWait)
    (hlow : s.metering.readings.inletCurrent < 5) : s.endCurrentWait = s.enterRelease s.relay.skips :=
  if_pos ⟨hstate, hlow⟩

/-- Settles O44. -/
theorem frameMetered : Obligations.FrameMetered := by
  refine ⟨fun phases => ⟨fun x hx => inletVoltage_eq hx, inletVoltage_zero, fun p hp => ?_, fun hne => ?_⟩,
    fun s f => ?_⟩
  · rcases inletCurrent_cases phases with ⟨rfl, -⟩ | ⟨-, hle⟩
    · cases hp
    · exact hle p hp
  · rcases inletCurrent_cases phases with ⟨hnil, -⟩ | ⟨hex, -⟩
    · exact absurd hnil hne
    · exact hex
  intro m raw past fixed rest eRaw limited eIn w sums dc v low filtered
  let u := s.withMetering (m.frame s.pins.infb f)
  have hreadings : (m.frame s.pins.infb f).readings.inletVoltage = v
      ∧ (m.frame s.pins.infb f).readings.inletCurrent = min 800 (inletCurrent f.phases) := ⟨rfl, rfl⟩
  have hfilter : s.power.filterSupply v = filtered := s.power.filterSupply_cases v
  let y := (u.withPower filtered).failGateIf (!s.power.supplyLow) (!filtered.supplyLow)
  have hexec : exec (.meteringFrame f) s = .next y.endCurrentWait := rfl
  have hkept (h : s.power.supplyLow = true ∨ filtered.supplyLow = false) : y = u.withPower filtered :=
    State.failGateIf_kept _ (by simpa using h)
  have hfails (h1 : s.power.supplyLow = false) (h2 : filtered.supplyLow = true) :
      y = (u.withPower filtered).failGate :=
    State.failGateIf_failed _ (by rw [h1]; rfl) (by rw [h2]; rfl)
  have hyrelay : y.relay.state = s.relay.state := by
    rcases Bool.eq_false_or_eq_true s.power.supplyLow with h1 | h1
    · rw [hkept (.inl h1)]; rfl
    · rcases Bool.eq_false_or_eq_true filtered.supplyLow with h2 | h2
      · rw [hfails h1 h2, State.failGate_relay_state]; rfl
      · rw [hkept (.inr h2)]; rfl
  have hybilling : y.billing = s.billing := by simp [y, u]
  have hypins : y.pins = s.pins := by simp [y, u]
  have hymetering : y.metering = m.frame s.pins.infb f := by simp [y, u]
  have hcurrent : y.metering.readings.inletCurrent = min 800 (inletCurrent f.phases) := by rw [hymetering]; rfl
  have hmetering : y.endCurrentWait.metering = m.frame s.pins.infb f := by
    rw [State.endCurrentWait_metering, hymetering]
  have hpower : y.endCurrentWait.power = y.power := State.endCurrentWait_power y
  have hwaits (hstate : s.relay.state = .currentWait) (hlow : min 800 (inletCurrent f.phases) < 5) :
      y.endCurrentWait = y.enterRelease s.relay.skips := by
    have hsame : y.relay = s.relay := by
      rcases Bool.eq_false_or_eq_true s.power.supplyLow with h1 | h1
      · rw [hkept (.inl h1)]; rfl
      · rcases Bool.eq_false_or_eq_true filtered.supplyLow with h2 | h2
        · rw [hfails h1 h2, State.failGate_relay (by
            show s.relay.state ≠ .closed
            rw [hstate]
            decide)]
          rfl
        · rw [hkept (.inr h2)]; rfl
    rw [State.endCurrentWait_ends (hyrelay.trans hstate) (by rw [hcurrent]; exact hlow), hsame]
  refine ⟨y.endCurrentWait, hexec, ?_, fun hseen => ?_, fun hseen => ?_, fun hk => ?_, fun h1 h2 => ?_,
    fun hstay => ?_, fun hstate hlow => ⟨fun hinfb => ?_, fun hinfb => ?_⟩, fun hk => ?_⟩
  · simp [sameBut_iff, y, u]
  · have hzero : eIn = 0 := if_neg (by rw [hseen]; decide)
    rw [hmetering, Metering.frame_discarded _ _ hseen]
    simp only [dc, hzero]
    rfl
  · have hstage : inletStage m.inlet (delivered f.inlet).energy =
        ⟨if 7200000 < eRaw then 7200000 else eRaw,
          if 7200000 < eRaw then { m.inlet with residue := 0 } else rest m.inlet f.inlet, limited⟩ :=
      inletStage_eq _ _
    have hcounts : (if 7200000 < eRaw then (7200000 : Int) else eRaw).toNat = eIn := by
      have hin : eIn = if limited then 7200000 else eRaw.toNat := if_pos hseen
      rw [hin]
      by_cases h : 7200000 < eRaw
      · rw [if_pos h, if_pos (decide_eq_true h)]
        rfl
      · rw [if_neg h, if_neg (by simpa [limited] using h)]
    have hregister : reverseAfter m.reverse (if 7200000 < eRaw then (7200000 : Int) else eRaw) =
        if eRaw < 0 then min 4294967295 (m.reverse + eRaw.natAbs) else m.reverse := by
      unfold reverseAfter
      by_cases h : eRaw < 0
      · rw [if_pos (limited_not_reverse.mpr h), if_pos h, if_neg (by omega)]
        rfl
      · rw [if_neg (mt limited_not_reverse.mp h), if_neg h]
    have hreverse : decide ((if 7200000 < eRaw then (7200000 : Int) else eRaw) < 0) = decide (eRaw < 0) :=
      decide_eq_decide.mpr limited_not_reverse
    have hchannel : (if 7200000 < eRaw then { m.inlet with residue := 0 } else rest m.inlet f.inlet) =
        if limited then { m.inlet with residue := 0 } else rest m.inlet f.inlet := by
      by_cases h : 7200000 < eRaw
      · rw [if_pos h, if_pos (decide_eq_true h)]
      · rw [if_neg h, if_neg (by simpa [limited] using h)]
    have hpast (c : RawChannel) : (delivered c).overrange = past c :=
      congrArg (c.overrange || ·) (decide_eq_decide.mpr ne_comm)
    have hover : frameOverrange f = (past f.inlet || past f.pack || past f.heater || past f.aux) := by
      simp only [frameOverrange, hpast]
    rw [hmetering, Metering.frame_counted _ _ hseen]
    simp only [Metering.counted, hstage, hcounts, hregister, hreverse, hchannel, hover]
    rfl
  · rw [hpower, hkept hk]
    rfl
  · rw [hpower, hfails h1 h2]
    refine ⟨?_, by simp [State.failGate_power], by simp [State.failGate_power]⟩
    rw [State.failGate_power]
    exact h2
  · rw [State.endCurrentWait_stays (by rw [hyrelay, hcurrent]; exact hstay)]
    exact ⟨hyrelay, hybilling⟩
  · rw [hwaits hstate hlow, State.enterRelease_closed _ (by rw [hypins, hinfb])]
    exact ⟨rfl, hybilling⟩
  · rw [hpower, hwaits hstate hlow, State.enterRelease_open _ (by rw [hypins, hinfb])]
    refine ⟨rfl, ?_⟩
    show y.billing.passed = _
    rw [hybilling]
    split
    next n h => exact Billing.passed_waiting h
    next h => exact Billing.passed_other fun n hn => h n hn
  · rw [hpower, hkept hk]
    show filtered.need = s.power.need
    rw [← hfilter, Power.filterSupply_cases]
    split
    · rfl
    · split <;> rfl

end Sys2Proof.Machine
end

/-! # A close begins (O40) -/

section
namespace Sys2Proof.Machine

/-! ## An open request that lets the current wait run (R173) -/

/-- The relay after such an open request while no need stands. -/
def State.requested (s : State) : Relay :=
  match s.relay.state with
  | .closed => ⟨.currentWait, some 0, false⟩
  | .closing => if s.pins.infb then ⟨.release, some 0, true⟩ else ⟨.opened, none, false⟩
  | .opened | .currentWait | .release | .stuck => s.relay

/-- What such an open request leaves. -/
structure OpenRequested (s t : State) : Prop where
  same : SameBut [.billing, .relay, .insulation] s t
  relay : t.relay = s.requested
  passes : s.requested.state = .opened → t.billing = s.billing.passed
  waits : s.requested.state ≠ .opened → t.billing = s.billing

theorem State.enterRelease_requested {s : State} (hstate : s.relay.state = .closing)
    (hneed : s.power.need = false) : OpenRequested s (s.enterRelease true) := by
  have hreq : s.requested = if s.pins.infb then ⟨.release, some 0, true⟩ else ⟨.opened, none, false⟩ := by
    simp only [State.requested, hstate]
  cases hinfb : s.pins.infb with
  | true =>
    rw [State.enterRelease_closed _ hinfb]
    rw [hinfb] at hreq
    exact ⟨by simp [sameBut_iff, State.setRelay], by rw [hreq]; rfl, fun h => (by rw [hreq] at h; cases h),
      fun _ => rfl⟩
  | false =>
    rw [State.enterRelease_open _ hinfb, hneed]
    rw [hinfb] at hreq
    exact ⟨by simp [sameBut_iff], by rw [hreq]; rfl, fun _ => rfl, fun h => absurd (by rw [hreq]; rfl) h⟩

theorem openRequested {s : State} (hdem : s.power.iDem = 0) (hneed : s.power.need = false) :
    OpenRequested s (s.openRequest false) := by
  have hstays (h : s.requested = s.relay) (hnot : s.relay.state ≠ .opened) : OpenRequested s s :=
    ⟨fun p _ => by cases p <;> rfl, h.symm, fun ho => absurd (h ▸ ho) hnot, fun _ => rfl⟩
  cases hstate : s.relay.state with
  | opened =>
    have hreq : s.requested = s.relay := by simp only [State.requested, hstate]
    rw [State.openRequest_opened _ hstate, State.passStep2_eq]
    exact ⟨by simp [sameBut_iff], by rw [hreq]; rfl, fun _ => rfl, fun h => absurd (by rw [hreq, hstate]) h⟩
  | closing =>
    rw [State.openRequest_closing _ hstate]
    exact State.enterRelease_requested hstate hneed
  | closed =>
    have hreq : s.requested = ⟨.currentWait, some 0, false⟩ := by simp only [State.requested, hstate]
    have hleft : s.leaveClosed.power = s.power := by
      rw [State.leaveClosed, State.setDemand_power, ← hdem]
    simp only [State.openRequest, hstate]
    refine ⟨sameBut_iff.mpr ?_, by rw [hreq]; rfl, fun h => (by rw [hreq] at h; cases h), fun _ => rfl⟩
    simpa [State.setRelay, State.leaveClosed] using hleft
  | currentWait =>
    simp only [State.openRequest, hstate]
    exact hstays (by simp only [State.requested, hstate]) (by simp [hstate])
  | release =>
    rw [State.openRequest_releasing _ (.inl hstate)]
    exact hstays (by simp only [State.requested, hstate]) (by simp [hstate])
  | stuck =>
    rw [State.openRequest_releasing _ (.inr hstate)]
    exact hstays (by simp only [State.requested, hstate]) (by simp [hstate])

/-! ## The first step of a close (R86) -/

/-- A running order stays while another order ends. -/
theorem Runs.finish {v : State} {n k : SlotNo} {p : Posted} (e : Ending) (h : Runs v n p) (hk : k ≠ n) :
    Runs (v.finish k e) n p := by
  obtain ⟨hslot, hstate, hresult⟩ := h
  have hread (a : Nat) (ha : engineBytes n a) : (v.finish k e).mem.read a = v.mem.read a :=
    State.finish_read_other _ _ _ (not_engineBytes_of_ne hk.symm ha)
  refine ⟨(State.slot_finish_other _ _ hk.symm).trans hslot, (hread _ (.inl rfl)).trans hstate, ?_⟩
  rw [← hresult]
  exact Memory.readAll_congr _ _ fun a h1 h2 => hread a (.inr ⟨h1, by omega⟩)

theorem Runs.keep {s t : State} {n : SlotNo} {p : Posted} (h : Runs s n p) (horders : t.orders = s.orders)
    (hmem : t.mem = s.mem) : Runs t n p := by
  obtain ⟨hslot, hstate, hresult⟩ := h
  exact ⟨(State.slot_congr horders n).trans hslot, by rw [hmem]; exact hstate, by rw [hmem]; exact hresult⟩

/-- A close that has begun, before its open request. -/
structure CloseStarted (s : State) (n : SlotNo) (p : Posted) (ses : Session) (t : State) : Prop where
  runs : Runs t n p
  billing : t.billing = { s.billing with
    session := some { ses with closing := true }
    close := some ⟨some n, .awaitRelay⟩ }
  iDem : t.power.iDem = 0
  need : t.power.need = false
  charge : t.power.charge = none
  relay : t.relay.state = s.relay.state ∧ (s.relay.state ≠ .closed → t.relay = s.relay)
  same : SameBut [.mem, .orders, .attn, .billing, .power, .relay, .insulation] s t
  queues : t.orders.queues = s.orders.queues
  plain : s.power.charge = none → ReadsSameBut (engineBytes n) s t ∧ OtherSlots n s t ∧ t.attn = s.attn
  ended : ∀ ch, s.power.charge = some ch → (t.slot ch.slot).state = .done
    ∧ t.mem.read (slotAddr ch.slot + 32) = 0x0A ∧ t.mem.read (slotAddr ch.slot + 33) = 0x11
    ∧ t.attn.orderDone = true ∧ ReadsSameBut (fun a => engineBytes n a ∨ engineBytes ch.slot a) s t

theorem closeStarted {s : State} {n : SlotNo} {p : Posted} {ses : Session} (hwf : s.mem.wf = true)
    (hch : ∀ ch, s.power.charge = some ch → ch.slot ≠ n) :
    CloseStarted s n p ses ((s.copyPost n p).startClose n ses) := by
  let v := ((s.copyPost n p).setSlotState n .running).withBilling { (s.copyPost n p).billing with
    session := some { ses with closing := true }
    close := some ⟨some n, .awaitRelay⟩ }
  have hv : (s.copyPost n p).startClose n ses = (v.endCharge endSessionClosed).failGate := rfl
  obtain ⟨hruns, hreads, hothers⟩ := runs_of (v := v) hwf rfl rfl
  have hsame : SameBut [.mem, .orders, .attn, .billing, .power, .relay, .insulation] s v := by
    simp [sameBut_iff, v]
  rw [hv]
  cases hcharge : s.power.charge with
  | none =>
    have hends : v.endCharge endSessionClosed = v := by
      simp only [State.endCharge, show v.power.charge = none from hcharge]
    rw [hends]
    exact
      { runs := hruns.keep (State.failGate_orders _) (State.failGate_mem _)
        billing := State.failGate_billing _
        iDem := by rw [State.failGate_power]
        need := by rw [State.failGate_power]
        charge := by
          rw [State.failGate_power]
          exact congrArg (Option.map _) hcharge
        relay := ⟨State.failGate_relay_state _, fun h => State.failGate_relay (s := v) h⟩
        same := hsame.trans (by simp [sameBut_iff])
        queues := by rw [State.failGate_orders]; rfl
        plain := fun _ => ⟨fun a ha => by rw [State.failGate_mem]; exact hreads a ha, by
          rw [OtherSlots, State.failGate_orders]
          exact ⟨fun k hk => (State.slot_congr (State.failGate_orders _) k).trans (hothers.1 k hk), hothers.2⟩,
          State.failGate_attn _⟩
        ended := fun ch h => by rw [hcharge] at h; cases h }
  | some c =>
    have hends : v.endCharge endSessionClosed =
        v.dropCharge.finish c.slot ⟨.ended, endSessionClosed, c.fields v.power.iDem⟩ :=
      State.endCharge_of_some _ hcharge
    have hne := hch c hcharge
    have hvwf : v.dropCharge.mem.wf = true :=
      State.setSlotState_wf _ _ _ (State.copyPost_wf s n p hwf)
    rw [hends]
    let e : Ending := ⟨.ended, endSessionClosed, c.fields v.power.iDem⟩
    obtain ⟨houtcome, hnote⟩ := State.finish_outcome v.dropCharge c.slot e hvwf
    exact
      { runs := (Runs.finish e (v := v.dropCharge) (hruns.keep rfl rfl) hne).keep (State.failGate_orders _)
          (State.failGate_mem _)
        billing := by
          rw [State.failGate_billing, State.finish_billing]
          rfl
        iDem := by rw [State.failGate_power]
        need := by rw [State.failGate_power]
        charge := by
          rw [State.failGate_power, State.finish_power]
          rfl
        relay := ⟨(State.failGate_relay_state _).trans (congrArg Relay.state (State.finish_relay _ _ _)),
          fun h => (State.failGate_relay (by rw [State.finish_relay]; exact h)).trans
            (State.finish_relay _ _ _)⟩
        same := hsame.trans (by simp [sameBut_iff, State.dropCharge])
        queues := by rw [State.failGate_orders, State.finish_queues]; rfl
        plain := fun h => (by rw [hcharge] at h; cases h)
        ended := fun ch h => by
          obtain rfl : c = ch := Option.some.inj (hcharge.symm.trans h)
          rw [State.failGate_mem, State.slot_congr (State.failGate_orders _), State.failGate_attn,
            State.slot_finish_same, State.finish_attn]
          refine ⟨rfl, houtcome, hnote, rfl, fun a ha => ?_⟩
          rw [State.failGate_mem, State.finish_read_other _ _ _ fun h => ha (.inr h)]
          exact hreads a fun h => ha (.inl h) }

/-! ## CLOSE SESSION at its take (R86, R173) -/

/-- A close whose relay has been asked to open. -/
structure CloseBegun (s : State) (n : SlotNo) (p : Posted) (ses : Session) (t : State) : Prop where
  started : ∃ x, CloseStarted s n p ses x ∧ SameBut [.billing, .relay, .insulation] x t
  relay : t.relay = s.requested
  waits : ¬(s.requested.state = .opened ∨ s.trips.set.weld = true) → t.billing = { s.billing with
    session := some { ses with closing := true }
    close := some ⟨some n, .awaitRelay⟩ }
  passes : s.requested.state = .opened ∨ s.trips.set.weld = true → t.billing = { s.billing with
    session := some { ses with closing := true }
    close := some ⟨some n, .awaitHeld⟩ }

theorem closeBegun {s : State} {n : SlotNo} {p : Posted} {ses : Session} (hwf : s.mem.wf = true)
    (hch : ∀ ch, s.power.charge = some ch → ch.slot ≠ n) :
    CloseBegun s n p ses (((s.copyPost n p).setSlotState n .running).beginClose n ses) := by
  let x := (s.copyPost n p).startClose n ses
  have hx : CloseStarted s n p ses x := closeStarted hwf hch
  let y := x.openRequest false
  have hy : OpenRequested x y := openRequested hx.iDem hx.need
  have hpins : x.pins = s.pins := hx.same .pins (by simp)
  have hreq : x.requested = s.requested := by
    simp only [State.requested, hx.relay.1, hpins]
    split
    · rfl
    · rfl
    all_goals next h => exact hx.relay.2 (by simp [h])
  have hweld : y.trips.set.weld = s.trips.set.weld := by
    have h1 : x.trips = s.trips := hx.same .trips (by simp)
    have h2 : y.trips = x.trips := hy.same .trips (by simp)
    rw [h2, h1]
  have hpassed : x.billing.passed = { s.billing with
      session := some { ses with closing := true }
      close := some ⟨some n, .awaitHeld⟩ } := by rw [hx.billing]; rfl
  have hrepassed : x.billing.passed.passed = x.billing.passed := by rw [hpassed]; rfl
  show CloseBegun s n p ses (if y.trips.set.weld then y.passStep2 else y)
  by_cases hw : s.trips.set.weld = true
  · rw [if_pos (hweld.trans hw), State.passStep2_eq]
    exact
      { started := ⟨x, hx, hy.same.trans (by simp [sameBut_iff])⟩
        relay := hy.relay.trans hreq
        waits := fun h => absurd (.inr hw) h
        passes := fun _ => by
          show y.billing.passed = _
          by_cases ho : x.requested.state = .opened
          · rw [hy.passes ho, hrepassed, hpassed]
          · rw [hy.waits ho, hpassed] }
  · rw [if_neg (fun h => hw (hweld.symm.trans h))]
    exact
      { started := ⟨x, hx, hy.same⟩
        relay := hy.relay.trans hreq
        waits := fun h => (hy.waits fun ho => h (.inl (hreq ▸ ho))).trans hx.billing
        passes := fun h => (hy.passes (hreq ▸ h.resolve_right hw)).trans hpassed }

/-- Settles O40: a CLOSE SESSION that waits runs, and one that passes goes on as its next row does. -/
theorem closeSessionBegins : Obligations.CloseSessionBegins := by
  intro s n tag id htakes c posted relay passes
  have hrelay : relay = s.requested := rfl
  have hexec : exec c s = .next ((s.copyPost n posted).takeCloseSession n id) :=
    exec_takesAtOnce (o := .closeSession id) htakes rfl rfl
  obtain ⟨-, -, hqueue, hwf⟩ := htakes
  have hrefuse (h : (s.copyPost n posted).takeCloseSession n id =
      (s.copyPost n posted).finish n (refusal .notNow)) : Refuses c s n posted .notNow :=
    refuses_of_finish hwf (hexec.trans (congrArg Host.Outcome.next h))
  have hbilling : (s.copyPost n posted).billing = s.billing := rfl
  refine ⟨fun hses => hrefuse ?_, fun ses hses => ⟨fun hnot => hrefuse ?_, fun hid hclose hch => ?_⟩⟩
  · simp only [State.takeCloseSession, hbilling, hses]
  · simp only [State.takeCloseSession, hbilling, hses]
    exact if_pos hnot
  · let t := ((s.copyPost n posted).setSlotState n .running).beginClose n ses
    have htaken : exec c s = .next t.continueClose := by
      rw [hexec]
      simp only [State.takeCloseSession, hbilling, hses]
      exact congrArg Host.Outcome.next (if_neg (by simp [hid, hclose]))
    have h : CloseBegun s n posted ses t := closeBegun hwf hch
    clear_value t
    obtain ⟨x, hx, hsame⟩ := h.started
    have hpower : t.power = x.power := hsame .power (by simp)
    have horders : t.orders = x.orders := hsame .orders (by simp)
    have hmem : t.mem = x.mem := hsame .mem (by simp)
    have hattn : t.attn = x.attn := hsame .attn (by simp)
    have hruns : Runs t n posted := hx.runs.keep horders hmem
    have hall : SameBut [.mem, .orders, .attn, .billing, .power, .relay, .insulation] s t :=
      hx.same.trans (hsame.mono (by simp))
    refine ⟨fun hwaits => ?_, fun hpasses => ?_⟩
    · have hstays : t.continueClose = t := by
        rw [State.continueClose, h.waits hwaits]
      refine ⟨t, by rw [htaken, hstays], hruns, h.waits hwaits, by rw [hpower, hx.iDem],
        by rw [hpower, hx.need], by rw [hpower, hx.charge], h.relay, hall, fun hnone => ?_, fun ch hsome => ?_⟩
      · obtain ⟨hreads, hothers, ha⟩ := hx.plain hnone
        refine ⟨fun a hb => by rw [hmem]; exact hreads a hb, ?_, hattn.trans ha⟩
        rw [OtherSlots, horders]
        exact ⟨fun k hk => (State.slot_congr horders k).trans (hothers.1 k hk), hothers.2⟩
      · rw [State.slot_congr horders, hmem, hattn]
        obtain ⟨hdone, houtcome, hnote, horder, hreads⟩ := hx.ended ch hsome
        exact ⟨hdone, houtcome, hnote, horder, fun a hb => by rw [hmem]; exact hreads a hb⟩
    · refine ⟨t, hruns, h.passes hpasses, by rw [hpower, hx.iDem], by rw [hpower, hx.need],
        by rw [hpower, hx.charge], h.relay, hall, htaken.trans ?_⟩
      have hdrained : t.continueClose.drain .billing = t.continueClose := by
        refine State.drain_of_empty ?_
        rw [State.queue_congr (State.continueClose_queues t), State.queue_congr (congrArg _ horders),
          State.queue_congr hx.queues]
        exact hqueue
      refine congrArg Host.Outcome.next ?_
      rw [State.afterClose, hdrained, ite_self]

end Sys2Proof.Machine
end

/-! # A close's records (R77, R82, R87, R101) -/

section
namespace Sys2Proof.Machine

/-! ## A pending table adopted (R70) -/

/-- The billing unit with a pending table adopted. -/
def Billing.adopted (b : Billing) : Billing :=
  { b with
    table := b.pendingTable.getD b.table
    pendingTable := none
    defaultTable := b.defaultTable && b.pendingTable.isNone }

theorem State.adoptPending_eq (s : State) : s.adoptPending = s.withBilling s.billing.adopted := by
  unfold State.adoptPending
  split
  next t h =>
    refine congrArg s.withBilling ?_
    simp only [Billing.adopted, h, Option.getD_some, Option.isNone_some, Bool.and_false]
  next h =>
    have hkept : s.billing.adopted = s.billing := by
      simp only [Billing.adopted, h, Option.getD_none, Option.isNone_none, Bool.and_true]
      rw [← h]
    rw [hkept]
    rfl

/-! ## The keepalive stops (R108) -/

/-- What the stop of the keepalive leaves of the power manager, the relay and the monitor. -/
def PowerStops (s t : State) : Prop :=
  t.power.keepalive = .stopped
    ∧ (s.power.keepalive ≠ .expired → t.power = { s.power with keepalive := .stopped }
      ∧ t.relay = s.relay ∧ t.insulation = s.insulation)

theorem powerStops_stopKeepalive (s : State) : PowerStops s s.stopKeepalive := by
  refine ⟨?_, fun h => ?_⟩
  · rw [State.stopKeepalive, State.setKeepalive_eq]
    exact (State.regrant_power _ _).2.2.2.1
  · have heff : ({ s.power with keepalive := .stopped } : Power).effGrant = s.power.effGrant := by
      cases hk : s.power.keepalive with
      | expired => exact absurd hk h
      | stopped => simp only [Power.effGrant, hk]
      | alive a b => simp only [Power.effGrant, hk]
    rw [State.stopKeepalive, State.setKeepalive_eq, State.regrant_of_kept (by rw [heff]; omega)]
    exact ⟨rfl, rfl, rfl⟩

theorem sameBut_stopKeepalive (s : State) : SameBut [.power, .relay, .insulation] s s.stopKeepalive :=
  sameBut_regrant s _

theorem PowerStops.congr {s u t v : State} (h : PowerStops s t) (hpower : u.power = s.power)
    (hrelay : u.relay = s.relay) (hinsulation : u.insulation = s.insulation) (hpower' : v.power = t.power)
    (hrelay' : v.relay = t.relay) (hinsulation' : v.insulation = t.insulation) : PowerStops u v := by
  rw [PowerStops, hpower', hpower, hrelay', hrelay, hinsulation', hinsulation]
  exact h

/-! ## SESSION_CLOSE composed (R87, R90, R91) -/

/-- What a session's SESSION_CLOSE bears and its order reports. -/
def Session.summary (ses : Session) (seq : Word) : CloseSummary :=
  ⟨ses.number, ses.written, ses.wh, ses.cost, ses.carries, seq⟩

/-- The billing unit with SESSION_CLOSE composed and the context discarded. -/
def Billing.sessionEnded (b : Billing) (slot : Option SlotNo) (ses : Session) : Billing :=
  { b with
    nextSeq := b.nextSeq + 1
    journalMeter := b.meter
    session := none
    interval := none
    close := some ⟨slot, .awaitJournal (ses.summary b.nextSeq)⟩ }

/-- SESSION_CLOSE with its sequence number. -/
def Billing.sessionRecord (b : Billing) (ses : Session) : Record :=
  { sessionCloseRecord b ses with seq := b.nextSeq }

theorem State.composeClose_eq (s : State) (slot : Option SlotNo) (ses : Session) :
    s.composeClose slot ses = ((s.withBilling (s.billing.sessionEnded slot ses)).stopKeepalive).enterRecord
      (s.billing.sessionRecord ses) := rfl

/-- The state as SESSION_CLOSE is placed, of the unit as the END close left it. -/
def State.closeReady (v : State) (slot : Option SlotNo) (ses : Session) : State :=
  (v.withBilling (v.billing.adopted.sessionEnded slot ses)).stopKeepalive

theorem State.closeReady_billing (v : State) (slot : Option SlotNo) (ses : Session) :
    (v.closeReady slot ses).billing = v.billing.adopted.sessionEnded slot ses :=
  sameBut_stopKeepalive _ .billing (by simp)

theorem State.closeReady_withBilling (v : State) (slot : Option SlotNo) (ses : Session) :
    (v.closeReady slot ses).withBilling (v.billing.adopted.sessionEnded slot ses) =
      v.closeReady slot ses := by
  rw [← State.closeReady_billing]
  rfl

/-- Steps 3 and 4 of the close as one (R87). -/
theorem State.continueClose_eq {s v : State} {slot : Option SlotNo} {ses : Session}
    (hclose : s.billing.close = some ⟨slot, .awaitHeld⟩) (hheld : s.billing.held = none)
    (hend : s.endClose = v) (hses : v.billing.session = some ses) :
    s.continueClose =
      ((v.closeReady slot ses).enterRecord (v.billing.adopted.sessionRecord ses)).completeClose := by
  have hses' : (v.withBilling v.billing.adopted).billing.session = some ses := hses
  rw [State.continueClose, hclose]
  simp only [hheld, Option.isSome_none, Bool.false_eq_true, if_false, hend, State.adoptPending_eq, hses']
  rfl

/-! ## The END close (R77, R87) -/

section
variable {s : State} {ses : Session} {i : Interval}

theorem State.endClose_drops (hses : s.billing.session = some ses) (hint : s.billing.interval = some i)
    (hempty : i.isEmpty = true) : s.endClose = s.withBilling { s.billing with interval := none } := by
  simp only [State.endClose, hses, hint]
  exact if_pos hempty

theorem State.endClose_writes (hses : s.billing.session = some ses) (hint : s.billing.interval = some i)
    (hempty : i.isEmpty = false) : s.endClose = (s.withBilling (s.billing.clockCut ses i)).enterRecord
      (s.billing.cutRecord ses i .sessionEnd s.billing.band) := by
  simp only [State.endClose, hses, hint]
  exact (if_neg (by simp [hempty])).trans rfl

end

/-! ## What the records of a close leave -/

/-- A state with the records of a close placed. -/
structure CloseBooked (q : Nat → Prop) (s : State) (b : Billing) (x : State) : Prop where
  billing : x.billing = b
  stops : PowerStops s x
  causes : OtherCauses [.journalNew] s x
  reads : ReadsSameBut q s x
  same : SameBut [.mem, .attn, .billing, .power, .relay, .insulation] s x
  wf : x.mem.wf = true

/-- The state as SESSION_CLOSE is placed, after an END close that touched only memory, the causes and the
billing unit. -/
theorem State.closeReady_booked {q : Nat → Prop} {s v : State} (slot : Option SlotNo) (ses : Session)
    (hsame : SameBut [.mem, .attn, .billing] s v) (hcauses : OtherCauses [.journalNew] s v)
    (hreads : ReadsSameBut q s v) (hwf : v.mem.wf = true) :
    CloseBooked q s (v.billing.adopted.sessionEnded slot ses) (v.closeReady slot ses) := by
  have hready := sameBut_stopKeepalive (v.withBilling (v.billing.adopted.sessionEnded slot ses))
  have hmem : (v.closeReady slot ses).mem = v.mem := hready .mem (by simp)
  have hattn : (v.closeReady slot ses).attn = v.attn := hready .attn (by simp)
  have hplain : SameBut [.billing] v (v.withBilling (v.billing.adopted.sessionEnded slot ses)) := by
    simp [sameBut_iff]
  exact
    { billing := v.closeReady_billing slot ses
      stops := (powerStops_stopKeepalive (v.withBilling (v.billing.adopted.sessionEnded slot ses))).congr
        (hsame .power (by simp)).symm (hsame .relay (by simp)).symm (hsame .insulation (by simp)).symm rfl rfl rfl
      causes := hcauses.trans (.refl _ hattn)
      reads := fun a ha => (congrArg (·.read a) hmem).trans (hreads a ha)
      same := (hsame.mono (by simp)).trans ((hplain.mono (by simp)).trans (hready.mono (by simp)))
      wf := by rw [hmem]; exact hwf }

namespace CloseBooked

variable {q q' : Nat → Prop} {s x y : State} {b b' : Billing} {r : Record}

theorem mono (h : CloseBooked q s b x) (hq : ∀ a, q a → q' a) : CloseBooked q' s b x :=
  ⟨h.billing, h.stops, h.causes, h.reads.mono hq, h.same, h.wf⟩

/-- A further record that enters the journal. -/
theorem wrote (h : CloseBooked q s b x) (hw : Wrote x b r y) : CloseBooked
    (fun a => q a ∨ journalHeader a ∨ recordBytes b.w a) s
    { b with w := b.w + 1, flaggedMark := if r.flags.flagged then some b.w else b.flaggedMark } y where
  billing := hw.billing
  stops := h.stops.congr rfl rfl rfl (hw.same .power (by simp)) (hw.same .relay (by simp))
    (hw.same .insulation (by simp))
  causes := h.causes.trans (.of_put hw.attn (by simp))
  reads := (h.reads.mono fun _ ha => .inl ha).trans (hw.reads.mono fun _ ha => .inr ha)
  same := h.same.trans (hw.same.mono (by simp))
  wf := hw.wf

/-- A further record that becomes the held record. -/
theorem kept (h : CloseBooked q s b x) (hk : Kept128 x b r y) :
    CloseBooked (fun a => q a ∨ a = 0x000B) s { b with held := some r } y where
  billing := hk.billing
  stops := h.stops.congr rfl rfl rfl (hk.same .power (by simp)) (hk.same .relay (by simp))
    (hk.same .insulation (by simp))
  causes := h.causes.trans (.refl _ (hk.same .attn (by simp)))
  reads := (h.reads.mono fun _ ha => .inl ha).trans (hk.reads.mono fun _ ha => .inr ha)
  same := h.same.trans (hk.same.mono (by simp))
  wf := hk.wf

/-- A further change of the billing unit alone. -/
theorem withBilling (h : CloseBooked q s b x) (b' : Billing) : CloseBooked q s b' (x.withBilling b') where
  billing := rfl
  stops := h.stops
  causes := h.causes
  reads := h.reads
  same := h.same.trans (by simp [sameBut_iff])
  wf := h.wf

end CloseBooked

end Sys2Proof.Machine
end

/-! # A close placed and ended (R87, R88) -/

section
namespace Sys2Proof.Machine

/-! ## SESSION_CLOSE placed -/

section
variable {q : Nat → Prop} {s v : State} (slot : Option SlotNo) (ses : Session)
  (hsame : SameBut [.mem, .attn, .billing] s v) (hcauses : OtherCauses [.journalNew] s v)
  (hreads : ReadsSameBut q s v) (hwf : v.mem.wf = true)

include hsame hcauses hreads hwf

/-- SESSION_CLOSE enters a journal with room. -/
theorem booked_room (hroom : Room v 1) :
    ∃ x, (v.closeReady slot ses).enterRecord (v.billing.adopted.sessionRecord ses) = x
      ∧ CloseBooked (fun a => q a ∨ journalHeader a ∨ recordBytes v.billing.w a) s
        { v.billing.adopted.sessionEnded slot ses with
          w := v.billing.w + 1
          flaggedMark := if (v.billing.adopted.sessionRecord ses).flags.flagged then some v.billing.w
            else v.billing.flaggedMark } x
      ∧ RecordAt x v.billing.w (v.billing.adopted.sessionRecord ses) ∧ x.attn.journalNew = true
      ∧ ReadsSameBut (fun a => journalHeader a ∨ recordBytes v.billing.w a) v x := by
  have hready := State.closeReady_booked slot ses hsame hcauses hreads hwf
  have hself := v.closeReady_withBilling slot ses
  have hmem : (v.closeReady slot ses).mem = v.mem := sameBut_stopKeepalive _ .mem (by simp)
  obtain ⟨hw, -⟩ := wrote_enterRecord (s := v.closeReady slot ses)
    (b := v.billing.adopted.sessionEnded slot ses) (k := 0) (v.billing.adopted.sessionRecord ses) hready.wf
    hroom
  rw [hself] at hw
  refine ⟨_, rfl, hready.wrote hw, hw.record, by rw [hw.attn]; rfl, fun a ha => ?_⟩
  rw [← hmem]
  exact hw.reads a ha

/-- SESSION_CLOSE finds the journal full and becomes the held record. -/
theorem booked_held (hfull : v.billing.fill = 128) (hheld : v.billing.held = none) :
    ∃ x, (v.closeReady slot ses).enterRecord (v.billing.adopted.sessionRecord ses) = x
      ∧ CloseBooked (fun a => q a ∨ a = 0x000B) s
        { v.billing.adopted.sessionEnded slot ses with
          held := some (v.billing.adopted.sessionRecord ses) } x
      ∧ Holds x (v.billing.adopted.sessionRecord ses)
      ∧ ReadsSameBut (fun a => a = 0x000B) v x ∧ x.attn = v.attn := by
  have hready := State.closeReady_booked slot ses hsame hcauses hreads hwf
  have hself := v.closeReady_withBilling slot ses
  have hmem : (v.closeReady slot ses).mem = v.mem := sameBut_stopKeepalive _ .mem (by simp)
  have hattn : (v.closeReady slot ses).attn = v.attn := sameBut_stopKeepalive _ .attn (by simp)
  have hk := kept128_enterRecord (s := v.closeReady slot ses)
    (b := v.billing.adopted.sessionEnded slot ses) (v.billing.adopted.sessionRecord ses) hready.wf hfull hheld
  rw [hself] at hk
  refine ⟨_, rfl, hready.kept hk, hk.holds, fun a ha => ?_, (hk.same .attn (by simp)).trans hattn⟩
  rw [← hmem]
  exact hk.reads a ha

/-- SESSION_CLOSE finds the held record occupied and becomes the waiting record. -/
theorem booked_waiting (hfull : v.billing.fill = 128) (hheld : v.billing.held.isSome = true) :
    ∃ x, (v.closeReady slot ses).enterRecord (v.billing.adopted.sessionRecord ses) = x
      ∧ CloseBooked q s { v.billing.adopted.sessionEnded slot ses with
          waiting := some (v.billing.adopted.sessionRecord ses) } x
      ∧ x.mem = v.mem ∧ x.attn = v.attn := by
  have hready := State.closeReady_booked slot ses hsame hcauses hreads hwf
  have hbilling := v.closeReady_billing slot ses
  have hfull' : (v.closeReady slot ses).billing.fill = 128 := by rw [hbilling]; exact hfull
  refine ⟨_, State.enterRecord_waits _ hfull'.ge (by rw [hbilling]; exact hheld), ?_,
    sameBut_stopKeepalive _ .mem (by simp), sameBut_stopKeepalive _ .attn (by simp)⟩
  rw [hbilling]
  exact hready.withBilling _

end

/-! ## A close ended, and one that waits for the journal (R88) -/

/-- The result of a completed close. -/
def CloseSummary.ending (sum : CloseSummary) : Ending := ⟨.ok, noteNone, sum.fields⟩

theorem Billing.outside_none {b : Billing} (seq : Word) (hheld : b.held = none) (hwaiting : b.waiting = none) :
    b.outside seq = false := by rw [Billing.outside, hheld, hwaiting]; rfl

theorem Billing.outside_held {b : Billing} {r : Record} (h : b.held = some r) : b.outside r.seq = true := by
  rw [Billing.outside, h]
  simp

theorem Billing.outside_waiting {b : Billing} {r : Record} (h : b.waiting = some r) :
    b.outside r.seq = true := by
  rw [Billing.outside, h]
  simp

section
variable {s : State} {sum : CloseSummary}

theorem State.completeClose_waits {slot : Option SlotNo}
    (h : s.billing.close = some ⟨slot, .awaitJournal sum⟩) (hout : s.billing.outside sum.seq = true) :
    s.completeClose = s := by
  rw [State.completeClose, h]
  exact if_pos hout

theorem State.completeClose_detached (h : s.billing.close = some ⟨none, .awaitJournal sum⟩)
    (hout : s.billing.outside sum.seq = false) :
    s.completeClose = s.withBilling { s.billing with close := none } := by
  rw [State.completeClose, h]
  exact if_neg (by simp [hout])

theorem State.completeClose_attached {n : SlotNo} (h : s.billing.close = some ⟨some n, .awaitJournal sum⟩)
    (hout : s.billing.outside sum.seq = false) :
    s.completeClose = (s.withBilling { s.billing with close := none }).finish n sum.ending := by
  rw [State.completeClose, h]
  exact if_neg (by simp [hout])

theorem State.afterClose_detached {b : Billing} {ph : ClosePhase} (h : b.close = some ⟨none, ph⟩) :
    s.afterClose b = s := by
  rw [State.afterClose, if_neg]
  simp [Billing.occupied, h]

theorem State.afterClose_empty {b : Billing} (h : s.queue .billing = []) : s.afterClose b = s := by
  rw [State.afterClose, State.drain_of_empty h, ite_self]

theorem State.afterClose_same : s.afterClose s.billing = s := by
  rw [State.afterClose, if_neg]
  cases s.billing.occupied <;> decide

/-- A close that still occupies its block, or a detached one, drains no queue. -/
theorem State.afterClose_kept {b : Billing} {slot : Option SlotNo} {ph ph' : ClosePhase}
    (hb : b.close = some ⟨slot, ph⟩) (hs : s.billing.close = some ⟨slot, ph'⟩) : s.afterClose b = s := by
  rw [State.afterClose, if_neg]
  have hsame : s.billing.occupied = b.occupied := by
    simp only [Billing.occupied, hb, hs]
    cases slot <;> rfl
  rw [hsame]
  cases b.occupied <;> decide

end

/-- A close ended from a state with its records placed. -/
structure CloseDone (q : Nat → Prop) (s : State) (slot : Option SlotNo) (e : Ending) (x t : State) :
    Prop where
  billing : t.billing = { x.billing with close := none }
  stops : PowerStops s t
  causes : OtherCauses [.orderDone, .journalNew] s t
  same : SameBut [.mem, .orders, .attn, .billing, .power, .relay, .insulation] s t
  news : x.attn.journalNew = true → t.attn.journalNew = true
  records : ∀ mark r, RecordAt x mark r → RecordAt t mark r
  detached : slot = none → t.orders = s.orders ∧ t.attn.orderDone = s.attn.orderDone ∧ ReadsSameBut q s t
  attached : ∀ n p, slot = some n → s.slot n = ⟨.running, some p⟩ →
    Ended t n p e ∧ OtherSlots n s t ∧ ReadsSameBut (fun a => engineBytes n a ∨ q a) s t

theorem closeDone {q : Nat → Prop} {s x : State} {b : Billing} {slot : Option SlotNo} {sum : CloseSummary}
    (h : CloseBooked q s b x) (hclose : b.close = some ⟨slot, .awaitJournal sum⟩) (hheld : b.held = none)
    (hwaiting : b.waiting = none) (hbefore : s.billing.close = some ⟨slot, .awaitHeld⟩)
    (hqueue : slot = none ∨ s.queue .billing = []) :
    CloseDone q s slot sum.ending x (x.completeClose.afterClose s.billing) := by
  let y := x.withBilling { x.billing with close := none }
  have hy : CloseBooked q s { x.billing with close := none } y := h.withBilling _
  have hout : x.billing.outside sum.seq = false := by
    rw [h.billing]
    exact Billing.outside_none _ hheld hwaiting
  have hxclose : x.billing.close = some ⟨slot, .awaitJournal sum⟩ := by rw [h.billing, hclose]
  have horders : y.orders = s.orders := hy.same .orders (by simp)
  cases slot with
  | none =>
    rw [State.completeClose_detached hxclose hout, State.afterClose_detached hbefore]
    exact
      { billing := rfl
        stops := hy.stops
        causes := hy.causes.mono (by simp)
        same := hy.same.mono (by simp)
        news := id
        records := fun _ _ hr => hr
        detached := fun _ => ⟨horders, hy.causes.2 .orderDone (by simp), hy.reads⟩
        attached := fun n p hn => by cases hn }
  | some n =>
    have hempty : (y.finish n sum.ending).queue .billing = [] := by
      rw [State.queue_congr (State.finish_queues _ _ _), State.queue_congr (congrArg _ horders)]
      exact hqueue.resolve_left (by simp)
    rw [State.completeClose_attached hxclose hout, State.afterClose_empty hempty]
    exact
      { billing := State.finish_billing _ _ _
        stops := hy.stops.congr rfl rfl rfl (State.finish_power _ _ _) (State.finish_relay _ _ _)
          (State.finish_insulation _ _ _)
        causes := (hy.causes.mono (by simp)).finish n _ (by simp)
        same := (hy.same.mono (by simp)).finish n _ (by simp) (by simp) (by simp)
        news := fun hnew => by
          rw [State.finish_attn]
          exact hnew
        records := fun mark r hr => RecordAt.finish (v := y) hr n _
        detached := fun hn => by cases hn
        attached := fun k p hn hslot => by
          obtain rfl : n = k := Option.some.inj hn
          refine ⟨ended_finish (v := y) _ ?_ hy.wf, ⟨fun k hk => ?_, ?_, ?_⟩, ?_⟩
          · rw [State.slot_congr horders, hslot]
          · rw [State.slot_finish_other _ _ hk, State.slot_congr horders]
          · rw [State.finish_queues, horders]
          · exact (show (y.finish n _).orders.notices = y.orders.notices from rfl).trans
              (congrArg Orders.notices horders)
          · exact (hy.reads.mono fun _ ha => .inr ha).trans
              ((y.finish_reads n _).mono fun _ ha => .inl ha) }

/-! ## The rows that carry a close on (R86 to R88) -/

theorem execCloseEnd_eq (s : State) :
    exec .closeSessionEndClose s = .next (s.continueClose.afterClose s.billing) := rfl

theorem execCloseComplete_eq (s : State) :
    exec .closeSessionComplete s = .next (s.completeClose.afterClose s.billing) := rfl

end Sys2Proof.Machine
end

/-! # The billing queue after a close (R32, R88) -/

section
namespace Sys2Proof.Machine

/-! ## Orders that have ended or run -/

/-- A slot's order has ended or runs. -/
def State.settled (s : State) (k : SlotNo) : Prop :=
  (s.slot k).state = .done ∨ (s.slot k).state = .running

theorem State.settled_congr {s t : State} (h : t.orders = s.orders) (k : SlotNo) :
    t.settled k ↔ s.settled k := by rw [State.settled, State.slot_congr h, State.settled]

theorem State.settled_finish (s : State) {n k : SlotNo} (e : Ending) (h : s.settled k ∨ k = n) :
    (s.finish n e).settled k := by
  by_cases hk : k = n
  · rw [State.settled, hk, State.slot_finish_same]
    exact .inl rfl
  · rw [State.settled, State.slot_finish_other _ _ hk]
    exact h.resolve_right hk

theorem State.settled_runs (s : State) {n k : SlotNo} (h : s.settled k ∨ k = n) :
    (s.setSlotState n .running).settled k := by
  by_cases hk : k = n
  · rw [State.settled, hk, State.slot_setSlotState_same]
    exact .inr rfl
  · rw [State.settled, State.slot_setSlotState_other _ _ hk]
    exact h.resolve_right hk

theorem State.settled_endCharge (s : State) {k : SlotNo} (cause : Byte) (h : s.settled k) :
    (s.endCharge cause).settled k := by
  unfold State.endCharge
  split
  · exact State.settled_finish _ _ (.inl h)
  · exact h

/-- A slot is settled, or its order is the one being taken. -/
def SettledBut (k : SlotNo) (l : Busy) (s : State) : Prop := (∃ e ∈ l.limbo, e.1 = k) ∨ s.settled k

namespace SettledBut

variable {k n : SlotNo} {o : Order} {l : Busy} {s t : State}

theorem keep (h : SettledBut k l s) (horders : t.orders = s.orders) : SettledBut k l t :=
  h.imp_right (State.settled_congr horders k).mpr

/-- The order taken is the slot's own, or the slot stands as without it. -/
theorem taken (h : SettledBut k (l.take n o) s) : SettledBut k l s ∨ k = n := by
  obtain ⟨e, he, hk⟩ | hs := h
  · rcases List.mem_cons.mp he with rfl | he
    · exact .inr hk.symm
    · exact .inl (.inl ⟨e, he, hk⟩)
  · exact .inl (.inr hs)

theorem finish (e : Ending) (h : SettledBut k l s ∨ k = n) : SettledBut k l (s.finish n e) := by
  obtain (hlimbo | hs) | hk := h
  · exact .inl hlimbo
  · exact .inr (s.settled_finish e (.inl hs))
  · exact .inr (s.settled_finish e (.inr hk))

theorem runs (h : SettledBut k l s ∨ k = n) : SettledBut k l (s.setSlotState n .running) := by
  obtain (hlimbo | hs) | hk := h
  · exact .inl hlimbo
  · exact .inr (s.settled_runs (.inl hs))
  · exact .inr (s.settled_runs (.inr hk))

end SettledBut

/-- No operation of a block unsettles a slot. -/
theorem settled_kept (k : SlotNo) : BodyKept (SettledBut k) where
  quiet h hs := hs.keep h.orders
  relabel h _ _ hs := hs.imp_left fun ⟨e, he, hk⟩ => ⟨e, h ▸ he, hk⟩
  journal r _ hs := hs.keep (by simp)
  holdRecord _ _ hs := hs
  freeHeld hs := hs
  holdBegins hs := hs.keep (by simp)
  holdEnds hs := hs.keep (by simp)
  levels _ _ hs := hs
  mark _ hs := hs
  shown hs := hs
  trip _ hs := hs.keep (by simp)
  clears hs := hs.keep (by simp)
  condition _ _ hs := hs.keep (by simp [State.newCondition])
  fault _ _ _ hs := hs.keep (by simp [State.newCondition])
  sessionOpens _ _ _ hs := hs
  sessionEnds _ _ hs := hs
  finishes e hs := .finish e hs.taken
  chargeEnds e _ _ hs := .finish e (.inl hs)
  planEnds e _ _ hs := .finish e (.inl hs)
  checkEnds e _ hs := .finish e (.inl hs)
  closeEnds e _ hs := .finish e (.inl hs)
  chargeRuns _ _ _ hs := .runs hs.taken
  planRuns _ _ _ hs := .runs hs.taken
  checkRuns _ hs := .runs hs.taken
  closeRuns _ _ hs := by
    rcases SettledBut.runs hs.taken with hlimbo | hs
    · exact .inl hlimbo
    · exact .inr ((State.settled_congr (State.failGate_orders _) _).mpr (State.settled_endCharge _ _ hs))

/-- A check whose row does not find its block free still settles its slot. -/
theorem SettledBut.takeCheck {k n : SlotNo} {s : State} (h : SettledBut k .none s ∨ k = n) :
    SettledBut k .none (s.takeCheck n) := by
  unfold State.takeCheck
  split
  · exact .finish _ h
  · exact (SettledBut.runs h).keep rfl
  · exact (SettledBut.runs h).keep rfl

theorem SettledBut.afterTake {k : SlotNo} {o : Order} {s : State}
    (h : SettledBut k (Busy.none.afterTake o) s) : s.settled k := by
  rcases h with ⟨e, he, -⟩ | hs
  · cases o <;> exact absurd he List.not_mem_nil
  · exact hs

/-- An order taken settles its own slot, where it is not a WITHDRAW, and unsettles none. -/
theorem State.settled_takeOwned {s : State} {n k : SlotNo} {o : Order}
    (h : s.settled k ∨ k = n ∧ orderBlock o = some .billing) : (s.takeOwned n o).settled k := by
  have hbut : SettledBut k (Busy.none.take n o) s :=
    h.symm.imp (fun hk => ⟨(n, o), List.mem_cons_self, hk.1.symm⟩) id
  cases o with
  | withdraw t => exact h.resolve_right fun hk => by cases hk.2
  | checkInsulation =>
    exact SettledBut.afterTake (o := .checkInsulation)
      (SettledBut.takeCheck (.inl (.inr (h.resolve_right fun hk => by cases hk.2))))
  | _ => exact ((settled_kept k).takeOwned (.inr ⟨by simp, by simp⟩) hbut).afterTake

/-! ## The queue of a block drained (R32) -/

/-- What every take of a queue's head keeps, its drain keeps. -/
theorem State.drainUpTo_keeps {b : Block} {R : State → Prop} {q : List SlotNo}
    (hstep : ∀ s m rest, m ∈ q → s.queue b = m :: rest → R s → R (s.takeHead b m rest)) :
    ∀ (fuel : Nat) (s : State), (∀ m ∈ s.queue b, m ∈ q) → R s → R (State.drainUpTo b fuel s) := by
  intro fuel
  induction fuel with
  | zero => exact fun s _ h => h
  | succ fuel ih =>
    intro s hq h
    unfold State.drainUpTo
    split
    · exact h
    next m rest hm =>
      split
      · exact h
      · refine ih _ (fun x hx => ?_) (hstep s m rest (hq m (by rw [hm]; exact List.mem_cons_self)) hm h)
        rw [State.takeHead_queue] at hx
        exact hq x (by rw [hm]; exact List.mem_cons_of_mem _ hx)

/-- An order of the billing unit waits in its queue, or has ended or runs. -/
def State.queuedOrSettled (s : State) (k : SlotNo) (p : Posted) : Prop :=
  (s.slot k).posted = some p ∧ (k ∈ s.queue .billing ∨ s.settled k)

theorem State.takeHead_settles {s : State} {m k : SlotNo} {rest : List SlotNo} {p : Posted}
    (hblock : orderBlock p.order = some .billing) (hm : s.queue .billing = m :: rest)
    (h : s.queuedOrSettled k p) : (s.takeHead .billing m rest).queuedOrSettled k p := by
  obtain ⟨hposted, hk⟩ := h
  rw [hm] at hk
  have hqueue := s.takeHead_queue .billing m rest
  unfold State.takeHead at hqueue ⊢
  split
  next q hq =>
    have hown : k = m → orderBlock q.order = some .billing := by
      rintro rfl
      rw [← hblock, Option.some.inj (hq.symm.trans hposted)]
    refine ⟨(posted_kept k p).takeOwned (l := Busy.none) (.inl (labelFree_of_const _)) hposted, ?_⟩
    rw [State.queue_congr (State.takeOwned_queues _ _ _), State.queue_setQueue_same]
    rcases hk with hk | hk
    · rcases List.mem_cons.mp hk with hk | hk
      · exact .inr (State.settled_takeOwned (.inr ⟨hk, hown hk⟩))
      · exact .inl hk
    · exact .inr (State.settled_takeOwned (.inl hk))
  next hq =>
    refine ⟨hposted, ?_⟩
    rw [State.queue_setQueue_same]
    rcases hk with hk | hk
    · rcases List.mem_cons.mp hk with rfl | hk
      · rw [hq] at hposted
        cases hposted
      · exact .inl hk
    · exact .inr hk

/-- The drain that follows an attached close leaves the billing queue as R32 has it. -/
theorem drained_afterClose {s u : State} (hqueues : u.orders.queues = s.orders.queues)
    (hposted : ∀ k p, (s.slot k).posted = some p → (u.slot k).posted = some p)
    (hocc : s.billing.occupied = true) : Drained .billing s (u.afterClose s.billing) := by
  have hqueue : u.queue .billing = s.queue .billing := State.queue_congr hqueues _
  cases hu : u.billing.occupied with
  | true =>
    rw [State.afterClose, if_neg (by simp [hu])]
    refine ⟨.inr hu, fun k hk hnot => ?_⟩
    rw [hqueue] at hnot
    exact absurd hk hnot
  | false =>
    rw [State.afterClose, if_pos (by simp [hu, hocc])]
    refine ⟨State.drain_done u .billing, fun k hk hnot p hp hblock => ?_⟩
    have hkept : (u.drain .billing).queuedOrSettled k p :=
      State.drainUpTo_keeps (q := u.queue .billing) (R := fun s => s.queuedOrSettled k p)
        (fun _ _ _ _ hm h => State.takeHead_settles hblock hm h) _ u (fun _ => id)
        ⟨hposted k p hp, .inl (by rw [hqueue]; exact hk)⟩
    exact hkept.2.resolve_left hnot

/-! ## No slot's close begins but through its own order -/

/-- A slot has no close, and its order is not the one being taken. -/
def NoCloseFor (n : SlotNo) (l : Busy) (s : State) : Prop :=
  (∀ e ∈ l.limbo, e.1 ≠ n) ∧ s.runningSlot .close ≠ some n

namespace NoCloseFor

variable {n m : SlotNo} {o : Order} {l : Busy} {s t : State}

theorem keep (h : NoCloseFor n l s) (hclose : t.billing.close = s.billing.close) : NoCloseFor n l t :=
  ⟨h.1, by
    have hsame : t.runningSlot .close = s.runningSlot .close := congrArg (Option.bind · Closing.slot) hclose
    rw [hsame]
    exact h.2⟩

theorem taken (h : NoCloseFor n (l.take m o) s) : NoCloseFor n l s ∧ m ≠ n :=
  ⟨⟨fun e he => h.1 e (List.mem_cons_of_mem _ he), h.2⟩, h.1 (m, o) List.mem_cons_self⟩

theorem finish (e : Ending) (h : NoCloseFor n l s) : NoCloseFor n l (s.finish m e) :=
  h.keep (congrArg Billing.close (State.finish_billing _ _ _))

end NoCloseFor

theorem noClose_kept (n : SlotNo) : BodyKept (NoCloseFor n) where
  quiet h hs := ⟨hs.1, by rw [h.running]; exact hs.2⟩
  relabel h _ _ hs := ⟨h ▸ hs.1, hs.2⟩
  journal r _ hs := hs.keep (by rw [State.journalWrite_billing])
  holdRecord _ _ hs := hs
  freeHeld hs := hs
  holdBegins hs := hs.keep (by simp)
  holdEnds hs := hs.keep rfl
  levels _ _ hs := hs
  mark _ hs := hs
  shown hs := hs
  trip _ hs := hs.keep (by simp)
  clears hs := hs.keep (by simp)
  condition _ _ hs := hs.keep (by simp [State.newCondition])
  fault _ _ _ hs := hs.keep (by simp [State.newCondition])
  sessionOpens _ _ _ hs := hs
  sessionEnds {_ s _} sum hc hs := ⟨hs.1, by
    have hslot := hs.2
    simp only [State.runningSlot, hc] at hslot
    exact hslot⟩
  finishes e hs := .finish e hs.taken.1
  chargeEnds e _ _ hs := .finish e (hs.keep rfl)
  planEnds e _ _ hs := .finish e (hs.keep rfl)
  checkEnds e _ hs := .finish e (hs.keep rfl)
  closeEnds e _ hs := .finish e ⟨hs.1, fun h => by cases h⟩
  chargeRuns _ _ _ hs := hs.taken.1.keep (by simp)
  planRuns _ _ _ hs := hs.taken.1.keep (by simp)
  checkRuns _ hs := hs.taken.1.keep (by simp)
  closeRuns {_ s m _ ses} _ _ hs := ⟨hs.taken.1.1, by
    have hclose : (s.startClose m ses).billing.close = some ⟨some m, .awaitRelay⟩ := by
      rw [State.startClose, State.failGate_billing, State.endCharge]
      split
      · rw [State.finish_billing]
        rfl
      · rfl
    simp only [State.runningSlot, hclose]
    exact fun h => hs.taken.2 (Option.some.inj h)⟩

theorem State.noClose_takeOwned {s : State} {n m : SlotNo} {o : Order} (hm : m ≠ n)
    (h : s.runningSlot .close ≠ some n) : (s.takeOwned m o).runningSlot .close ≠ some n := by
  have hbut : NoCloseFor n (Busy.none.take m o) s := ⟨by simp [Busy.take, Busy.none, hm], h⟩
  cases o with
  | withdraw t => exact h
  | checkInsulation =>
    have hclose : (s.takeOwned m .checkInsulation).billing.close = s.billing.close := by
      show (s.takeCheck m).billing.close = _
      unfold State.takeCheck
      split <;> simp
    exact (hbut.keep hclose).2
  | _ => exact ((noClose_kept n).takeOwned (.inr ⟨by simp, by simp⟩) hbut).2

/-- A drain begins no close for a slot outside the queue. -/
theorem State.noClose_afterClose {u : State} {n : SlotNo} (b : Billing) (hn : n ∉ u.queue .billing)
    (h : u.runningSlot .close ≠ some n) : (u.afterClose b).runningSlot .close ≠ some n := by
  unfold State.afterClose
  split
  · refine State.drainUpTo_keeps (q := u.queue .billing) (R := fun s => s.runningSlot .close ≠ some n)
      (fun s m rest hm _ hs => ?_) _ u (fun _ => id) h
    have hne : m ≠ n := fun heq => hn (heq ▸ hm)
    unfold State.takeHead
    split
    · exact State.noClose_takeOwned (s := s.setQueue .billing rest) hne hs
    · exact hs
  · exact h

end Sys2Proof.Machine
end

/-! # A close ends and completes (O41) -/

section
namespace Sys2Proof.Machine

section
variable {s : State} {slot : Option SlotNo}

/-- A close that still waits for its relay or for the held record stays (R86, R87). -/
theorem State.continueClose_waits (h : s.billing.close = some ⟨slot, .awaitRelay⟩
    ∨ s.billing.close = some ⟨slot, .awaitHeld⟩ ∧ s.billing.held.isSome = true) : s.continueClose = s := by
  rcases h with h | ⟨h, hheld⟩
  · rw [State.continueClose, h]
  · rw [State.continueClose, h]
    exact if_pos hheld

/-- The END close of an interval with something to write, with room for its record (R87, R93). -/
theorem State.endClose_wrote {ses : Session} {i : Interval} {k : Nat}
    (hses : s.billing.session = some ses) (hint : s.billing.interval = some i) (hempty : i.isEmpty = false)
    (hwf : s.mem.wf = true) (hroom : Room s (k + 1)) :
    ∃ v, s.endClose = v ∧ Wrote s (s.billing.clockCut ses i)
      (s.billing.cutRecord ses i .sessionEnd s.billing.band) v ∧ Room v k := by
  obtain ⟨hw, hnext⟩ := wrote_enterRecord (s := s) (b := s.billing.clockCut ses i) (k := k)
    (s.billing.cutRecord ses i .sessionEnd s.billing.band) hwf hroom
  exact ⟨_, State.endClose_writes hses hint hempty, hw, hnext⟩

/-- A close whose SESSION_CLOSE finds room ends, as CLOSE_SESSION_END_CLOSE is carried out (R87, R88). -/
theorem exec_closeEnd_room {q : Nat → Prop} {v : State} {b : Billing} {ses : Session}
    (hclose : s.billing.close = some ⟨slot, .awaitHeld⟩) (hheld : s.billing.held = none)
    (hqueue : slot = none ∨ s.queue .billing = []) (hend : s.endClose = v) (hb : v.billing = b)
    (hses : b.session = some ses) (hsame : SameBut [.mem, .attn, .billing] s v)
    (hcauses : OtherCauses [.journalNew] s v) (hreads : ReadsSameBut q s v) (hwf : v.mem.wf = true)
    (hroom : Room v 1) (hwaiting : b.waiting = none) :
    ∃ x t, exec .closeSessionEndClose s = .next t
      ∧ CloseDone (fun a => q a ∨ journalHeader a ∨ recordBytes b.w a) s slot
        (ses.summary b.nextSeq).ending x t
      ∧ RecordAt t b.w (b.adopted.sessionRecord ses) ∧ t.attn.journalNew = true
      ∧ t.billing = { b.adopted.sessionEnded slot ses with
          w := b.w + 1
          flaggedMark := if (b.adopted.sessionRecord ses).flags.flagged then some b.w else b.flaggedMark
          close := none }
      ∧ ∀ mark r, RecordAt v mark r → (∀ a, recordBytes mark a → ¬recordBytes b.w a) →
          RecordAt t mark r := by
  subst hb
  obtain ⟨x, hx, hbooked, hrecord, hnews, hlate⟩ := booked_room slot ses hsame hcauses hreads hwf hroom
  have hdone := closeDone hbooked rfl hroom.1 hwaiting hclose hqueue
  have hcont := State.continueClose_eq hclose hheld hend hses
  rw [hx] at hcont
  refine ⟨x, _, by rw [execCloseEnd_eq, hcont], hdone, hdone.records _ _ hrecord, hdone.news hnews, ?_,
    fun mark r hr hapart => hdone.records _ _ (hr.keep hlate fun a ha hstored => ?_)⟩
  · rw [hdone.billing, hbooked.billing]
  · rcases hstored with hheader | hnext
    · have h1 := recordBytes_bounds ha
      have h2 := journalHeader_bound hheader
      omega
    · exact hapart a ha hnext

/-- A close whose SESSION_CLOSE is not yet in the journal waits for it (R88, R101). -/
theorem exec_closeEnd_waits {q : Nat → Prop} {x : State} {b : Billing} {sum : CloseSummary}
    (hbefore : s.billing.close = some ⟨slot, .awaitHeld⟩) (h : CloseBooked q s b x)
    (hclose : b.close = some ⟨slot, .awaitJournal sum⟩) (hout : b.outside sum.seq = true)
    (hx : s.continueClose = x.completeClose) : exec .closeSessionEndClose s = .next x := by
  have hxclose : x.billing.close = some ⟨slot, .awaitJournal sum⟩ := by rw [h.billing, hclose]
  have hstays : x.completeClose = x := State.completeClose_waits hxclose (by rw [h.billing, hout])
  rw [execCloseEnd_eq, hx, hstays, State.afterClose_kept hbefore hxclose]

/-- A close whose SESSION_CLOSE becomes the held record. -/
theorem exec_closeEnd_held {q : Nat → Prop} {v : State} {b : Billing} {ses : Session}
    (hclose : s.billing.close = some ⟨slot, .awaitHeld⟩) (hheld : s.billing.held = none)
    (hend : s.endClose = v) (hb : v.billing = b) (hses : b.session = some ses)
    (hsame : SameBut [.mem, .attn, .billing] s v) (hcauses : OtherCauses [.journalNew] s v)
    (hreads : ReadsSameBut q s v) (hwf : v.mem.wf = true) (hfull : b.fill = 128) (hfree : b.held = none) :
    ∃ x, exec .closeSessionEndClose s = .next x
      ∧ CloseBooked (fun a => q a ∨ a = 0x000B) s
        { b.adopted.sessionEnded slot ses with held := some (b.adopted.sessionRecord ses) } x
      ∧ Holds x (b.adopted.sessionRecord ses)
      ∧ ReadsSameBut (fun a => a = 0x000B) v x ∧ x.attn = v.attn := by
  subst hb
  obtain ⟨x, hx, hbooked, hholds, hlate, hattn⟩ := booked_held slot ses hsame hcauses hreads hwf hfull hfree
  have hcont := State.continueClose_eq hclose hheld hend hses
  rw [hx] at hcont
  exact ⟨x, exec_closeEnd_waits hclose hbooked rfl
    (Billing.outside_held (r := v.billing.adopted.sessionRecord ses) rfl) hcont, hbooked, hholds, hlate, hattn⟩

/-- A close whose SESSION_CLOSE becomes the waiting record. -/
theorem exec_closeEnd_waiting {q : Nat → Prop} {v : State} {b : Billing} {ses : Session}
    (hclose : s.billing.close = some ⟨slot, .awaitHeld⟩) (hheld : s.billing.held = none)
    (hend : s.endClose = v) (hb : v.billing = b) (hses : b.session = some ses)
    (hsame : SameBut [.mem, .attn, .billing] s v) (hcauses : OtherCauses [.journalNew] s v)
    (hreads : ReadsSameBut q s v) (hwf : v.mem.wf = true) (hfull : b.fill = 128)
    (hkept : b.held.isSome = true) :
    ∃ x, exec .closeSessionEndClose s = .next x
      ∧ CloseBooked q s { b.adopted.sessionEnded slot ses with
          waiting := some (b.adopted.sessionRecord ses) } x
      ∧ x.mem = v.mem ∧ x.attn = v.attn := by
  subst hb
  obtain ⟨x, hx, hbooked, hmem, hattn⟩ := booked_waiting slot ses hsame hcauses hreads hwf hfull hkept
  have hcont := State.continueClose_eq hclose hheld hend hses
  rw [hx] at hcont
  exact ⟨x, exec_closeEnd_waits hclose hbooked rfl
    (Billing.outside_waiting (r := v.billing.adopted.sessionRecord ses) rfl) hcont, hbooked, hmem, hattn⟩

end

/-! ## The journal after both records (R97) -/

/-- The flags of a session tell of every interval it has written. -/
theorem RecFlags.flagged_union (a : RecFlags) {b : RecFlags} (h : b.flagged = true) :
    (a.union b).flagged = true := by
  simp only [RecFlags.flagged, RecFlags.union, Bool.or_eq_true] at h ⊢
  tauto

theorem RecFlags.flagged_unset {f : RecFlags} (c : Bool) (h : f.flagged = true) :
    ({ f with clockUnset := f.clockUnset || c } : RecFlags).flagged = true := by
  simp only [RecFlags.flagged, Bool.or_eq_true] at h ⊢
  tauto

/-- The billing unit with the END record in the journal. -/
def Billing.endWritten (b : Billing) (ses : Session) (i : Interval) : Billing :=
  { b.clockCut ses i with
    w := b.w + 1
    flaggedMark := if i.flags.flagged then some b.w else b.flaggedMark }

/-- The billing unit with the END record held. -/
def Billing.endHeld (b : Billing) (ses : Session) (i : Interval) : Billing :=
  { b.clockCut ses i with held := some (b.cutRecord ses i .sessionEnd b.band) }

/-- Where both records are in the journal, the later one decides the flagged mark: its flags take in those
of the interval (R82, R97). -/
theorem Billing.endWritten_mark (b : Billing) (ses : Session) (i : Interval) (mark : Option Half) :
    (if ((b.endWritten ses i).adopted.sessionRecord (ses.afterWritten i)).flags.flagged then mark
      else (b.endWritten ses i).flaggedMark) =
    if ((b.endWritten ses i).adopted.sessionRecord (ses.afterWritten i)).flags.flagged then mark
      else b.flaggedMark := by
  by_cases h : i.flags.flagged = true
  · have hlate : ((b.endWritten ses i).adopted.sessionRecord (ses.afterWritten i)).flags.flagged = true :=
      RecFlags.flagged_unset _ (RecFlags.flagged_union ses.flags h)
    rw [if_pos hlate, if_pos hlate]
  · rw [show (b.endWritten ses i).flaggedMark = b.flaggedMark from if_neg h]

/-- What both records store. -/
theorem closeStored {w : Half} {a : Nat}
    (h : (journalHeader a ∨ recordBytes w a) ∨ journalHeader a ∨ recordBytes (w + 1) a) :
    journalHeader a ∨ recordBytes w a ∨ (false = false ∧ recordBytes (w + 1) a) := by
  tauto

theorem CloseBooked.quietCauses {q : Nat → Prop} {s x : State} {b : Billing} (h : CloseBooked q s b x)
    (hattn : x.attn = s.attn) : SameBut [.mem, .billing, .power, .relay, .insulation] s x := fun p hp => by
  by_cases hp' : p = .attn
  · subst hp'
    exact hattn
  · refine h.same p fun hmem => ?_
    simp only [List.mem_cons, List.not_mem_nil, or_false] at hmem hp
    tauto

/-! ## An attached close and its queue (R32, R88) -/

section
variable {s : State} {n : SlotNo}

theorem exec_closeComplete_ends {sum : CloseSummary} {p : Posted} (hwf : s.mem.wf = true)
    (hclose : s.billing.close = some ⟨some n, .awaitJournal sum⟩)
    (hout : s.billing.outside sum.seq = false) (hslot : s.slot n = ⟨.running, some p⟩)
    (hqueue : s.queue .billing = []) :
    ∃ t, exec .closeSessionComplete s = .next t ∧ Ended t n p sum.ending
      ∧ t.billing = { s.billing with close := none } ∧ OrderFrame n [.billing] s t := by
  let v := s.withBilling { s.billing with close := none }
  have hempty : (v.finish n sum.ending).queue .billing = [] := by
    rw [State.queue_congr (State.finish_queues _ _ _)]
    exact hqueue
  refine ⟨v.finish n sum.ending, ?_, ended_finish (v := v) _ (congrArg Slot.posted hslot) hwf,
    State.finish_billing _ _ _, v.finish_reads n _,
    ⟨fun k hk => State.slot_finish_other _ _ hk, State.finish_queues _ _ _, rfl⟩,
    otherCauses_finish n _ rfl,
    SameBut.finish (v := v) (by simp [sameBut_iff, v]) n _ (by simp) (by simp) (by simp)⟩
  rw [execCloseComplete_eq, State.completeClose_attached hclose hout, State.afterClose_empty hempty]

theorem close_drains_end {ph : ClosePhase} (hclose : s.billing.close = some ⟨some n, ph⟩) :
    Drained .billing s (s.continueClose.afterClose s.billing) :=
  drained_afterClose (State.continueClose_queues s)
    (fun k p hp => (posted_kept k p).continueClose (l := Busy.none) hp) (by rw [Billing.occupied, hclose])

theorem close_drains_complete {ph : ClosePhase} (hclose : s.billing.close = some ⟨some n, ph⟩) :
    Drained .billing s (s.completeClose.afterClose s.billing) :=
  drained_afterClose (State.completeClose_queues s)
    (fun k p hp => (posted_kept k p).completeClose (l := Busy.none) hp) (by rw [Billing.occupied, hclose])

/-- A close that has ended begins no more, where its slot is not in the queue. -/
theorem close_staysEnded {sum : CloseSummary} (hclose : s.billing.close = some ⟨some n, .awaitJournal sum⟩)
    (hout : s.billing.outside sum.seq = false) (hnot : n ∉ s.queue .billing) :
    (s.completeClose.afterClose s.billing).runningSlot .close ≠ some n := by
  have hnone : s.completeClose.runningSlot .close ≠ some n := by
    rw [State.completeClose_attached hclose hout]
    simp [State.runningSlot]
  refine State.noClose_afterClose s.billing ?_ hnone
  rw [State.queue_congr (State.completeClose_queues s)]
  exact hnot

end

/-- Settles O41. With room the records enter the journal and the close ends; with the journal full it waits. -/
theorem closeSessionEndsAndCompletes : Obligations.CloseSessionEndsAndCompletes := by
  intro s slot hwf
  refine ⟨fun hwaits => ?_, ?_, fun sum hclose => ⟨fun hout => ?_, fun hout => ⟨fun hnone => ?_,
    fun n p hn hslot hqueue => ?_⟩⟩, fun n ph hn hclose => ⟨?_, ?_⟩⟩
  · rw [execCloseEnd_eq, State.continueClose_waits hwaits, State.afterClose_same]
  · intro ses i hclose hses hint hheld hwaiting empty k cost wh carries flags written seq table after r1 r2
      waits result powerStops
    have hpassed : i.isEmpty = empty := rfl
    clear_value empty
    cases empty with
    | true =>
      let v := s.withBilling { s.billing with interval := none }
      have hend : s.endClose = v := State.endClose_drops hses hint hpassed
      have hv : SameBut [.mem, .attn, .billing] s v := by simp [sameBut_iff, v]
      refine ⟨fun hroom hqueue => ?_, fun hfull => ?_, fun h => (by cases h)⟩
      · obtain ⟨x, t, hexec, hdone, hrecord, hnews, hb, -⟩ := exec_closeEnd_room
          (q := fun _ => False) hclose hheld
          hqueue hend rfl hses hv (.refl _ rfl) (fun _ _ => rfl) hwf hroom hwaiting
        refine ⟨t, hexec, fun _ => hrecord, fun h => (by cases h), ?_, hdone.stops, hnews, hdone.causes,
          hdone.same, fun hn => ?_, fun n p hn hslot => ?_⟩
        · rw [hb]
          simp only [k, if_true, Nat.sub_self, BitVec.add_zero]
          rfl
        · obtain ⟨horders, horder, hreads⟩ := hdone.detached hn
          exact ⟨horders, horder, hreads.mono fun a ha => by tauto⟩
        · obtain ⟨hended, hothers, hreads⟩ := hdone.attached n p hn hslot
          exact ⟨hended, hothers, hreads.mono fun a ha => by tauto⟩
      · obtain ⟨x, hexec, hbooked, hholds, -, hattn⟩ := exec_closeEnd_held
          (q := fun _ => False) hclose hheld hend rfl hses hv (.refl _ rfl) (fun _ _ => rfl) hwf hfull hheld
        refine ⟨x, hexec, hholds, hbooked.billing.trans ?_, hbooked.stops,
          hbooked.reads.mono fun a ha => by tauto, ?_⟩
        · exact congrArg
            (fun w => ({ after with held := some r2, waiting := w, close := waits } : Billing)) hwaiting
        · exact hbooked.quietCauses hattn
    | false =>
      refine ⟨fun hroom hqueue => ?_, fun hfull => ?_, fun _ hfull hhold => ?_⟩
      · obtain ⟨v, hend, hw, hroom'⟩ := State.endClose_wrote (k := 1) hses hint hpassed hwf hroom
        obtain ⟨x, t, hexec, hdone, hrecord, hnews, hb, hkeeps⟩ := exec_closeEnd_room
          (q := fun a => journalHeader a ∨ recordBytes s.billing.w a) hclose hheld hqueue hend
          (b := s.billing.endWritten ses i) hw.billing rfl (hw.same.mono (by simp)) (.of_put hw.attn (by simp))
          hw.reads hw.wf hroom' hwaiting
        refine ⟨t, hexec, fun h => (by cases h), fun _ => ⟨hkeeps _ _ hw.record fun a => not_recordBytes_next,
          hrecord⟩, ?_, hdone.stops, hnews, hdone.causes, hdone.same, fun hn => ?_, fun n p hn hslot => ?_⟩
        · rw [hb, Billing.endWritten_mark]
          have hw2 : s.billing.w + 1 + 1 = s.billing.w + BitVec.ofNat 16 2 := by
            rw [BitVec.add_assoc]
            rfl
          exact congrArg (fun w => ({ after with
            w := w
            flaggedMark := if r2.flags.flagged then some (s.billing.w + 1)
              else s.billing.flaggedMark } : Billing)) hw2
        · obtain ⟨horders, horder, hreads⟩ := hdone.detached hn
          exact ⟨horders, horder, hreads.mono fun _ => closeStored⟩
        · obtain ⟨hended, hothers, hreads⟩ := hdone.attached n p hn hslot
          exact ⟨hended, hothers, hreads.mono fun _ ha => ha.imp_right closeStored⟩
      · have hk := kept128_enterRecord (s := s) (b := s.billing.clockCut ses i)
          (s.billing.cutRecord ses i .sessionEnd s.billing.band) hwf hfull hheld
        obtain ⟨x, hexec, hbooked, hmem, hattn⟩ := exec_closeEnd_waiting hclose hheld
          (State.endClose_writes hses hint hpassed) (b := s.billing.endHeld ses i) hk.billing rfl
          (hk.same.mono (by simp)) (.refl _ (hk.same .attn (by simp))) hk.reads hk.wf hfull rfl
        refine ⟨x, hexec, ⟨by rw [hbooked.billing]; rfl, by rw [hmem]; exact hk.holds.2⟩, hbooked.billing,
          hbooked.stops, hbooked.reads, hbooked.quietCauses (hattn.trans (hk.same .attn (by simp)))⟩
      · obtain ⟨v, hend, hw, -⟩ := State.endClose_wrote (k := 0) hses hint hpassed hwf
          ⟨hheld, by omega, .inl hhold⟩
        have hfill : (s.billing.endWritten ses i).fill = 128 := by
          have hnext := Billing.fill_of_next (b := s.billing) (b' := s.billing.endWritten ses i)
            rfl rfl (by omega)
          omega
        obtain ⟨x, hexec, hbooked, hholds, hlate, hattn⟩ := exec_closeEnd_held hclose hheld hend
          (b := s.billing.endWritten ses i) hw.billing rfl (hw.same.mono (by simp)) (.of_put hw.attn (by simp))
          hw.reads hw.wf hfill hheld
        refine ⟨x, hexec, hw.record.keep hlate fun a ha hstored => ?_, hholds, hbooked.billing,
          hbooked.stops, ?_, hbooked.causes, hbooked.reads.mono fun a ha => ?_, hbooked.same⟩
        · have h1 := recordBytes_bounds ha
          omega
        · rw [hattn, hw.attn]
          rfl
        · rcases ha with ha | ha
          · exact ha
          · exact .inl (.inr (.inr (.inl ha)))
  · rw [execCloseComplete_eq, State.completeClose_waits hclose hout, State.afterClose_same]
  · subst hnone
    rw [execCloseComplete_eq, State.completeClose_detached hclose hout, State.afterClose_detached hclose]
  · subst hn
    exact exec_closeComplete_ends hwf hclose hout hslot hqueue
  · subst hn
    exact ⟨_, execCloseEnd_eq s, close_drains_end hclose⟩
  · subst hn
    refine ⟨_, execCloseComplete_eq s, close_drains_complete hclose, fun sum hph hout hnot ph' hlast => ?_⟩
    subst hph
    exact close_staysEnded hclose hout hnot (by rw [State.runningSlot, hlast]; rfl)

end Sys2Proof.Machine
end
